-- ==== Sys2Proof/Word.lean ====
section
/-! DEFINITION. Bytes and two-byte numbers as every structure of the part carries them (11_wire_formats.md, R182). -/

namespace Sys2Proof

/-- One byte of a frame, telegram, reply or record. -/
abbrev Byte := BitVec 8

/-- A tag, a counter value or the link CRC: two bytes. -/
abbrev Word16 := BitVec 16

/-- The byte carried first (R182: high byte first). -/
def hiByte (w : Word16) : Byte := w.extractLsb' 8 8

/-- The byte carried second. -/
def loByte (w : Word16) : Byte := w.extractLsb' 0 8

/-- The number carried by two bytes, high byte first (R182). -/
def word16 (hi lo : Byte) : Word16 := hi ++ lo

/-- A small number carried as one byte (R182). -/
def byteOf (n : Nat) : Byte := BitVec.ofNat 8 n

end Sys2Proof
end

