-- ==== Sys2Proof/Syntax.lean ====
section
/-! DEFINITION. The commands of the block: one constructor for each row of spec/opcode_table.json.
The operands of a constructor are what the step of that row brings from outside. -/

namespace Sys2Proof

/-- A customer lane, 0 to 7 (00_scope.md, Numbering of resources). -/
abbrev LaneNo := Fin 8

/-- A unit slot, 0 to 15 (00_scope.md, Numbering of resources). -/
abbrev SlotNo := Fin 16

/-- The two drop lines. -/
inductive Line where
  | a
  | b
  deriving DecidableEq, Repr

/-- What the receiver of a drop line samples inside one character (R49): the data bits (bit 7 is not sampled
under a 7-bit format), the parity bit (looked at only where the format has one) and the first stop bit,
`true` standing for mark. -/
structure Sampled where
  data : Byte
  parity : Bool
  stop : Bool
  deriving DecidableEq, Repr

/-- The commands. A lane command's row is the closing delimiter of a good LANE_COMMANDS frame whose first command
is that one; `rest` is what follows it in the body. A management row is MGU taking the latched request of that
code, so its operands are the bytes in the request latch (R22). A row of a drop line carries the line. -/
inductive Instr where
  /-- HARDWARE_RESET (R20): RESETn low, or power-up. -/
  | hardwareReset
  /-- LINK_CHARACTER (R6): eight sampled data bits and the sampled stop bit (`true`: mark). -/
  | linkCharacter (data : Byte) (stop : Bool)
  /-- REQUEST (R11): a good REQUEST frame with this body. -/
  | request (body : List Byte)
  /-- LANE_COMMANDS (R10): a good LANE_COMMANDS frame that begins with no well-formed command. -/
  | laneCommands (lane : LaneNo) (body : List Byte)
  /-- OPEN (R140). -/
  | openLane (lane : LaneNo) (tag : Word16) (rest : List Byte)
  /-- CLOSE (R142). -/
  | closeLane (lane : LaneNo) (rest : List Byte)
  /-- CLEAR (R145). -/
  | clearLane (lane : LaneNo) (rest : List Byte)
  /-- SHOW (R137). -/
  | showText (lane : LaneNo) (row report : Byte) (text : List Byte) (rest : List Byte)
  /-- TONE (R137). -/
  | tone (lane : LaneNo) (pattern report : Byte) (rest : List Byte)
  /-- READER (R137). -/
  | reader (lane : LaneNo) (onOff report : Byte) (rest : List Byte)
  /-- ENTRY (R136). -/
  | entry (lane : LaneNo) (count dot echo chain report : Byte) (rest : List Byte)
  /-- PIN (R136). -/
  | pin (lane : LaneNo) (min max chain report : Byte) (rest : List Byte)
  /-- UNLOCK (R137). -/
  | unlock (lane : LaneNo) (report : Byte) (rest : List Byte)
  /-- DECIDE (R178). -/
  | decideCard (lane : LaneNo) (choice : Byte) (rest : List Byte)
  /-- LOAD_UNIT (R27). -/
  | loadUnit
  /-- READ_UNIT (R25). -/
  | readUnit
  /-- LOAD_LANE (R29). -/
  | loadLane
  /-- READ_LANE (R29). -/
  | readLane
  /-- LOAD_KEYMAP (R30). -/
  | loadKeymap
  /-- LOAD_POLICY (R31). -/
  | loadPolicy
  /-- LOAD_PROMPT (R32). -/
  | loadPrompt
  /-- LOAD_RING (R33). -/
  | loadRing
  /-- LOAD_PARTITION (R34). -/
  | loadPartition
  /-- SET_LINK (R35). -/
  | setLink
  /-- SET_LINE (R36). -/
  | setLine
  /-- READ_STATUS (R37). -/
  | readStatus
  /-- READ_COUNTERS (R38). -/
  | readCounters
  /-- CLEAR_COUNTERS (R39). -/
  | clearCounters
  /-- SOFT_RESET (R40). -/
  | softReset
  /-- UNKNOWN (R23): a latched request with an unknown code or an empty body. -/
  | unknownRequest
  /-- CLOSING_DELIMITER (R13). -/
  | closingDelimiter
  /-- SILENCE_TIMER_EXPIRY (R16). -/
  | silenceTimerExpiry
  /-- TELEGRAM (R64). -/
  | telegram (line : Line)
  /-- SWEEP (R92). -/
  | sweep (line : Line)
  /-- TRANSMISSION_COMPLETE (R47). -/
  | transmissionComplete (line : Line)
  /-- ECHO_CONFLICT (R52): which character of the transmission, and what was delivered as its read-back, if
  anything was. -/
  | echoConflict (line : Line) (index : Nat) (readBack : Option Sampled)
  /-- NO_REPLY (R66). -/
  | noReply (line : Line)
  /-- REPLY_CHARACTER (R67). -/
  | replyCharacter (line : Line) (char : Sampled)
  /-- REPLY (R71): the characters, from the next one expected on, that complete the reply. -/
  | reply (line : Line) (chars : List Sampled)
  /-- TRUNCATED (R68). -/
  | truncated (line : Line)
  /-- GUARD_RUNS_OUT (R70). -/
  | guardRunsOut (line : Line)
  /-- PASS_BEGINS (R89). -/
  | passBegins (line : Line)
  /-- SWEEP_REPLY_WINDOW (R85): the sweep reply window runs out. -/
  | sweepReplyWindow (line : Line)
  /-- SWEEP_ANSWER_CHARACTER (R85). -/
  | sweepAnswerCharacter (line : Line) (char : Sampled)
  /-- SWEEP_GAP (R85). -/
  | sweepGap (line : Line)
  /-- STRAY_CHARACTER (R51): a character delivered that belongs to no reply and no sweep answer. -/
  | strayCharacter (line : Line) (char : Sampled)
  /-- CHATTER_INTERVAL_ENDS (R54). -/
  | chatterIntervalEnds (line : Line)
  /-- BREAK_ENDS (R49). -/
  | breakEnds (line : Line)
  /-- LINE_WATCHDOG (R57). -/
  | lineWatchdog (line : Line)
  /-- DECISION_TIMER_EXPIRY (R177). -/
  | decisionTimerExpiry (lane : LaneNo)
  /-- LINK_START_EDGE (R2): half a bit after the edge, `true` where LRXD is still at space. -/
  | linkStartEdge (accepted : Bool)
  /-- LRXD_AT_MARK (R2). -/
  | lrxdAtMark
  /-- START_EDGE (R48): half a bit after the edge, `true` where the line is still at space. -/
  | startEdge (line : Line) (accepted : Bool)
  deriving DecidableEq, Repr

end Sys2Proof
end

