-- ==== Sys2Proof/Decode.lean ====
section
/-! DEFINITION. The command that a word spells by the bits of spec/opcode_table.json. No row of that table gives
bits, so no word spells a command (log entry 1). -/

namespace Sys2Proof

/-- The command that the `nbits` low bits of `w` spell by the table: none, for every word. -/
def decodeTableWord (_nbits _w : Nat) : Option Instr := none

end Sys2Proof
end

