-- ==== Sys2Proof/Config.lean ====
section
/-! DEFINITION. The numbers fixed for the part (00_scope.md, Numbers that hold throughout) and the choices the
manual leaves open, which nothing in the model fixes. -/

namespace Sys2Proof.Config

/-- Bytes in one granule of Queue Memory (R120). -/
def granuleBytes : Nat := 32

/-- Granules in Queue Memory (R120). -/
def granules : Nat := 128

/-- Content bytes of the longest frame (R6). -/
def maxContent : Nat := 245

/-- Attempts after which a command item is given up (R81). -/
def maxAttempts : Nat := 8

/-- Echo conflicts that end a telegram or probe (R53). -/
def conflictLimit : Nat := 4

/-- FREE CHOICE, log entries 3 and 9. Which one of several events or sources, where the manual says that either
may be taken first (R13, R57, R178). Applied to the counter `choices` of the state. -/
opaque freeChoice : Nat → Nat

/-- FREE CHOICE, log entry 16. Whether a LOAD_UNIT that breaks both the per-line limit and another constraint of
R26 is answered with the detail of the limit. -/
opaque lineLimitFirst : Bool

/-- FREE CHOICE, log entry 18. Whether a CLEAR that stands in the rest of the very frame whose record overflowed
is taken (R138 against R145). -/
opaque clearInLostRest : Bool

/-- FREE CHOICE, log entry 31. Whether the penalty flags stay as they are when the reply slot or the notice set wins
while the link is QUIET (R14 against R15). -/
opaque quietKeepsPenalty : Bool

end Sys2Proof.Config
end

