-- ==== Sys2Proof/Machine/State.lean ====
section
/-! DEFINITION. Everything the manual gives the part to hold, as plain data, and its value after a hardware reset. -/

namespace Sys2Proof.Machine

/-! ### Names of values -/

/-- Lane phases (R132); `opened` is the manual's OPEN. -/
inductive LanePhase where
  | closed
  | opening
  | opened
  | closing
  | faulted
  deriving DecidableEq, Repr

/-- Presence states (R103, section 6.3). -/
inductive Presence where
  | disabled
  | seeking
  | locked
  | faltering
  | lost
  deriving DecidableEq, Repr

/-- Unit kinds (section 2.3). -/
inductive UnitKind where
  | reader
  | pinpad
  | combo
  deriving DecidableEq, Repr

/-- Data bits of a drop line character (R44). -/
inductive DataBits where
  | seven
  | eight
  deriving DecidableEq, Repr

/-- Parity settings (R46). -/
inductive Parity where
  | none
  | even
  | odd
  | zero
  deriving DecidableEq, Repr

/-- Stop bits of a drop line character (R44). -/
inductive StopBits where
  | one
  | two
  deriving DecidableEq, Repr

/-- Recovery modes of a line (R57). -/
inductive Recovery where
  | reset
  | flag
  deriving DecidableEq, Repr

/-- A character format and a rate (R43, R44). -/
structure Tune where
  data : DataBits
  parity : Parity
  stop : StopBits
  p : Fin 8
  m : Fin 15
  deriving DecidableEq, Repr

/-- Logical keys (section 9.1). -/
inductive LogicalKey where
  | digit (d : Fin 10)
  | enter
  | clear
  | cancel
  | dot
  | func (f : Fin 4)
  | none
  deriving DecidableEq, Repr

/-- Directives (R113). -/
inductive Directive where
  | eject
  | keep
  | standby
  | rest
  | wake
  deriving DecidableEq, Repr

/-- How a new data reply is taken (R76). -/
inductive Verdict where
  | accept
  | hold
  | refuse
  deriving DecidableEq, Repr

/-- An acknowledgement: NONE, or a verdict with the sequence bit of the reply it answers (R75). -/
inductive Ack where
  | none
  | given (verdict : Verdict) (seq : Bool)
  deriving DecidableEq, Repr

/-- A command item, identified as that directive or that record and no other (R64, R80). The numbers are the
model's serial numbers (log entry 19). -/
inductive Item where
  | directive (kind : Directive) (serial : Nat)
  | record (lane : LaneNo) (serial : Nat)
  deriving DecidableEq, Repr

/-! ### Sets of kinds with detail bytes and repeat counts -/

/-- One kind present in an alert or notice set: its two detail bytes and its repeat count (R184). -/
structure Entry where
  d1 : Byte
  d2 : Byte
  count : Byte
  deriving DecidableEq, Repr

/-- Alert kinds in the order of their codes (R139, R184). -/
inductive AlertKind where
  | unitLost
  | unitBack
  | undelivered
  | outOverflow
  | inOverrun
  | badCommand
  | decisionLate
  | laneFault
  deriving DecidableEq, Repr

/-- Notice kinds in the order of their codes (R24, R184). -/
inductive NoticeKind where
  | restarted
  | lineStuck
  | strayUnit
  | requestDropped
  | linkResumed
  deriving DecidableEq, Repr

/-- A lane's alert set: for each kind, absent or present once (R139). -/
abbrev AlertSet := Vector (Option Entry) 8

/-- The notice set (R24). -/
abbrev NoticeSet := Vector (Option Entry) 5

/-- The set that holds no kind. -/
def noAlerts : AlertSet := Vector.replicate 8 none

/-- The notice set after every reset: RESTARTED with repeat count 1 (R24). -/
def restartedNotices : NoticeSet := #v[some ⟨0, 0, 1⟩, none, none, none, none]

/-! ### Link Port -/

/-- The receiver of LRXD (R2). -/
inductive LinkRx where
  | atRest
  | inCharacter
  | waitMark
  deriving DecidableEq, Repr

/-- Frame receiver states (section 1.3). -/
inductive FrameRx where
  | hunt
  | collect
  | escaped
  | skip
  deriving DecidableEq, Repr

/-- Frame kinds (section 11.2). -/
inductive FrameKind where
  | laneCommands
  | request
  | event
  | alert
  | reply
  | notice
  deriving DecidableEq, Repr

/-- A frame's NODE, KIND and BODY; LEN and CRC follow from them (R4). -/
structure Frame where
  node : Byte
  kind : FrameKind
  body : List Byte
  deriving DecidableEq, Repr

/-- The transmitter (R13): IDLE, or SENDING the frame held in the transmit frame buffer. `gathering` is IDLE while the four
steps of R9 are made, when candidates are not selected one at a time; it never lasts beyond the command (log entry 9). -/
inductive Transmitter where
  | idle
  | gathering
  | sending (frame : Frame)
  deriving DecidableEq, Repr

/-- Link state (R17). -/
inductive LinkState where
  | live
  | quiet
  deriving DecidableEq, Repr

/-- Link settings (R35): rate fields, and the silence time in seconds. -/
structure LinkSettings where
  p : Fin 8
  m : Fin 15
  silence : Fin 61
  deriving DecidableEq, Repr

/-- Link counters in the order of R12. -/
structure LinkCounters where
  rxGood : Word16 := 0
  rxAbort : Word16 := 0
  rxBadEscape : Word16 := 0
  rxBadChar : Word16 := 0
  rxShort : Word16 := 0
  rxLong : Word16 := 0
  rxBadCheck : Word16 := 0
  rxBadLength : Word16 := 0
  rxUnknownNode : Word16 := 0
  rxUnknownKind : Word16 := 0
  rxGlitch : Word16 := 0
  reqDropped : Word16 := 0
  txFrames : Word16 := 0
  deriving DecidableEq, Repr

/-- The Link Port (chapter 1). -/
structure LinkPort where
  rx : LinkRx
  frameRx : FrameRx
  content : List Byte
  latch : Option (List Byte)
  tx : Transmitter
  pointer : Fin 8
  penalty : Vector Bool 8
  silenceCount : Nat
  state : LinkState
  inForce : LinkSettings
  counters : LinkCounters
  deriving DecidableEq, Repr

/-! ### Table store -/

/-- A slot record (section 2.3). -/
structure UnitRecord where
  enabled : Bool
  line : Line
  address : Fin 32
  kind : UnitKind
  lane : LaneNo
  tune : Tune
  window : Fin 16
  keyMap : Fin 4
  deriving DecidableEq, Repr

/-- One entry of the unit table: the current record, and the staged one if there is one (R27). -/
structure SlotEntry where
  current : UnitRecord
  staged : Option UnitRecord
  deriving DecidableEq, Repr

/-- The settings of a lane (R29); the decision timeout is in seconds. -/
structure LaneSettings where
  policy : Fin 4
  cardHold : Bool
  timeout : Fin 121
  standbyPrompt : Fin 8
  closedPrompt : Fin 8
  deriving DecidableEq, Repr

/-- A disclosure policy (R31). -/
structure Policy where
  keepFirst : Fin 9
  keepLast : Fin 5
  mask : Byte
  deriving DecidableEq, Repr

/-- Line settings (R36); the stuck limit is in milliseconds. -/
structure LineSettings where
  base : Tune
  stuckLimit : Fin 251
  recovery : Recovery
  sweep : Bool
  deriving DecidableEq, Repr

/-- The settings of one line: those in force, and those waiting for the next transmission (R36, R45). -/
structure LineTable where
  inForce : LineSettings
  waiting : Option LineSettings
  deriving DecidableEq, Repr

/-- One thing for each drop line. -/
structure PerLine (α : Type) where
  a : α
  b : α
  deriving DecidableEq, Repr

/-- The table store (chapter 2). -/
structure Tables where
  units : Vector SlotEntry 16
  lanes : Vector LaneSettings 8
  keyMaps : Vector (Vector LogicalKey 32) 4
  policies : Vector Policy 4
  prompts : Vector (List Byte) 8
  rings : PerLine (List SlotNo)
  partition : Vector Nat 16
  lines : PerLine LineTable
  link : LinkSettings
  deriving DecidableEq, Repr

/-! ### Lanes -/

/-- Close confirmations (R143). -/
inductive Confirmation where
  | restDue
  | counting (idles : Fin 3)
  | confirmed
  | waived
  deriving DecidableEq, Repr

/-- Phases of an entry window (section 9.2). -/
inductive WindowPhase where
  | collecting
  | awaitBlock
  | shutting
  | held
  deriving DecidableEq, Repr

/-- What an entry window collects (section 9.2). -/
inductive Collected where
  | amount (initial remaining : Nat) (chars : List Byte) (dotAllowed echo : Bool)
  | pin (min max count : Nat)
  deriving DecidableEq, Repr

/-- An entry window (section 9.2). -/
structure Window where
  phase : WindowPhase
  what : Collected
  chain : Bool
  carryOver : Option Bool
  deriving DecidableEq, Repr

/-- A card assembly (section 10.1); `inRest` is the part REST. -/
structure Assembly where
  inRest : Bool := false
  account : List Byte := []
  rest : List Byte := []
  malformed : Bool := false
  truncated : Bool := false
  deriving DecidableEq, Repr

/-- A decision (section 10.3). -/
structure CardDecision where
  ms : Nat
  slot : SlotNo
  deriving DecidableEq, Repr

/-- A lane record (R132, R168). -/
structure LaneRecord where
  phase : LanePhase := .closed
  tag : Word16 := 0
  wakeMarks : List (SlotNo × Bool) := []
  confirms : List (SlotNo × Confirmation) := []
  window : Option Window := none
  assembly : Option Assembly := none
  decision : Option CardDecision := none
  standby : Bool := false
  callLatch : Bool := false
  overflow : Bool := false
  pinShadow : Bool := false
  alerts : AlertSet := noAlerts
  deriving DecidableEq, Repr

/-! ### Units -/

/-- The status flags kept for a unit (section 6.2). -/
structure StatusFlags where
  cardPresent : Bool
  keyStuck : Bool
  displayFault : Bool
  deriving DecidableEq, Repr

/-- A directive present in a slot's set: its attempt count (R113) and the model's serial number. -/
structure Pending where
  attempts : Nat
  serial : Nat
  deriving DecidableEq, Repr

/-- A slot's directive set (R113). -/
structure Directives where
  eject : Option Pending := none
  keep : Option Pending := none
  standby : Option Pending := none
  rest : Option Pending := none
  wake : Option Pending := none
  deriving DecidableEq, Repr

/-- Slot counters in the order of R118. -/
structure SlotCounters where
  valid : Word16 := 0
  noReply : Word16 := 0
  badReply : Word16 := 0
  interrupted : Word16 := 0
  ignored : Word16 := 0
  deriving DecidableEq, Repr

/-- A slot's runtime record (section 6.2) with its values after a hardware reset (R103). -/
structure UnitRun where
  presence : Presence := .disabled
  confirm : Nat := 0
  fail : Nat := 0
  returning : Bool := false
  syncRequest : Bool := true
  e : Bool := false
  lastAck : Ack := .none
  pendingAck : Ack := .none
  c : Bool := false
  doubt : Option Item := none
  headAttempts : Nat := 0
  baseline : Option StatusFlags := none
  pendingFlags : Option StatusFlags := none
  directives : Directives := {}
  superseded : Bool := false
  counters : SlotCounters := {}
  deriving DecidableEq, Repr

/-! ### Queues -/

/-- A command record in an outbound queue: its bytes (R183) and the model's serial number. -/
structure OutRecord where
  serial : Nat
  bytes : List Byte
  deriving DecidableEq, Repr

/-! ### Drop line engines -/

/-- Telegram kinds sent to a slot (R61). -/
inductive TelegramKind where
  | poll
  | command
  | sync
  | shut
  deriving DecidableEq, Repr

/-- An exchange begun and not yet given an outcome (R64): all of it is fixed at its first transmission. -/
structure Exchange where
  slot : SlotNo
  kind : TelegramKind
  item : Option Item
  bytes : List Byte
  tune : Tune
  window : Fin 16
  deriving DecidableEq, Repr

/-- A range of drop addresses (R91). -/
structure AddrRange where
  lo : Nat
  hi : Nat
  deriving DecidableEq, Repr

/-- A sweep probe begun and not yet resolved (R92). -/
structure Probe where
  range : AddrRange
  bytes : List Byte
  deriving DecidableEq, Repr

/-- Exchange states (R65). -/
inductive XState where
  | idle
  | paused
  | sending
  | await
  | receiving
  | guarding
  deriving DecidableEq, Repr

/-- The moment at which a character's start bit was accepted (R51). -/
inductive Origin where
  | echo
  | reply
  | stray
  deriving DecidableEq, Repr

/-- The receiver of a drop line (R48, R49). -/
inductive LineRx where
  | atRest
  | inCharacter (origin : Origin)
  | inBreak
  deriving DecidableEq, Repr

/-- What is due and has not begun its first transmission (R64, R86). -/
inductive Due where
  | entry
  | run
  | probe
  deriving DecidableEq, Repr

/-- Where the engine stands in its pass (R89): to begin one when the line is ready, in the ring, in the sweep
step, or waiting for the next tick. -/
inductive Stage where
  | toBegin
  | ring
  | sweepStep
  | tickWait
  deriving DecidableEq, Repr

/-- A confirmation run (R96): its slot, and whether a ring entry began it (R99). -/
structure ConfirmRun where
  slot : SlotNo
  atEntry : Bool
  deriving DecidableEq, Repr

/-- Line counters in the order of R59. -/
structure LineCounters where
  telegrams : Word16 := 0
  probes : Word16 := 0
  echoConflicts : Word16 := 0
  glitches : Word16 := 0
  charErrors : Word16 := 0
  strayChars : Word16 := 0
  sweepNoise : Word16 := 0
  stuck : Word16 := 0
  deriving DecidableEq, Repr

/-- A drop line engine (chapters 3, 4 and 5). -/
structure Engine where
  xstate : XState
  due : Option Due
  exchange : Option Exchange
  probe : Option Probe
  conflicts : Nat
  received : List Byte
  answers : List (Byte × Bool)
  driver : Bool
  rx : LineRx
  tuned : Tune
  chatter : Bool
  watchdog : Nat
  ringPtr : Nat
  cut : Bool
  stack : List AddrRange
  run : Option ConfirmRun
  passActive : Bool
  stage : Stage
  counters : LineCounters
  deriving DecidableEq, Repr

/-! ### The whole part -/

/-- The part. The last three fields are the model's own: the queue of waiting commands, the next serial number
(log entry 19) and the count of free choices used (log entry 9). -/
structure State where
  link : LinkPort
  tables : Tables
  reply : Option (List Byte)
  softPending : Bool
  notices : NoticeSet
  inbound : Vector (List (List Byte)) 8
  outbound : Vector (List OutRecord) 8
  lanes : Vector LaneRecord 8
  units : Vector UnitRun 16
  engines : PerLine Engine
  serial : Nat
  choices : Nat
  pending : List Instr
  deriving DecidableEq, Repr

/-- Reasons to stop with a fault: none. The manual gives the part no condition under which it stops, so no
command raises one; safe, since nothing is claimed of a stopped part. -/
inductive Fault where
  deriving DecidableEq, Repr

/-- Reasons to refuse. -/
inductive Refusal where
  /-- A command that has no meaning in the model. No arm raises it; safe, since nothing could be claimed of it. -/
  | notModelled (mnemonic : String)
  deriving DecidableEq, Repr

/-! ### Values after a hardware reset -/

/-- 9,600 bits per second, 8-NONE-1 (sections 2.3, 2.9). -/
def resetTune : Tune := ⟨.eight, .none, .one, 5, 14⟩

/-- The slot record after a hardware reset (section 2.3). -/
def resetUnitRecord : UnitRecord := ⟨false, .a, 1, .pinpad, 0, resetTune, 4, 0⟩

/-- The lane settings after a hardware reset (R29). -/
def resetLaneSettings : LaneSettings := ⟨0, false, 30, 0, 1⟩

/-- The disclosure policy after a hardware reset (R31); 0x2A is '*'. -/
def resetPolicy : Policy := ⟨6, 4, 0x2A⟩

/-- The key map after a hardware reset (R30). -/
def resetKeyMap : Vector LogicalKey 32 :=
  #v[.digit 0, .digit 1, .digit 2, .digit 3, .digit 4, .digit 5, .digit 6, .digit 7, .digit 8, .digit 9,
    .enter, .clear, .cancel, .dot, .func 0, .func 1, .func 2, .func 3,
    .none, .none, .none, .none, .none, .none, .none, .none, .none, .none, .none, .none, .none, .none]

/-- The line settings after a hardware reset (R36). -/
def resetLineSettings : LineSettings := ⟨resetTune, 50, .reset, true⟩

/-- The link settings after a hardware reset (R1, R20). -/
def resetLinkSettings : LinkSettings := ⟨2, 4, 0⟩

/-- The table store after a hardware reset (R42). -/
def resetTables : Tables where
  units := Vector.replicate 16 ⟨resetUnitRecord, none⟩
  lanes := Vector.replicate 8 resetLaneSettings
  keyMaps := Vector.replicate 4 resetKeyMap
  policies := Vector.replicate 4 resetPolicy
  prompts := Vector.replicate 8 []
  rings := ⟨[], []⟩
  partition := Vector.replicate 16 8
  lines := ⟨⟨resetLineSettings, none⟩, ⟨resetLineSettings, none⟩⟩
  link := resetLinkSettings

/-- The Link Port after a hardware reset (R20). -/
def resetLinkPort : LinkPort where
  rx := .waitMark
  frameRx := .hunt
  content := []
  latch := none
  tx := .idle
  pointer := 7
  penalty := Vector.replicate 8 false
  silenceCount := 0
  state := .live
  inForce := resetLinkSettings
  counters := {}

/-- A drop line engine after either reset, its receiver tuned to the base format `base` in force (R60, R101). -/
def resetEngine (base : Tune) : Engine where
  xstate := .idle
  due := none
  exchange := none
  probe := none
  conflicts := 0
  received := []
  answers := []
  driver := false
  rx := .inBreak
  tuned := base
  chatter := false
  watchdog := 0
  ringPtr := 0
  cut := false
  stack := []
  run := none
  passActive := false
  stage := .toBegin
  counters := {}

/-- The part right after a hardware reset (R20, R42, R60, R101, R103, R131, R132), before the first selection
(log entry 11). -/
def State.reset : State where
  link := resetLinkPort
  tables := resetTables
  reply := none
  softPending := false
  notices := restartedNotices
  inbound := Vector.replicate 8 []
  outbound := Vector.replicate 8 []
  lanes := Vector.replicate 8 {}
  units := Vector.replicate 16 {}
  engines := ⟨resetEngine resetTune, resetEngine resetTune⟩
  serial := 0
  choices := 0
  pending := []

end Sys2Proof.Machine
end

