-- ==== Sys2Proof/Machine/Flags.lean ====
section
/-! DEFINITION. Counters that stop, sets of kinds, status flags and the codes of named values. -/

namespace Sys2Proof.Machine

/-! ### Counters -/

/-- A counter counts one: 16 bits, stopping at 65,535 (00_scope.md, Counters). -/
def bump (c : Word16) : Word16 := if c = 0xFFFF then c else c + 1

/-- A counter counts `n` times. -/
def bumpBy (c : Word16) : Nat → Word16
  | 0 => c
  | n + 1 => bump (bumpBy c n)

/-- A repeat count rises by one, stopping at 255 (R24, R139). -/
def bumpRepeat (c : Byte) : Byte := if c = 0xFF then c else c + 1

/-- A list of counters as READ_COUNTERS carries it: two bytes each, high byte first (R182). -/
def counterBytes : List Word16 → List Byte
  | [] => []
  | w :: ws => hiByte w :: loByte w :: counterBytes ws

/-- The link counters in the order of R12. -/
def LinkCounters.inOrder (c : LinkCounters) : List Word16 :=
  [c.rxGood, c.rxAbort, c.rxBadEscape, c.rxBadChar, c.rxShort, c.rxLong, c.rxBadCheck, c.rxBadLength,
    c.rxUnknownNode, c.rxUnknownKind, c.rxGlitch, c.reqDropped, c.txFrames]

/-- The line counters in the order of R59. -/
def LineCounters.inOrder (c : LineCounters) : List Word16 :=
  [c.telegrams, c.probes, c.echoConflicts, c.glitches, c.charErrors, c.strayChars, c.sweepNoise, c.stuck]

/-- The slot counters in the order of R118. -/
def SlotCounters.inOrder (c : SlotCounters) : List Word16 :=
  [c.valid, c.noReply, c.badReply, c.interrupted, c.ignored]

/-! ### Sets of kinds -/

/-- The place of an alert kind in the set: its code less 1 (R184). -/
def AlertKind.ix : AlertKind → Fin 8
  | .unitLost => 0
  | .unitBack => 1
  | .undelivered => 2
  | .outOverflow => 3
  | .inOverrun => 4
  | .badCommand => 5
  | .decisionLate => 6
  | .laneFault => 7

/-- The place of a notice kind in the set: its code less 1 (R184). -/
def NoticeKind.ix : NoticeKind → Fin 5
  | .restarted => 0
  | .lineStuck => 1
  | .strayUnit => 2
  | .requestDropped => 3
  | .linkResumed => 4

/-- A kind raised: absent, it joins with count 1; present, its detail is replaced and its count rises (R139). -/
def raisedEntry (old : Option Entry) (d1 d2 : Byte) : Entry :=
  match old with
  | none => ⟨d1, d2, 1⟩
  | some e => ⟨d1, d2, bumpRepeat e.count⟩

/-- A kind raised in a lane's alert set (R139). -/
def AlertSet.raise (a : AlertSet) (k : AlertKind) (d1 d2 : Byte) : AlertSet :=
  a.set k.ix (some (raisedEntry a[k.ix] d1 d2))

/-- The first detail byte already held for a kind, 0 where it is absent. -/
def heldDetail (old : Option Entry) : Byte :=
  match old with
  | none => 0
  | some e => e.d1

/-- A kind raised in the notice set (R24). The flags of LINE_STUCK already set stay set; every other kind takes the
new detail. -/
def NoticeSet.raise (n : NoticeSet) (k : NoticeKind) (d1 d2 : Byte) : NoticeSet :=
  match k with
  | .lineStuck => n.set k.ix (some (raisedEntry n[k.ix] (heldDetail n[k.ix] ||| d1) d2))
  | _ => n.set k.ix (some (raisedEntry n[k.ix] d1 d2))

/-- The entries of a set from code `code` on, four bytes for each kind present (R184). -/
def entryBytes : Nat → List (Option Entry) → List Byte
  | _, [] => []
  | code, none :: rest => entryBytes (code + 1) rest
  | code, some e :: rest => byteOf code :: e.d1 :: e.d2 :: e.count :: entryBytes (code + 1) rest

/-- Does a set hold no kind? -/
def noneHeld (l : List (Option Entry)) : Bool := l.all Option.isNone

/-! ### Status flags -/

/-- The three kept flags of a STATUS flag byte (section 11.7); the other bits are not examined. -/
def StatusFlags.ofByte (b : Byte) : StatusFlags := ⟨b.getLsbD 0, b.getLsbD 1, b.getLsbD 2⟩

/-- The flag byte a STATUS_CHANGE record carries (section 11.4). -/
def StatusFlags.toByte (f : StatusFlags) : Byte :=
  byteOf ((if f.cardPresent then 1 else 0) + (if f.keyStuck then 2 else 0) + (if f.displayFault then 4 else 0))

/-- FRESH in a STATUS flag byte (section 11.7). -/
def freshBit (b : Byte) : Bool := b.getLsbD 3

/-! ### Codes of named values -/

/-- A flag that the part sends as a whole byte (R182). -/
def flagByte (b : Bool) : Byte := if b then 1 else 0

/-- A flag argument of a lane command: off when 0, on for any other value (section 8.2). -/
def flagOn (b : Byte) : Bool := b != 0

/-- Line codes (section 11.6). -/
def lineCode : Line → Byte
  | .a => 0
  | .b => 1

/-- The line a byte names, if any. -/
def lineOfByte (b : Byte) : Option Line :=
  match b.toNat with
  | 0 => some .a
  | 1 => some .b
  | _ => none

/-- Lane phase codes (section 11.6). -/
def LanePhase.code : LanePhase → Byte
  | .closed => 0
  | .opening => 1
  | .opened => 2
  | .closing => 3
  | .faulted => 4

/-- Presence codes (section 11.6). -/
def Presence.code : Presence → Byte
  | .disabled => 0
  | .seeking => 1
  | .locked => 2
  | .faltering => 3
  | .lost => 4

/-- The trusted states (section 6.3). -/
def Presence.trusted : Presence → Bool
  | .locked => true
  | .faltering => true
  | .disabled => false
  | .seeking => false
  | .lost => false

/-- Unit kind codes (section 11.6). -/
def UnitKind.code : UnitKind → Byte
  | .reader => 0
  | .pinpad => 1
  | .combo => 2

/-- The unit kind a byte names, if any. -/
def UnitKind.ofByte (b : Byte) : Option UnitKind :=
  match b.toNat with
  | 0 => some .reader
  | 1 => some .pinpad
  | 2 => some .combo
  | _ => none

/-- Keypad-capable kinds (section 2.3). -/
def UnitKind.keypad : UnitKind → Bool
  | .reader => false
  | .pinpad => true
  | .combo => true

/-- Reader-capable kinds (section 2.3). -/
def UnitKind.cardReader : UnitKind → Bool
  | .reader => true
  | .pinpad => false
  | .combo => true

/-- Role codes: 1 KEYPAD, 2 READER, 3 BOTH (R102, section 11.4). -/
def UnitKind.role : UnitKind → Byte
  | .pinpad => 1
  | .reader => 2
  | .combo => 3

/-- Data bit codes (section 11.6). -/
def DataBits.code : DataBits → Byte
  | .seven => 7
  | .eight => 8

/-- The data bits a byte names, if any. -/
def DataBits.ofByte (b : Byte) : Option DataBits :=
  match b.toNat with
  | 7 => some .seven
  | 8 => some .eight
  | _ => none

/-- Parity codes (section 11.6). -/
def Parity.code : Parity → Byte
  | .none => 0
  | .even => 1
  | .odd => 2
  | .zero => 3

/-- The parity a byte names, if any. -/
def Parity.ofByte (b : Byte) : Option Parity :=
  match b.toNat with
  | 0 => some .none
  | 1 => some .even
  | 2 => some .odd
  | 3 => some .zero
  | _ => Option.none

/-- Stop bit codes (section 11.6). -/
def StopBits.code : StopBits → Byte
  | .one => 1
  | .two => 2

/-- The stop bits a byte names, if any. -/
def StopBits.ofByte (b : Byte) : Option StopBits :=
  match b.toNat with
  | 1 => some .one
  | 2 => some .two
  | _ => none

/-- Recovery mode codes (section 11.6). -/
def Recovery.code : Recovery → Byte
  | .reset => 0
  | .flag => 1

/-- The recovery mode a byte names, if any. -/
def Recovery.ofByte (b : Byte) : Option Recovery :=
  match b.toNat with
  | 0 => some .reset
  | 1 => some .flag
  | _ => none

/-- A byte that is a yes or no code: 0 or 1. -/
def boolOfByte (b : Byte) : Option Bool :=
  match b.toNat with
  | 0 => some false
  | 1 => some true
  | _ => none

/-- Logical key codes (section 11.4). -/
def LogicalKey.code : LogicalKey → Byte
  | .digit d => byteOf d.val
  | .enter => 0x0A
  | .clear => 0x0B
  | .cancel => 0x0C
  | .dot => 0x0D
  | .func f => byteOf (0x0E + f.val)
  | .none => 0x12

/-- The logical key a key map entry holds; a value that names none is stored as NONE (R30). -/
def LogicalKey.ofByte (b : Byte) : LogicalKey :=
  if h : b.toNat < 10 then .digit ⟨b.toNat, h⟩
  else if b = 0x0A then .enter
  else if b = 0x0B then .clear
  else if b = 0x0C then .cancel
  else if b = 0x0D then .dot
  else if h : 0x0E ≤ b.toNat ∧ b.toNat < 0x12 then .func ⟨b.toNat - 0x0E, by omega⟩
  else .none

/-- Does a key map entry hold a logical key (R30)? -/
def isLogicalKey (b : Byte) : Bool := decide (b.toNat ≤ 0x12)

/-- Unit command codes of the directives (section 11.7). -/
def Directive.code : Directive → Byte
  | .eject => 0x08
  | .keep => 0x09
  | .wake => 0x0A
  | .rest => 0x0B
  | .standby => 0x0C

/-- Frame kind codes (section 11.2). -/
def FrameKind.code : FrameKind → Byte
  | .laneCommands => 0x01
  | .request => 0x02
  | .event => 0x11
  | .alert => 0x12
  | .reply => 0x21
  | .notice => 0x22

/-- Acknowledgement codes (section 11.7). -/
def Ack.code : Ack → Nat
  | .none => 0
  | .given .accept _ => 1
  | .given .hold _ => 2
  | .given .refuse _ => 3

/-- The sequence bit of an acknowledgement, 0 with NONE (R61). -/
def Ack.seqBit : Ack → Nat
  | .none => 0
  | .given _ seq => if seq then 1 else 0

/-- Telegram kind codes (section 11.7); SWEEP is 2. -/
def TelegramKind.code : TelegramKind → Nat
  | .poll => 0
  | .command => 1
  | .sync => 3
  | .shut => 4

/-- Event record kinds (section 11.4). -/
inductive EventKind where
  | opened
  | closed
  | laneCall
  | keys
  | entryProgress
  | entryDone
  | entryCancelled
  | maskedDigits
  | pinShort
  | pinDone
  | card
  | decided
  | statusChange
  | delivered
  deriving DecidableEq, Repr

/-- Event record kind codes (section 11.4). -/
def EventKind.code : EventKind → Byte
  | .opened => 0x01
  | .closed => 0x02
  | .laneCall => 0x03
  | .keys => 0x04
  | .entryProgress => 0x05
  | .entryDone => 0x06
  | .entryCancelled => 0x07
  | .maskedDigits => 0x08
  | .pinShort => 0x09
  | .pinDone => 0x0A
  | .card => 0x0B
  | .decided => 0x0C
  | .statusChange => 0x0D
  | .delivered => 0x0E

/-- Reasons of an ENTRY_CANCELLED record (section 11.4). -/
inductive CancelReason where
  | key
  | replaced
  | closed
  | link
  deriving DecidableEq, Repr

/-- Codes of the reasons of an ENTRY_CANCELLED record (section 11.4). -/
def CancelReason.code : CancelReason → Byte
  | .key => 1
  | .replaced => 2
  | .closed => 3
  | .link => 4

/-- Reasons of a LANE_FAULT (R146). -/
inductive FaultReason where
  | unitLost
  | unitRestart
  | wakeFailed
  | inOverrun
  deriving DecidableEq, Repr

/-- Codes of the reasons of a LANE_FAULT (section 11.5). -/
def FaultReason.code : FaultReason → Byte
  | .unitLost => 1
  | .unitRestart => 2
  | .wakeFailed => 3
  | .inOverrun => 4

/-- Reasons of a BAD_COMMAND (R139). -/
inductive BadReason where
  | badCode
  | wrongPhase
  | noUnit
  | badValue
  | unitDown
  deriving DecidableEq, Repr

/-- Codes of the reasons of a BAD_COMMAND (section 11.5). -/
def BadReason.code : BadReason → Byte
  | .badCode => 1
  | .wrongPhase => 2
  | .noUnit => 3
  | .badValue => 4
  | .unitDown => 5

end Sys2Proof.Machine
end

