-- ==== Sys2Proof/Machine/Frames.lean ====
section
/-! DEFINITION. Counter link frames: the CRC, the content, escaping, and the frame receiver (chapter 1). -/

namespace Sys2Proof.Machine

/-- The delimiter (R2). -/
def delimiter : Byte := 0xD5

/-- The escape (R2). -/
def escape : Byte := 0xD6

/-! ### The link CRC (R3) -/

/-- One bit through the CRC register, generator x^16 + x^12 + x^5 + 1. -/
def crcBit (r : Word16) : Word16 := if r.msb then (r <<< 1) ^^^ 0x1021 else r <<< 1

/-- One byte through the CRC register, most significant bit first. -/
def crcByte (r : Word16) (b : Byte) : Word16 :=
  crcBit (crcBit (crcBit (crcBit (crcBit (crcBit (crcBit (crcBit (r ^^^ word16 b 0))))))))

/-- The CRC of a run of bytes, from 0xFFFF, not inverted. -/
def crc (bytes : List Byte) : Word16 := bytes.foldl crcByte 0xFFFF

/-! ### Sending a frame (R4) -/

/-- NODE, KIND, LEN and BODY. -/
def Frame.header (f : Frame) : List Byte := f.node :: f.kind.code :: byteOf f.body.length :: f.body

/-- A run of bytes closed by its CRC, high byte first. -/
def withCrc (bytes : List Byte) : List Byte := bytes ++ [hiByte (crc bytes), loByte (crc bytes)]

/-- The content of a frame: NODE, KIND, LEN, BODY and CRC. -/
def Frame.content (f : Frame) : List Byte := withCrc f.header

/-- One content byte as it goes out: a delimiter or an escape as two characters. -/
def escapeByte (b : Byte) : List Byte :=
  if b = delimiter ∨ b = escape then [escape, b ^^^ 0x20] else [b]

/-- The characters of a frame on the wire: delimiter, escaped content, delimiter. -/
def Frame.wire (f : Frame) : List Byte := delimiter :: (f.content.flatMap escapeByte ++ [delimiter])

/-! ### Link characters (R1, R2) -/

/-- The ten bit periods of a link character, `true` for mark: start bit, data bits least significant first, stop bit. -/
def linkCharBits (b : Byte) : List Bool :=
  [false, b.getLsbD 0, b.getLsbD 1, b.getLsbD 2, b.getLsbD 3, b.getLsbD 4, b.getLsbD 5, b.getLsbD 6, b.getLsbD 7, true]

/-! ### Receiving a frame (R5 to R8) -/

/-- The counter a frame that fails during reception is counted in. -/
inductive RxFailure where
  | abort
  | badEscape
  | badChar
  | short
  | long
  | badCheck
  | badLength
  | unknownNode
  | unknownKind
  deriving DecidableEq, Repr

/-- A failed frame counted (R12). -/
def LinkCounters.countFailure (c : LinkCounters) : RxFailure → LinkCounters
  | .abort => { c with rxAbort := bump c.rxAbort }
  | .badEscape => { c with rxBadEscape := bump c.rxBadEscape }
  | .badChar => { c with rxBadChar := bump c.rxBadChar }
  | .short => { c with rxShort := bump c.rxShort }
  | .long => { c with rxLong := bump c.rxLong }
  | .badCheck => { c with rxBadCheck := bump c.rxBadCheck }
  | .badLength => { c with rxBadLength := bump c.rxBadLength }
  | .unknownNode => { c with rxUnknownNode := bump c.rxUnknownNode }
  | .unknownKind => { c with rxUnknownKind := bump c.rxUnknownKind }

/-- A good frame, by kind (R9 step 4). -/
inductive GoodFrame where
  | laneCommands (lane : LaneNo) (body : List Byte)
  | request (body : List Byte)
  deriving DecidableEq, Repr

/-- The frame addressed by NODE and KIND: the fourth and fifth checks of R8. -/
def addressed (node kind : Byte) (body : List Byte) : RxFailure ⊕ GoodFrame :=
  if h : node.toNat < 8 then
    if kind = FrameKind.laneCommands.code then .inr (.laneCommands ⟨node.toNat, h⟩ body) else .inl .unknownKind
  else if node = 0x0F then
    if kind = FrameKind.request.code then .inr (.request body) else .inl .unknownKind
  else .inl .unknownNode

/-- The closing checks in the order of R8's table. -/
def closingChecks (content : List Byte) : RxFailure ⊕ GoodFrame :=
  if content.length < 5 then .inl .short
  else if withCrc (content.take (content.length - 2)) ≠ content then .inl .badCheck
  else
    match content with
    | node :: kind :: len :: tail =>
      if len.toNat ≠ content.length - 5 then .inl .badLength
      else addressed node kind (tail.take (content.length - 5))
    | _ => .inl .short

/-- The frame receiver: its state and its content buffer. -/
structure FrameReceiver where
  state : FrameRx
  content : List Byte
  deriving DecidableEq, Repr

/-- What one character does: the receiver after it, and the frame it ends, if it ends one. -/
structure FrameStep where
  after : FrameReceiver
  ended : Option (RxFailure ⊕ GoodFrame)
  deriving DecidableEq, Repr

/-- A content byte is stored, or ends the frame as LONG when 245 are stored already (R6, R7). -/
def storeContent (content : List Byte) (b : Byte) : FrameStep :=
  if content.length < Config.maxContent then ⟨⟨.collect, content ++ [b]⟩, none⟩ else ⟨⟨.skip, []⟩, some (.inl .long)⟩

/-- The frame receiver takes one character: a good character of value `b`, or `none` for one with a framing error
(R5, R6, R7). -/
def frameStep (r : FrameReceiver) (ch : Option Byte) : FrameStep :=
  match r.state, ch with
  | .hunt, some b => if b = delimiter then ⟨⟨.collect, []⟩, none⟩ else ⟨r, none⟩
  | .hunt, none => ⟨r, none⟩
  | .collect, some b =>
    if b = delimiter then
      if r.content = [] then ⟨r, none⟩ else ⟨⟨.collect, []⟩, some (closingChecks r.content)⟩
    else if b = escape then ⟨⟨.escaped, r.content⟩, none⟩
    else storeContent r.content b
  | .collect, none => ⟨⟨.skip, []⟩, some (.inl .badChar)⟩
  | .escaped, some b =>
    if b = 0xF5 then storeContent r.content delimiter
    else if b = 0xF6 then storeContent r.content escape
    else if b = delimiter then ⟨⟨.collect, []⟩, some (.inl .abort)⟩
    else ⟨⟨.skip, []⟩, some (.inl .badEscape)⟩
  | .escaped, none => ⟨⟨.skip, []⟩, some (.inl .badChar)⟩
  | .skip, some b => if b = delimiter then ⟨⟨.collect, []⟩, none⟩ else ⟨r, none⟩
  | .skip, none => ⟨r, none⟩

/-- The frame receiver after a run of good characters. -/
def collectRun (r : FrameReceiver) (bytes : List Byte) : FrameReceiver :=
  bytes.foldl (fun r b => (frameStep r (some b)).after) r

end Sys2Proof.Machine
end

