-- ==== Sys2Proof/Machine/Signalling.lean ====
section
/-! DEFINITION. Drop line characters: rates, lengths, parity, what the receiver delivers (chapter 3), and the
intervals measured in them (chapter 4). -/

namespace Sys2Proof.Machine

/-- Reference clock periods in one bit period (R43). -/
def bitPeriod (p : Fin 8) (m : Fin 15) : Nat := 2 ^ (p.val + 1) * (m.val + 16)

/-- The rate in bits per second, rounded down (R43). -/
def bitRate (p : Fin 8) (m : Fin 15) : Nat := 18432000 / bitPeriod p m

/-- Data bits. -/
def DataBits.count : DataBits → Nat
  | .seven => 7
  | .eight => 8

/-- Parity bits (R44). -/
def Parity.count : Parity → Nat
  | .none => 0
  | .even => 1
  | .odd => 1
  | .zero => 1

/-- Stop bits. -/
def StopBits.count : StopBits → Nat
  | .one => 1
  | .two => 2

/-- The length B of a character in bit periods (R44). -/
def Tune.charBits (t : Tune) : Nat := 1 + t.data.count + t.parity.count + t.stop.count

/-- The modulus M of the check byte (R63). -/
def DataBits.modulus : DataBits → Nat
  | .seven => 128
  | .eight => 256

/-- The value a character carries: the low 7 bits under a 7-bit format (R46, R49). -/
def DataBits.value (d : DataBits) (b : Byte) : Byte :=
  match d with
  | .seven => b &&& 0x7F
  | .eight => b

/-- The number of ones in a byte is odd. -/
def oddOnes (b : Byte) : Bool :=
  b.getLsbD 0 ^^ b.getLsbD 1 ^^ b.getLsbD 2 ^^ b.getLsbD 3 ^^ b.getLsbD 4 ^^ b.getLsbD 5 ^^ b.getLsbD 6 ^^ b.getLsbD 7

/-- The parity bit sent, where the format has one (R46). -/
def Tune.parityBit (t : Tune) (b : Byte) : Option Bool :=
  match t.parity with
  | .none => none
  | .even => some (oddOnes (t.data.value b))
  | .odd => some (!oddOnes (t.data.value b))
  | .zero => some false

/-- The data bits sent, least significant first (R46). -/
def DataBits.sent (d : DataBits) (b : Byte) : List Bool :=
  match d with
  | .seven => [b.getLsbD 0, b.getLsbD 1, b.getLsbD 2, b.getLsbD 3, b.getLsbD 4, b.getLsbD 5, b.getLsbD 6]
  | .eight =>
    [b.getLsbD 0, b.getLsbD 1, b.getLsbD 2, b.getLsbD 3, b.getLsbD 4, b.getLsbD 5, b.getLsbD 6, b.getLsbD 7]

/-- The bit periods of a character the engine sends, `true` for mark (R46). -/
def Tune.sentBits (t : Tune) (b : Byte) : List Bool :=
  false :: (t.data.sent b ++ (t.parityBit b).toList ++ List.replicate t.stop.count true)

/-- What a transmit output does: it rests at mark, or it carries characters, bit period by bit period, `true` for mark. -/
inductive Output where
  | mark
  | carries (bits : List Bool)
  deriving DecidableEq, Repr

/-- The error of a delivered character (R49). -/
inductive CharError where
  | none
  | parity
  | framing
  deriving DecidableEq, Repr

/-- Does the sampled parity bit break the setting? With ZERO and NONE it is not checked (R49). -/
def Tune.parityBroken (t : Tune) (ch : Sampled) : Bool :=
  match t.parity with
  | .none => false
  | .zero => false
  | .even => oddOnes (t.data.value ch.data) ^^ ch.parity
  | .odd => !(oddOnes (t.data.value ch.data) ^^ ch.parity)

/-- The error a character is delivered with; a framing error outweighs a parity error (R49). -/
def Tune.error (t : Tune) (ch : Sampled) : CharError :=
  if !ch.stop then .framing else if t.parityBroken ch then .parity else .none

/-- The value a character is delivered with (R49). -/
def Tune.delivered (t : Tune) (ch : Sampled) : Byte := t.data.value ch.data

/-- The receiver after it delivers a character: at rest, or in break after a framing error (R49). -/
def rxAfter : CharError → LineRx
  | .framing => .inBreak
  | .none => .atRest
  | .parity => .atRest

/-- What the receiver samples of a character sent without disturbance: its data bits, its parity bit, mark. -/
def Tune.undisturbed (t : Tune) (b : Byte) : Sampled := ⟨t.data.value b, (t.parityBit b).getD true, true⟩

/-- The check byte over the bytes before it (R63). -/
def checkByte (d : DataBits) (bytes : List Byte) : Byte :=
  byteOf ((d.modulus - (bytes.map BitVec.toNat).sum % d.modulus) % d.modulus)

/-- Do the bytes, CHECK included, sum to 0 modulo M (R63)? -/
def sumsToZero (d : DataBits) (bytes : List Byte) : Bool := (bytes.map BitVec.toNat).sum % d.modulus == 0

/-- The reply window in bit periods of the slot's rate (R66). -/
def replyWindowBits (t : Tune) (w : Fin 16) : Nat := w.val * t.charBits

/-- The gap limit in bit periods (R68, R85). -/
def gapBits (t : Tune) : Nat := 2 * t.charBits

/-- The guard in bit periods (R70, R85). -/
def guardBits (t : Tune) : Nat := t.charBits

/-- The sweep reply window in bit periods of the base rate (R85). -/
def sweepWindowBits (t : Tune) : Nat := 3 * t.charBits

/-- The chatter interval in bit periods of the base rate (R54). -/
def chatterBits (t : Tune) : Nat := 2 * t.charBits

end Sys2Proof.Machine
end

