-- ==== Sys2Proof/Machine/Operands.lean ====
section
/-! DEFINITION. The byte layouts of chapter 11 as the part reads and builds them: lane commands, command records,
event records, unit records, telegrams, replies. -/

namespace Sys2Proof.Machine

/-! ### Lane commands (section 11.3) -/

/-- A well-formed lane command with its argument bytes as carried. -/
inductive LaneCmd where
  | openLane (tag : Word16)
  | close
  | clear
  | showText (row report : Byte) (text : List Byte)
  | tone (pattern report : Byte)
  | reader (onOff report : Byte)
  | entry (count dot echo chain report : Byte)
  | pin (min max chain report : Byte)
  | unlock (report : Byte)
  | decideCard (choice : Byte)
  deriving DecidableEq, Repr

/-- The command a code and its argument bytes give; none where the code is none of the ten or the length is not one
the command admits (R134). -/
def LaneCmd.ofArgs (code : Byte) (args : List Byte) : Option LaneCmd :=
  match code.toNat, args with
  | 1, [hi, lo] => some (.openLane (word16 hi lo))
  | 2, [] => some .close
  | 3, [] => some .clear
  | 4, row :: report :: text => if text.length ≤ 20 then some (.showText row report text) else none
  | 5, [pattern, report] => some (.tone pattern report)
  | 6, [onOff, report] => some (.reader onOff report)
  | 7, [count, dot, echo, chain, report] => some (.entry count dot echo chain report)
  | 8, [min, max, chain, report] => some (.pin min max chain report)
  | 9, [report] => some (.unlock report)
  | 10, [choice] => some (.decideCard choice)
  | _, _ => none

/-- The first command of a body and what follows it; none where it is malformed (R134). -/
def LaneCmd.take : List Byte → Option (LaneCmd × List Byte)
  | code :: len :: tail =>
    if len.toNat ≤ tail.length then
      match LaneCmd.ofArgs code (tail.take len.toNat) with
      | some cmd => some (cmd, tail.drop len.toNat)
      | none => none
    else none
  | _ => none

/-- The bytes of a command as a frame carries it (section 11.3). -/
def LaneCmd.bytes : LaneCmd → List Byte
  | .openLane tag => [1, 2, hiByte tag, loByte tag]
  | .close => [2, 0]
  | .clear => [3, 0]
  | .showText row report text => 4 :: byteOf (2 + text.length) :: row :: report :: text
  | .tone pattern report => [5, 2, pattern, report]
  | .reader onOff report => [6, 2, onOff, report]
  | .entry count dot echo chain report => [7, 5, count, dot, echo, chain, report]
  | .pin min max chain report => [8, 4, min, max, chain, report]
  | .unlock report => [9, 1, report]
  | .decideCard choice => [10, 1, choice]

/-! ### Outbound command records (R137, R183) -/

/-- Target roles of a command record. -/
inductive TargetRole where
  | keypad
  | cardReader
  deriving DecidableEq, Repr

/-- Role codes of a command record (R183). -/
def TargetRole.code : TargetRole → Byte
  | .keypad => 1
  | .cardReader => 2

/-- Offset 2 of a command record: the role in bits 0 and 1, then report, dot-allowed, echo and chain (R183). -/
def recordFlags (role : TargetRole) (report dot echo chain : Bool) : Byte :=
  role.code ||| (if report then 4 else 0) ||| (if dot then 8 else 0) ||| (if echo then 16 else 0) |||
    (if chain then 32 else 0)

/-- A command record: its length, the unit command code, the flags and the value arguments (R183). -/
def commandRecord (code flags : Byte) (values : List Byte) : List Byte :=
  byteOf (3 + values.length) :: code :: flags :: values

/-- The unit command code of a command record. -/
def recordCode (r : List Byte) : Byte := r.getD 1 0

/-- Byte 2 of a command record. -/
def recordFlagByte (r : List Byte) : Byte := r.getD 2 0

/-- The role code of a command record: bits 0 and 1 of byte 2. -/
def recordRole (r : List Byte) : Byte := recordFlagByte r &&& 3

/-- Does the record's role match the kind of a unit (R79, R128)? -/
def roleMatches (r : List Byte) (kind : UnitKind) : Bool :=
  (recordRole r == 1 && kind.keypad) || (recordRole r == 2 && kind.cardReader)

/-- The report flag of a command record. -/
def recordReport (r : List Byte) : Bool := (recordFlagByte r).getLsbD 2

/-- The PAYLOAD a COMMAND telegram takes from a command record (R183): the code, then the bytes from offset 3 on; for
BEGIN_AMOUNT, the count and dot-allowed as a byte of 0 or 1. -/
def recordPayload (r : List Byte) : List Byte :=
  if recordCode r = 5 then [5, r.getD 3 0, flagByte ((recordFlagByte r).getLsbD 3)] else recordCode r :: r.drop 3

/-! ### Event records (section 11.4) -/

/-- An event record: length, kind, tag, content. -/
def eventRecord (kind : EventKind) (tag : Word16) (content : List Byte) : List Byte :=
  byteOf (4 + content.length) :: kind.code :: hiByte tag :: loByte tag :: content

/-! ### Unit records and settings (section 11.6) -/

/-- A field of a request that is refused names its position, counting from 1 (R185). -/
abbrev FieldCheck (α : Type) := Nat ⊕ α

/-- A field that must be below a bound. -/
def below (position bound : Nat) (b : Byte) : FieldCheck (Fin bound) :=
  if h : b.toNat < bound then .inr ⟨b.toNat, h⟩ else .inl position

/-- A field whose byte must name a value. -/
def named {α : Type} (position : Nat) (v : Option α) : FieldCheck α :=
  match v with
  | some x => .inr x
  | none => .inl position

/-- The rate field m: 15 is stored as 14, more is refused (R25, R35, R36). -/
def rateM (position : Nat) (b : Byte) : FieldCheck (Fin 15) :=
  if h : b.toNat < 15 then .inr ⟨b.toNat, h⟩ else if b.toNat = 15 then .inr 14 else .inl position

/-- A drop address, 1 to 31 (R25). -/
def addressField (position : Nat) (b : Byte) : FieldCheck (Fin 32) :=
  if b = 0 then .inl position else below position 32 b

/-- The reply window W: 0 is stored as 1 (R25). -/
def windowField (position : Nat) (b : Byte) : FieldCheck (Fin 16) :=
  if b = 0 then .inr 1 else below position 16 b

/-- Go on with a checked field, or answer the first faulty position (R23, R185). -/
def FieldCheck.andThen {α β : Type} (c : FieldCheck α) (f : α → FieldCheck β) : FieldCheck β :=
  match c with
  | .inl position => .inl position
  | .inr x => f x

/-- The twelve bytes of a unit record checked and clamped in field order (R25, R185). -/
def UnitRecord.ofBytes : List Byte → FieldCheck UnitRecord
  | [en, ln, ad, kd, la, db, pa, sb, p, m, w, km] =>
    (named 1 (boolOfByte en)).andThen fun en =>
    (named 2 (lineOfByte ln)).andThen fun ln =>
    (addressField 3 ad).andThen fun ad =>
    (named 4 (UnitKind.ofByte kd)).andThen fun kd =>
    (below 5 8 la).andThen fun la =>
    (named 6 (DataBits.ofByte db)).andThen fun db =>
    (named 7 (Parity.ofByte pa)).andThen fun pa =>
    (named 8 (StopBits.ofByte sb)).andThen fun sb =>
    (below 9 8 p).andThen fun p =>
    (rateM 10 m).andThen fun m =>
    (windowField 11 w).andThen fun w =>
    (below 12 4 km).andThen fun km =>
    .inr ⟨en, ln, ad, kd, la, ⟨db, pa, sb, p, m⟩, w, km⟩
  | _ => .inl 0

/-- The format and rate fields as SET_LINE and a unit record carry them, p and m last. -/
def Tune.formatBytes (t : Tune) : List Byte := [t.data.code, t.parity.code, t.stop.code]

/-- The twelve bytes of a unit record (section 11.6). -/
def UnitRecord.bytes (r : UnitRecord) : List Byte :=
  [flagByte r.enabled, lineCode r.line, byteOf r.address.val, r.kind.code, byteOf r.lane.val, r.tune.data.code,
    r.tune.parity.code, r.tune.stop.code, byteOf r.tune.p.val, byteOf r.tune.m.val, byteOf r.window.val,
    byteOf r.keyMap.val]

/-- The five settings of a lane as carried (section 11.6). -/
def LaneSettings.bytes (r : LaneSettings) : List Byte :=
  [byteOf r.policy.val, flagByte r.cardHold, byteOf r.timeout.val, byteOf r.standbyPrompt.val, byteOf r.closedPrompt.val]

/-- A number held within 1 and 120 s (R29). -/
def timeoutField (b : Byte) : Fin 121 :=
  if h : b.toNat < 121 then (if b = 0 then 1 else ⟨b.toNat, h⟩) else 120

/-- The five settings checked and clamped (R29). -/
def LaneSettings.ofBytes : List Byte → FieldCheck LaneSettings
  | [po, ch, ti, sp, cp] =>
    (below 1 4 po).andThen fun po =>
    (named 2 (boolOfByte ch)).andThen fun ch =>
    (below 4 8 sp).andThen fun sp =>
    (below 5 8 cp).andThen fun cp =>
    .inr ⟨po, ch, timeoutField ti, sp, cp⟩
  | _ => .inl 0

/-- The stuck limit held within 10 and 250 ms (R36). -/
def stuckField (b : Byte) : Fin 251 :=
  if h : b.toNat < 251 then (if b.toNat < 10 then 10 else ⟨b.toNat, h⟩) else 250

/-- The eight fields of SET_LINE after the line, checked and clamped (R36). -/
def LineSettings.ofBytes : List Byte → FieldCheck LineSettings
  | [p, m, db, pa, sb, st, re, sw] =>
    (below 1 8 p).andThen fun p =>
    (rateM 2 m).andThen fun m =>
    (named 3 (DataBits.ofByte db)).andThen fun db =>
    (named 4 (Parity.ofByte pa)).andThen fun pa =>
    (named 5 (StopBits.ofByte sb)).andThen fun sb =>
    (named 7 (Recovery.ofByte re)).andThen fun re =>
    (named 8 (boolOfByte sw)).andThen fun sw =>
    .inr ⟨⟨db, pa, sb, p, m⟩, stuckField st, re, sw⟩
  | _ => .inl 0

/-- The eight fields of SET_LINE as carried. -/
def LineSettings.bytes (r : LineSettings) : List Byte :=
  [byteOf r.base.p.val, byteOf r.base.m.val, r.base.data.code, r.base.parity.code, r.base.stop.code,
    byteOf r.stuckLimit.val, r.recovery.code, flagByte r.sweep]

/-- The silence time held within 60 s (R35). -/
def silenceField (b : Byte) : Fin 61 := if h : b.toNat < 61 then ⟨b.toNat, h⟩ else 60

/-- The three fields of SET_LINK checked and clamped (R35). -/
def LinkSettings.ofBytes : List Byte → FieldCheck LinkSettings
  | [p, m, t] =>
    (below 1 8 p).andThen fun p =>
    (rateM 2 m).andThen fun m =>
    .inr ⟨p, m, silenceField t⟩
  | _ => .inl 0

/-- The three fields of SET_LINK as carried. -/
def LinkSettings.bytes (r : LinkSettings) : List Byte := [byteOf r.p.val, byteOf r.m.val, byteOf r.silence.val]

/-- Is the byte '0' to '9'? -/
def isDigit (b : Byte) : Bool := decide (0x30 ≤ b.toNat ∧ b.toNat ≤ 0x39)

/-- Is the byte in the printable range 0x20 to 0x7E (00_scope.md, Text)? -/
def isPrintable (b : Byte) : Bool := decide (0x20 ≤ b.toNat ∧ b.toNat ≤ 0x7E)

/-- The three fields of LOAD_POLICY checked and clamped (R31): 0x3D is '=', 0x2A is '*'. -/
def Policy.ofBytes : List Byte → FieldCheck Policy
  | [kf, kl, mask] =>
    if isDigit mask ∨ mask = 0x3D then .inl 3
    else
      .inr ⟨if h : kf.toNat < 9 then ⟨kf.toNat, h⟩ else 8, if h : kl.toNat < 5 then ⟨kl.toNat, h⟩ else 4,
        if isPrintable mask then mask else 0x2A⟩
  | _ => .inl 0

/-- The three fields of LOAD_POLICY as carried. -/
def Policy.bytes (r : Policy) : List Byte := [byteOf r.keepFirst.val, byteOf r.keepLast.val, r.mask]

/-- A character outside the printable range is kept as '?' (R32, R136). -/
def printable (b : Byte) : Byte := if isPrintable b then b else 0x3F

/-! ### Telegrams and replies (R61, R62, R186) -/

/-- The CONTROL byte of a telegram to a slot (R186). -/
def telegramControl (kind : TelegramKind) (ack : Ack) (c : Bool) : Byte :=
  byteOf (kind.code + 8 * ack.code + (if c then 32 else 0) + 64 * ack.seqBit)

/-- ADDRESS, CONTROL, LENGTH, PAYLOAD and CHECK (R61, R63). -/
def telegramBytes (d : DataBits) (address control : Byte) (payload : List Byte) : List Byte :=
  (address :: control :: byteOf payload.length :: payload) ++
    [checkByte d (address :: control :: byteOf payload.length :: payload)]

/-- A SWEEP probe of a range (R92). -/
def probeBytes (d : DataBits) (r : AddrRange) : List Byte := telegramBytes d 0 0x02 [byteOf r.lo, byteOf r.hi]

/-- Reply kinds (R62). -/
inductive ReplyKind where
  | idle
  | keys
  | card
  | status
  | pinBlock
  deriving DecidableEq, Repr

/-- The reply kind of a CONTROL byte: bits 0 to 2 (R186). -/
def ReplyKind.ofControl (control : Byte) : Option ReplyKind :=
  match (control &&& 7).toNat with
  | 0 => some .idle
  | 1 => some .keys
  | 2 => some .card
  | 3 => some .status
  | 4 => some .pinBlock
  | _ => none

/-- The lengths a reply kind admits (R62). -/
def ReplyKind.admits : ReplyKind → Nat → Bool
  | .idle, n => n == 0
  | .keys, n => decide (1 ≤ n ∧ n ≤ 8)
  | .card, n => decide (1 ≤ n ∧ n ≤ 41)
  | .status, n => n == 1
  | .pinBlock, n => n == 8 || n == 16

/-- A VALID reply. -/
structure Reply where
  kind : ReplyKind
  seq : Bool
  taken : Bool
  busy : Bool
  payload : List Byte
  deriving DecidableEq, Repr

/-- Outcomes of an exchange (R71). -/
inductive ExchangeOutcome where
  | valid (r : Reply)
  | noReply
  | badChar
  | badCheck
  | wrongAddress
  | badFormat
  | truncated
  | conflictLimit
  | aborted
  deriving DecidableEq, Repr

/-- Is the outcome a success (R71)? -/
def ExchangeOutcome.isValid : ExchangeOutcome → Bool
  | .valid _ => true
  | .noReply => false
  | .badChar => false
  | .badCheck => false
  | .wrongAddress => false
  | .badFormat => false
  | .truncated => false
  | .conflictLimit => false
  | .aborted => false

/-- The third check of R69, on CONTROL and LENGTH. -/
def replyFormat (control : Byte) (length : Nat) : Option ReplyKind :=
  match ReplyKind.ofControl control with
  | none => none
  | some kind =>
    if control &&& 0xC0 = 0 ∧ ¬(control.getLsbD 4 = true ∧ control.getLsbD 5 = true) ∧ kind.admits length = true
    then some kind else none

/-- A complete reply judged in the order of R69's table: `address` is the ADDRESS of the telegram. -/
def judgeReply (d : DataBits) (address : Byte) (bytes : List Byte) : ExchangeOutcome :=
  if sumsToZero d bytes = false then .badCheck
  else
    match bytes with
    | a :: control :: len :: tail =>
      if a ≠ address then .wrongAddress
      else
        match replyFormat control len.toNat with
        | none => .badFormat
        | some kind =>
          .valid ⟨kind, control.getLsbD 3, control.getLsbD 4, control.getLsbD 5, tail.take len.toNat⟩
    | _ => .badFormat

/-- What the collected characters of a sweep answer are judged as (R93). -/
inductive SweepOutcome where
  | silence
  | clean (address : Nat)
  | garble
  deriving DecidableEq, Repr

/-- The sweep answer judged (R93). -/
def judgeSweep (r : AddrRange) : List (Byte × Bool) → SweepOutcome
  | [] => .silence
  | [(a, false), (b, false)] =>
    if b = a ^^^ 0x7F ∧ r.lo ≤ a.toNat ∧ a.toNat ≤ r.hi then .clean a.toNat else .garble
  | _ => .garble

end Sys2Proof.Machine
end

