-- ==== Sys2Proof/Machine/Ops.lean ====
section
/-! DEFINITION. The named operations over the state that every meaning is built from: reading and replacing one lane,
one slot, one engine or one queue; raising a kind; storing a record; setting a directive. -/

namespace Sys2Proof.Machine

/-! ### One part of the state -/

/-- The value for a line. -/
def PerLine.get {α : Type} (v : PerLine α) : Line → α
  | .a => v.a
  | .b => v.b

/-- The value for a line replaced. -/
def PerLine.set {α : Type} (v : PerLine α) (l : Line) (x : α) : PerLine α :=
  match l with
  | .a => { v with a := x }
  | .b => { v with b := x }

/-- The record of a lane. -/
def State.lane (s : State) (k : LaneNo) : LaneRecord := s.lanes[k]

/-- The record of a lane replaced. -/
def State.setLane (s : State) (k : LaneNo) (r : LaneRecord) : State := { s with lanes := s.lanes.set k r }

/-- The runtime record of a slot. -/
def State.unit (s : State) (n : SlotNo) : UnitRun := s.units[n]

/-- The runtime record of a slot replaced. -/
def State.setUnit (s : State) (n : SlotNo) (u : UnitRun) : State := { s with units := s.units.set n u }

/-- The engine of a line. -/
def State.engine (s : State) (l : Line) : Engine := s.engines.get l

/-- The engine of a line replaced. -/
def State.setEngine (s : State) (l : Line) (e : Engine) : State := { s with engines := s.engines.set l e }

/-- A lane's inbound queue. -/
def State.inQueue (s : State) (k : LaneNo) : List (List Byte) := s.inbound[k]

/-- A lane's inbound queue replaced. -/
def State.setInQueue (s : State) (k : LaneNo) (q : List (List Byte)) : State := { s with inbound := s.inbound.set k q }

/-- A lane's outbound queue. -/
def State.outQueue (s : State) (k : LaneNo) : List OutRecord := s.outbound[k]

/-- A lane's outbound queue replaced. -/
def State.setOutQueue (s : State) (k : LaneNo) (q : List OutRecord) : State := { s with outbound := s.outbound.set k q }

/-- The current record of a slot. -/
def State.record (s : State) (n : SlotNo) : UnitRecord := s.tables.units[n].current

/-- The staged record of a slot. -/
def State.staged (s : State) (n : SlotNo) : Option UnitRecord := s.tables.units[n].staged

/-- The unit table entry of a slot replaced. -/
def State.setEntry (s : State) (n : SlotNo) (x : SlotEntry) : State :=
  { s with tables := { s.tables with units := s.tables.units.set n x } }

/-- The settings of a lane. -/
def State.laneSettings (s : State) (k : LaneNo) : LaneSettings := s.tables.lanes[k]

/-- The service ring of a line. -/
def State.ring (s : State) (l : Line) : List SlotNo := s.tables.rings.get l

/-- The settings of a line in force. -/
def State.lineInForce (s : State) (l : Line) : LineSettings := (s.tables.lines.get l).inForce

/-- The notice set replaced. -/
def State.setNotices (s : State) (n : NoticeSet) : State := { s with notices := n }

/-- The Link Port replaced. -/
def State.setLink (s : State) (p : LinkPort) : State := { s with link := p }

/-- The reply slot replaced. -/
def State.setReply (s : State) (r : Option (List Byte)) : State := { s with reply := r }

/-- The table store replaced. -/
def State.setTables (s : State) (t : Tables) : State := { s with tables := t }

/-- The eight lanes in order. -/
def allLanes : List LaneNo := List.finRange 8

/-- The sixteen slots in order. -/
def allSlots : List SlotNo := List.finRange 16

/-! ### Bound units (R102) -/

/-- Is a slot bound to a lane: enabled, its current record naming the lane? -/
def State.bound (s : State) (k : LaneNo) (n : SlotNo) : Bool := (s.record n).enabled && (s.record n).lane == k

/-- The bound units of a lane, in slot order. -/
def State.boundSlots (s : State) (k : LaneNo) : List SlotNo := allSlots.filter (s.bound k)

/-- The keypad of a lane. -/
def State.keypadOf (s : State) (k : LaneNo) : Option SlotNo := (s.boundSlots k).find? fun n => (s.record n).kind.keypad

/-- The reader of a lane. -/
def State.readerOf (s : State) (k : LaneNo) : Option SlotNo := (s.boundSlots k).find? fun n => (s.record n).kind.cardReader

/-- The current lane of a slot; none for a disabled one (section 2.3). -/
def State.currentLane (s : State) (n : SlotNo) : Option LaneNo :=
  if (s.record n).enabled then some (s.record n).lane else none

/-- Is the slot in a trusted state (section 6.3)? -/
def State.trusted (s : State) (n : SlotNo) : Bool := (s.unit n).presence.trusted

/-! ### Raising kinds -/

/-- A kind raised in a lane's alert set (R139). -/
def State.raiseAlert (s : State) (k : LaneNo) (kind : AlertKind) (d1 d2 : Byte) : State :=
  s.setLane k { s.lane k with alerts := (s.lane k).alerts.raise kind d1 d2 }

/-- A kind raised in the notice set (R24). -/
def State.raiseNotice (s : State) (kind : NoticeKind) (d1 d2 : Byte) : State :=
  s.setNotices (s.notices.raise kind d1 d2)

/-! ### Queue Memory (chapter 7) -/

/-- The place of a lane's inbound queue in the partition (R34). -/
def inPlace (k : LaneNo) : Fin 16 := ⟨2 * k.val, by omega⟩

/-- The place of a lane's outbound queue in the partition (R34). -/
def outPlace (k : LaneNo) : Fin 16 := ⟨2 * k.val + 1, by omega⟩

/-- The capacity of a lane's inbound queue in bytes (R120). -/
def State.inCapacity (s : State) (k : LaneNo) : Nat := s.tables.partition[inPlace k] * Config.granuleBytes

/-- The capacity of a lane's outbound queue in bytes (R120). -/
def State.outCapacity (s : State) (k : LaneNo) : Nat := s.tables.partition[outPlace k] * Config.granuleBytes

/-- The bytes held in a lane's inbound queue (R122). -/
def State.inOccupancy (s : State) (k : LaneNo) : Nat := ((s.inQueue k).map List.length).sum

/-- The bytes held in a lane's outbound queue (R122). -/
def State.outOccupancy (s : State) (k : LaneNo) : Nat := ((s.outQueue k).map fun r => r.bytes.length).sum

/-- The fit test for the inbound queue (R123). -/
def State.inFits (s : State) (k : LaneNo) (n : Nat) : Bool := decide (n ≤ s.inCapacity k - s.inOccupancy k)

/-- The fit test for the outbound queue (R123). -/
def State.outFits (s : State) (k : LaneNo) (n : Nat) : Bool := decide (n ≤ s.outCapacity k - s.outOccupancy k)

/-- A record joins the tail of a lane's inbound queue (R122). -/
def State.storeIn (s : State) (k : LaneNo) (r : List Byte) : State := s.setInQueue k (s.inQueue k ++ [r])

/-- A record joins the tail of a lane's outbound queue (R122), under the next serial number. -/
def State.storeOut (s : State) (k : LaneNo) (r : List Byte) : State :=
  { s.setOutQueue k (s.outQueue k ++ [⟨s.serial, r⟩]) with serial := s.serial + 1 }

/-- The head attempt count of every slot bound to a lane becomes 0 (R116). -/
def State.clearHeadAttempts (s : State) (k : LaneNo) : State :=
  (s.boundSlots k).foldl (fun s n => s.setUnit n { s.unit n with headAttempts := 0 }) s

/-- A lane's outbound queue flushed (R130). -/
def State.flushOut (s : State) (k : LaneNo) : State := (s.setOutQueue k []).clearHeadAttempts k

/-- A lane's penalty flag cleared (R15). -/
def State.clearPenalty (s : State) (k : LaneNo) : State :=
  s.setLink { s.link with penalty := s.link.penalty.set k false }

/-- A lane's inbound queue flushed (R126). -/
def State.flushIn (s : State) (k : LaneNo) : State := (s.setInQueue k []).clearPenalty k

/-- The head of a lane's outbound queue leaves it (R129). -/
def State.dropHead (s : State) (k : LaneNo) : State := (s.setOutQueue k (s.outQueue k).tail).clearHeadAttempts k

/-! ### Directives (R113) -/

/-- The entry of one kind in a directive set. -/
def Directives.get (ds : Directives) : Directive → Option Pending
  | .eject => ds.eject
  | .keep => ds.keep
  | .standby => ds.standby
  | .rest => ds.rest
  | .wake => ds.wake

/-- The entry of one kind replaced. -/
def Directives.put (ds : Directives) (d : Directive) (x : Option Pending) : Directives :=
  match d with
  | .eject => { ds with eject := x }
  | .keep => { ds with keep := x }
  | .standby => { ds with standby := x }
  | .rest => { ds with rest := x }
  | .wake => { ds with wake := x }

/-- A directive set after LNC sets one kind, whose new entry would be `x` (the table of R113). -/
def Directives.join (ds : Directives) (d : Directive) (x : Pending) : Directives :=
  if (ds.get d).isSome then ds
  else
    match d with
    | .eject => { ds with eject := some x, keep := none }
    | .keep => { ds with keep := some x, eject := none }
    | .wake => { ds with wake := some x, rest := none }
    | .rest => { ds with rest := some x, wake := none, standby := none }
    | .standby => if ds.rest.isSome then ds else { ds with standby := some x }

/-- LNC sets a directive for a slot (R113), with count 0 and the next serial number where it joins; it is not set for
a DISABLED slot. -/
def State.setDirective (s : State) (n : SlotNo) (d : Directive) : State :=
  if (s.unit n).presence = .disabled ∨ (s.unit n).directives.join d ⟨0, s.serial⟩ = (s.unit n).directives then s
  else
    { s.setUnit n { s.unit n with directives := (s.unit n).directives.join d ⟨0, s.serial⟩ } with
      serial := s.serial + 1 }

/-- LNC sets a directive for a slot, where there is one. -/
def State.setDirectiveFor (s : State) (n : Option SlotNo) (d : Directive) : State :=
  match n with
  | none => s
  | some n => s.setDirective n d

/-- An item counted as ignored in a slot, `n` times (R118). -/
def State.countIgnored (s : State) (slot : SlotNo) (n : Nat) : State :=
  s.setUnit slot
    { s.unit slot with
      counters := { (s.unit slot).counters with ignored := bumpBy (s.unit slot).counters.ignored n } }

end Sys2Proof.Machine
end

