-- ==== Sys2Proof/Machine/Arbiter.lean ====
section
/-! DEFINITION. The transmit arbiter (R13 to R15): which source is selected, and what it gives up. -/

namespace Sys2Proof.Machine

/-- The sources that compete for the transmitter (R13). -/
inductive Source where
  | reply
  | notices
  | alerts (lane : LaneNo)
  | events (lane : LaneNo)
  deriving DecidableEq, Repr

/-- Every source: the reply slot, the notice set, then the lanes' alert sets and inbound queues. -/
def allSources : List Source := .reply :: .notices :: (allLanes.map .alerts ++ allLanes.map .events)

/-- Is a source a candidate (R13)? Lane sources only while the link is LIVE (R14). -/
def State.isCandidate (s : State) : Source → Bool
  | .reply => s.reply.isSome
  | .notices => !noneHeld s.notices.toList
  | .alerts k => s.link.state == .live && !noneHeld (s.lane k).alerts.toList
  | .events k => s.link.state == .live && !(s.inQueue k).isEmpty

/-- The candidates. -/
def State.candidates (s : State) : List Source := allSources.filter s.isCandidate

/-- The rank a source competes at (R13, R15). -/
def State.rank (s : State) : Source → Nat
  | .reply => 1
  | .notices => 1
  | .alerts _ => 2
  | .events k => if s.link.penalty[k] then 5 else 4

/-- The place of a source among those of its rank (R14): the reply slot before the notice set, lanes counted cyclically
upward from the pointer, the pointer's own last. -/
def State.placeInRank (s : State) : Source → Nat
  | .reply => 0
  | .notices => 1
  | .alerts k => (k.val + 7 - s.link.pointer.val) % 8
  | .events k => (k.val + 7 - s.link.pointer.val) % 8

/-- Does one source come before another at a selection (R14)? -/
def State.before (s : State) (a b : Source) : Bool :=
  decide (s.rank a < s.rank b ∨ (s.rank a = s.rank b ∧ s.placeInRank a < s.placeInRank b))

/-- The winner at a selection (R14). -/
def State.winner (s : State) : List Source → Option Source
  | [] => none
  | c :: rest =>
    match s.winner rest with
    | none => some c
    | some w => some (if s.before w c then w else c)

/-- The frame built from a source (R13, R184). -/
def State.frameFrom (s : State) : Source → Frame
  | .reply => ⟨0x0F, .reply, s.reply.getD []⟩
  | .notices => ⟨0x0F, .notice, entryBytes 1 s.notices.toList⟩
  | .alerts k => ⟨byteOf k.val, .alert, entryBytes 1 (s.lane k).alerts.toList⟩
  | .events k => ⟨byteOf k.val, .event, (s.inQueue k).headD []⟩

/-- A source gives up its item (R13). -/
def State.giveUpItem (s : State) : Source → State
  | .reply => s.setReply none
  | .notices => s.setNotices (Vector.replicate 5 none)
  | .alerts k => s.setLane k { s.lane k with alerts := noAlerts }
  | .events k => s.setInQueue k (s.inQueue k).tail

/-- The pointer after a win (R14). -/
def pointerAfter (pointer : Fin 8) : Source → Fin 8
  | .reply => pointer
  | .notices => pointer
  | .alerts k => k
  | .events k => k

/-- The penalty flags after the reply slot or the notice set wins: all clear (R15). While the link is QUIET, R14 says
that they stay as they were: log entry 31. -/
def State.penaltyCleared (s : State) : Vector Bool 8 :=
  if s.link.state = .quiet ∧ Config.quietKeepsPenalty = true then s.link.penalty else Vector.replicate 8 false

/-- The penalty flags after a win (R15): at most the winning inbound queue's own, where records are left. -/
def State.penaltyAfter (s : State) (src : Source) (left : LaneNo → Bool) : Vector Bool 8 :=
  match src with
  | .reply => s.penaltyCleared
  | .notices => s.penaltyCleared
  | .alerts _ => Vector.replicate 8 false
  | .events k => (Vector.replicate 8 false).set k (left k)

/-- A source is selected: its frame goes into the transmit frame buffer and it gives up its item (R13). -/
def State.select (s : State) (src : Source) : State :=
  let s' := s.giveUpItem src
  s'.setLink { s'.link with
    tx := .sending (s.frameFrom src)
    pointer := pointerAfter s.link.pointer src
    penalty := s.penaltyAfter src fun k => !(s'.inQueue k).isEmpty }

/-- The transmitter while R9's steps are made: nothing is selected until they are done. -/
def Transmitter.gather : Transmitter → Transmitter
  | .idle => .gathering
  | .gathering => .gathering
  | .sending f => .sending f

/-- The winner is selected; without a candidate the transmitter is IDLE (R13, R14). -/
def State.selectWinner (s : State) : State :=
  match s.winner s.candidates with
  | none => s.setLink { s.link with tx := .idle }
  | some src => s.select src

/-- A selection by rank on a transmitter that is IDLE or gathers the candidates of R9's steps (R9, R13, R14). -/
def State.selectByRank (s : State) : State :=
  match s.link.tx with
  | .sending _ => s
  | .idle => s.selectWinner
  | .gathering => s.selectWinner

/-- One of the candidates, none of them preferred (R13): the next free choice. -/
def State.anyOf (s : State) (cs : List Source) : Source :=
  cs.getD (Config.freeChoice s.choices % cs.length) .reply

/-- What has become a candidate on an IDLE transmitter is selected, alone (R13): the one source, or any one of several that
became candidates at the same moment (log entry 9). -/
def State.selectNew (s : State) : State :=
  match s.link.tx, s.candidates with
  | .sending _, _ => s
  | .gathering, _ => s
  | .idle, [] => s
  | .idle, [src] => s.select src
  | .idle, cs => { s.select (s.anyOf cs) with choices := s.choices + 1 }

/-- A source that has become a candidate between two moments of one act, where none was one before, is selected before the
act goes on (R13, log entry 10): what it gains later in the act waits for a later frame. -/
def State.atOnce (before s : State) : State := if before.candidates = [] then s.selectNew else s

end Sys2Proof.Machine
end

