-- ==== Sys2Proof/Machine/Records.lean ====
section
/-! DEFINITION. Applying unit records and what a change of record does to a slot (R26 to R28, R104, R117). -/

namespace Sys2Proof.Machine

/-- Is an exchange with the slot in progress on either line (R117)? -/
def State.exchangeWith (s : State) (n : SlotNo) : Bool :=
  let inProgress (e : Engine) : Bool :=
    match e.exchange with
    | none => false
    | some x => x.slot == n
  inProgress s.engines.a || inProgress s.engines.b

/-- Line or address differ (R28). -/
def UnitRecord.moved (old new : UnitRecord) : Bool := old.line != new.line || old.address != new.address

/-- What R28's table does: keep the runtime state, reset it with a new presence, or clear the counters alone. -/
inductive RecordEffect where
  | keep
  | resetTo (presence : Presence)
  | clearCounters
  deriving DecidableEq, Repr

/-- The first row of R28's table that fits. -/
def recordEffect (old new : UnitRecord) : RecordEffect :=
  match old.enabled, new.enabled with
  | true, false => .resetTo .disabled
  | false, true => .resetTo .seeking
  | true, true => if old.moved new || old.tune != new.tune then .resetTo .seeking else .keep
  | false, false => if old.moved new then .clearCounters else .keep

/-- The runtime record reset for a record change (R117); `moved`: line or address changed. -/
def UnitRun.resetFor (u : UnitRun) (presence : Presence) (moved : Bool) : UnitRun :=
  { u with
    presence := presence
    confirm := 0
    fail := 0
    syncRequest := true
    baseline := none
    pendingFlags := none
    directives := {}
    headAttempts := 0
    returning := if presence = .disabled then false else u.returning
    counters := if moved then {} else u.counters }

/-- The runtime record of a slot after a record is applied; `busy`: an exchange with the slot is in progress. -/
def UnitRun.afterRecord (u : UnitRun) (old new : UnitRecord) (busy : Bool) : UnitRun :=
  let u := { u with
    superseded := u.superseded || busy
    headAttempts := if old.lane = new.lane then u.headAttempts else 0 }
  match recordEffect old new with
  | .keep => u
  | .resetTo p => u.resetFor p (old.moved new)
  | .clearCounters => { u with presence := .disabled, counters := {} }

/-- A record applied to a slot (R28). -/
def State.applyRecord (s : State) (n : SlotNo) (new : UnitRecord) : State :=
  (s.setUnit n ((s.unit n).afterRecord (s.record n) new (s.exchangeWith n))).setEntry n ⟨new, none⟩

/-- Is a lane CLOSED? -/
def State.laneClosed (s : State) (k : LaneNo) : Bool := (s.lane k).phase == .closed

/-- Has a staged record's moment come (R27): the slot's current lane is CLOSED, and the staged record is disabled, or
names that lane, or names a lane that is CLOSED? -/
def State.stagedDue (s : State) (n : SlotNo) (r : UnitRecord) : Bool :=
  match s.currentLane n with
  | none => false
  | some k => s.laneClosed k && (!r.enabled || r.lane == k || s.laneClosed r.lane)

/-- The staged record of a slot applied, if its moment has come. -/
def State.applyStaged (s : State) (n : SlotNo) : State :=
  match s.staged n with
  | none => s
  | some r => if s.stagedDue n r then s.applyRecord n r else s

/-- Every staged record whose moment has come applied, in slot order (R27). -/
def State.applyAllStaged (s : State) : State := allSlots.foldl State.applyStaged s

/-! ### The checks of LOAD_UNIT (R26) -/

/-- The effective record of a slot (section 2.3). -/
def State.effective (s : State) (n : SlotNo) : UnitRecord := (s.staged n).getD (s.record n)

/-- The records of another slot that the per-lane constraints are checked against (R26). -/
def State.bothRecords (s : State) (n : SlotNo) : List UnitRecord := s.record n :: (s.staged n).toList

/-- Two enabled records that share line and address (R26). -/
def sameAddress (a b : UnitRecord) : Bool := a.enabled && b.enabled && a.line == b.line && a.address == b.address

/-- Two enabled records that give one lane two keypad-capable or two reader-capable slots (R26). -/
def sameRole (a b : UnitRecord) : Bool :=
  a.enabled && b.enabled && a.lane == b.lane &&
    ((a.kind.keypad && b.kind.keypad) || (a.kind.cardReader && b.kind.cardReader))

/-- Does the record loaded into slot `n` clash with another slot (R26)? -/
def State.clashes (s : State) (n : SlotNo) (r : UnitRecord) (other : SlotNo) : Bool :=
  other != n && (sameAddress r (s.effective other) || (s.bothRecords other).any (sameRole r))

/-- The lowest-numbered other slot that the record loaded into slot `n` clashes with. -/
def State.firstClash (s : State) (n : SlotNo) (r : UnitRecord) : Option SlotNo := allSlots.find? (s.clashes n r)

/-- Would the record give its line more than 8 enabled slots (R26)? -/
def State.lineFull (s : State) (n : SlotNo) (r : UnitRecord) : Bool :=
  r.enabled &&
    decide (8 ≤ (allSlots.filter fun o => o != n && (s.effective o).enabled && (s.effective o).line == r.line).length)

/-- The detail of the CONFLICT a record loaded into slot `n` is refused with, if it is (R26). Where it breaks both the
per-line limit and another constraint the manual names no order: log entry 16. -/
def State.conflict (s : State) (n : SlotNo) (r : UnitRecord) : Option Byte :=
  match s.firstClash n r, s.lineFull n r with
  | none, false => none
  | none, true => some 8
  | some o, false => some (byteOf o.val)
  | some o, true => some (if Config.lineLimitFirst then 8 else byteOf o.val)

/-- Is the record refused with LANE_BUSY: enabled, naming a lane other than the slot's current lane that is not CLOSED
(R26)? -/
def State.namesBusyLane (s : State) (n : SlotNo) (r : UnitRecord) : Bool :=
  r.enabled && s.currentLane n != some r.lane && !s.laneClosed r.lane

end Sys2Proof.Machine
end

