-- ==== Sys2Proof/Machine/Lanes.lean ====
section
/-! DEFINITION. What happens to a lane record: internal records, faults, closing, opening, standby (chapter 8). -/

namespace Sys2Proof.Machine

/-! ### Faults and internal records -/

/-- The decision removed, its timer stopped (R180). -/
def State.dropDecision (s : State) (k : LaneNo) : State := s.setLane k { s.lane k with decision := none }

/-- The effects of a fault on the decision: it is removed, and EJECT is set for the reader if the reader is trusted
(R146). -/
def State.faultDecision (s : State) (k : LaneNo) : State :=
  if (s.lane k).decision.isNone then s
  else
    match s.readerOf k with
    | none => s.dropDecision k
    | some n => if s.trusted n then (s.dropDecision k).setDirective n .eject else s.dropDecision k

/-- A lane enters FAULTED (R146): everything but the alert. -/
def State.enterFaulted (s : State) (k : LaneNo) : State :=
  (s.setLane k { s.lane k with
    phase := .faulted
    standby := false
    wakeMarks := []
    confirms := []
    window := none
    assembly := none
    pinShadow := false }).faultDecision k

/-- A lane becomes FAULTED with a reason (R146). -/
def State.faultLane (s : State) (k : LaneNo) (reason : FaultReason) : State :=
  (s.enterFaulted k).raiseAlert k .laneFault reason.code 0

/-- What a lost internal record means for the lane in the phase it has reached (R147). -/
def State.overrun (s : State) (k : LaneNo) : State :=
  match (s.lane k).phase with
  | .opening => s.faultLane k .inOverrun
  | .opened => s.faultLane k .inOverrun
  | .closing => s.faultLane k .inOverrun
  | .closed => s
  | .faulted => s

/-- An internal record is stored where it fits; otherwise it is lost and IN_OVERRUN is raised with its kind (R124).
The second part is whether it was lost. -/
def State.writeInternal (s : State) (k : LaneNo) (kind : EventKind) (content : List Byte) : State × Bool :=
  let r := eventRecord kind (s.lane k).tag content
  if s.inFits k r.length then (s.storeIn k r, false) else (s.raiseAlert k .inOverrun kind.code 0, true)

/-- What a lost record means, applied where one was lost. -/
def State.overrunIf (s : State) (k : LaneNo) (lost : Bool) : State := if lost then s.overrun k else s

/-- A record written, `w` being the part after that and whether it was lost; a loss acts at that moment (R147), once what
the write made a candidate is selected (R13). -/
def State.written (s : State) (k : LaneNo) (w : State × Bool) : State :=
  if w.2 then (s.atOnce w.1).overrun k else w.1

/-- An internal record made outside a phase change and standby (R147). -/
def State.report (s : State) (k : LaneNo) (kind : EventKind) (content : List Byte) : State :=
  s.written k (s.writeInternal k kind content)

/-! ### Closing (R142 to R144) -/

/-- Is a close confirmation still REST_DUE or COUNTING? -/
def Confirmation.waits : Confirmation → Bool
  | .restDue => true
  | .counting _ => true
  | .confirmed => false
  | .waived => false

/-- The end of closing (R144). A CLOSED record that is lost has no effect beyond its alert (R147). -/
def State.endClosing (s : State) (k : LaneNo) : State :=
  let s := s.setLane k { s.lane k with phase := .closed, confirms := [] }
  let s := (s.writeInternal k .closed []).1
  let s := s.setLane k { s.lane k with tag := 0 }
  s.applyAllStaged

/-- The closing ends when no close confirmation is REST_DUE or COUNTING (R144). -/
def State.checkClosing (s : State) (k : LaneNo) : State :=
  if (s.lane k).phase = .closing ∧ ((s.lane k).confirms.any fun c => c.2.waits) = false then s.endClosing k else s

/-- The close confirmation of one slot moves (R143). -/
def moveConfirm (n : SlotNo) (f : Confirmation → Confirmation) (l : List (SlotNo × Confirmation)) :
    List (SlotNo × Confirmation) :=
  l.map fun c => if c.1 = n then (c.1, f c.2) else c

/-- The close confirmation of a slot moves while the lane is CLOSING, and the closing ends if it was the last one. -/
def State.confirmMove (s : State) (k : LaneNo) (n : SlotNo) (f : Confirmation → Confirmation) : State :=
  if (s.lane k).phase = .closing then
    (s.setLane k { s.lane k with confirms := moveConfirm n f (s.lane k).confirms }).checkClosing k
  else s

/-- The unit has taken its REST. -/
def Confirmation.restTaken : Confirmation → Confirmation
  | .restDue => .counting 0
  | .counting i => .counting i
  | .confirmed => .confirmed
  | .waived => .waived

/-- The unit's REST is given up. -/
def Confirmation.restGivenUp : Confirmation → Confirmation
  | .restDue => .confirmed
  | .counting i => .counting i
  | .confirmed => .confirmed
  | .waived => .waived

/-- An IDLE reply: the third in a row confirms. -/
def Confirmation.idle : Confirmation → Confirmation
  | .restDue => .restDue
  | .counting i => if h : i.val + 1 < 3 then .counting ⟨i.val + 1, h⟩ else .confirmed
  | .confirmed => .confirmed
  | .waived => .waived

/-- A new data reply, accepted and discarded. -/
def Confirmation.data : Confirmation → Confirmation
  | .restDue => .restDue
  | .counting _ => .counting 0
  | .confirmed => .confirmed
  | .waived => .waived

/-- The unit is lost or found restarted. -/
def Confirmation.waive : Confirmation → Confirmation
  | .restDue => .waived
  | .counting _ => .waived
  | .confirmed => .confirmed
  | .waived => .waived

/-- Is a window in a phase whose ending is reported: COLLECTING or AWAIT_BLOCK (section 9.2)? -/
def WindowPhase.live : WindowPhase → Bool
  | .collecting => true
  | .awaitBlock => true
  | .shutting => false
  | .held => false

/-- The entry window removed. -/
def State.dropWindow (s : State) (k : LaneNo) : State := s.setLane k { s.lane k with window := none }

/-- The entry window ended: with an ENTRY_CANCELLED record when it was COLLECTING or AWAIT_BLOCK, without one otherwise
(section 9.2). The second part is whether the record was lost. -/
def State.cancelWindow (s : State) (k : LaneNo) (reason : CancelReason) : State × Bool :=
  match (s.lane k).window with
  | none => (s, false)
  | some w =>
    if w.phase.live then (s.dropWindow k).writeInternal k .entryCancelled [reason.code] else (s.dropWindow k, false)

/-- A decision removed with EJECT set for the lane's reader (R142, R152). -/
def State.returnCard (s : State) (k : LaneNo) : State :=
  if (s.lane k).decision.isNone then s else (s.dropDecision k).setDirectiveFor (s.readerOf k) .eject

/-- REST set for each trusted bound unit (R142 step 6). -/
def State.setRests (s : State) (k : LaneNo) : State :=
  (s.boundSlots k).foldl (fun s n => if s.trusted n then s.setDirective n .rest else s) s

/-- The close confirmations a lane begins its closing with (R142 step 6). -/
def State.firstConfirms (s : State) (k : LaneNo) : List (SlotNo × Confirmation) :=
  (s.boundSlots k).map fun n => (n, if s.trusted n then .restDue else .waived)

/-- Steps 1 to 6 of R142; the second part is whether a record was lost. -/
def State.beginClosing (s : State) (k : LaneNo) : State × Bool :=
  let s := s.setLane k { s.lane k with phase := .closing, standby := false, wakeMarks := [], pinShadow := false }
  let c := (s.flushOut k).cancelWindow k .closed
  let s := c.1.setLane k { c.1.lane k with assembly := none }
  let s := s.returnCard k
  let s := s.setLane k { s.lane k with confirms := s.firstConfirms k }
  (s.setRests k, c.2)

/-- A lane enters CLOSING (R142), and CLOSED at once where no close confirmation waits; a record lost on the way acts on
the phase reached (R147). -/
def State.enterClosing (s : State) (k : LaneNo) : State :=
  ((s.beginClosing k).1.checkClosing k).overrunIf k (s.beginClosing k).2

/-! ### Opening (R140, R141) -/

/-- The lane becomes OPEN when every wake mark is woken, and OPENED is written (R141). -/
def State.checkOpening (s : State) (k : LaneNo) : State :=
  if (s.lane k).phase = .opening ∧ ((s.lane k).wakeMarks.all fun m => m.2) = true then
    (s.setLane k { s.lane k with phase := .opened, wakeMarks := [] }).report k .opened []
  else s

/-- LNC is told that a unit has taken its WAKE (R141). -/
def State.wakeTaken (s : State) (k : LaneNo) (n : SlotNo) : State :=
  if (s.lane k).phase = .opening then
    (s.setLane k { s.lane k with
      wakeMarks := (s.lane k).wakeMarks.map fun m => if m.1 = n then (m.1, true) else m }).checkOpening k
  else s

/-- WAKE set for each bound unit (R140 step 3). -/
def State.setWakes (s : State) (k : LaneNo) : State := (s.boundSlots k).foldl (fun s n => s.setDirective n .wake) s

/-- The three actions of an OPEN that is admitted and not refused, and the end of OPENING where the lane has no bound
unit (R140). -/
def State.beginOpening (s : State) (k : LaneNo) (tag : Word16) : State :=
  let s := s.setLane k { s.lane k with
    tag := tag
    callLatch := false
    phase := .opening
    wakeMarks := (s.boundSlots k).map fun n => (n, false) }
  (s.setWakes k).checkOpening k

/-! ### Losses and restarts (R108, R112) -/

/-- LNC is told that a slot of the lane is LOST (R108): UNIT_LOST is raised, and what follows in the lane comes after it
(log entry 10). -/
def State.laneUnitLost (s : State) (k : LaneNo) (n : SlotNo) : State :=
  let told := s.atOnce (s.raiseAlert k .unitLost (s.record n).kind.role 0)
  match (s.lane k).phase with
  | .opening => told.faultLane k .unitLost
  | .opened => told.faultLane k .unitLost
  | .closing => told.confirmMove k n .waive
  | .faulted => told
  | .closed => told

/-- LNC is told of a restart of a slot of the lane (R112). -/
def State.laneUnitRestart (s : State) (k : LaneNo) (n : SlotNo) : State :=
  match (s.lane k).phase with
  | .opening => s.faultLane k .unitRestart
  | .opened => s.faultLane k .unitRestart
  | .closing => s.confirmMove k n .waive
  | .faulted => s
  | .closed => s

/-- A restart detected for a slot (R112). -/
def State.restartDetected (s : State) (n : SlotNo) : State :=
  let s := s.setUnit n { s.unit n with syncRequest := true, baseline := none, pendingFlags := none }
  match s.currentLane n with
  | none => s
  | some k => s.laneUnitRestart k n

/-! ### Standby (R152, R168) -/

/-- Does standby set the PIN shadow: a PIN window in COLLECTING, AWAIT_BLOCK or SHUTTING (R168)? -/
def Window.castsShadow (w : Window) : Bool :=
  match w.what, w.phase with
  | .pin _ _ _, .held => false
  | .pin _ _ _, _ => true
  | .amount _ _ _ _ _, _ => false

/-- STANDBY set for each bound unit (R152 step 4). -/
def State.setStandbys (s : State) (k : LaneNo) : State :=
  (s.boundSlots k).foldl (fun s n => s.setDirective n .standby) s

/-- Does a window the lane holds set the PIN shadow? -/
def LaneRecord.shadowCast (r : LaneRecord) : Bool :=
  match r.window with
  | none => false
  | some w => w.castsShadow

/-- A lane goes into standby, if it is OPENING or OPEN (R152). -/
def State.standbyLane (s : State) (k : LaneNo) : State :=
  if (s.lane k).phase = .opening ∨ (s.lane k).phase = .opened then
    let s := s.setLane k { s.lane k with
      standby := true
      pinShadow := (s.lane k).pinShadow || (s.lane k).shadowCast }
    let c := s.cancelWindow k .link
    ((c.1.returnCard k).setStandbys k).overrunIf k c.2
  else s

/-- The link goes quiet at every lane, in lane order (R152). -/
def State.standbyAll (s : State) : State := allLanes.foldl State.standbyLane s

/-- The standby flag of every lane cleared (R9, R153). -/
def State.clearStandby (s : State) : State :=
  allLanes.foldl (fun s k => s.setLane k { s.lane k with standby := false }) s

/-! ### Decisions (R177, R178) -/

/-- A decision acted on: it is removed, a directive is set for its reader slot, and DECIDED is written. -/
def State.resolveDecision (s : State) (k : LaneNo) (d : CardDecision) (keep : Bool) (cause : Byte) : State :=
  ((s.dropDecision k).setDirective d.slot (if keep then .keep else .eject)).report k .decided
    [if keep then 1 else 2, cause]

end Sys2Proof.Machine
end

