-- ==== Sys2Proof/Machine/Delivery.lean ====
section
/-! DEFINITION. Command items taken, attempted and given up, and what that means at the lane (R80 to R82, R151,
chapter 9 for the entry window). -/

namespace Sys2Proof.Machine

/-- Is a command item still there (section 4.7)? -/
def State.itemPending (s : State) (n : SlotNo) : Item → Bool
  | .directive d serial =>
    match (s.unit n).directives.get d with
    | none => false
    | some p => p.serial == serial
  | .record k serial =>
    match (s.outQueue k).head? with
    | none => false
    | some r => r.serial == serial

/-- A directive leaves a slot's set. -/
def State.dropDirective (s : State) (n : SlotNo) (d : Directive) : State :=
  s.setUnit n { s.unit n with directives := (s.unit n).directives.put d none }

/-- The keypad of a lane has taken a command item: the lane's PIN shadow is cleared (R168). -/
def State.keypadTook (s : State) (n : SlotNo) : State :=
  match s.currentLane n with
  | none => s
  | some k => if (s.record n).kind.keypad then s.setLane k { s.lane k with pinShadow := false } else s

/-! ### Entry windows (section 9.2) -/

/-- The carry-over mark of a window that opens: the sequence bit of the keypad's last acknowledgement if that is HOLD
(R159). -/
def carryOverOf (last : Ack) : Option Bool :=
  match last with
  | .given .hold seq => some seq
  | .given .accept _ => none
  | .given .refuse _ => none
  | .none => none

/-- The window a BEGIN record opens (R157): BEGIN_AMOUNT is 5, BEGIN_PIN is 6. -/
def openedWindow (r : List Byte) (last : Ack) : Window where
  phase := .collecting
  what :=
    if recordCode r = 5 then
      .amount (r.getD 3 0).toNat (r.getD 3 0).toNat [] ((recordFlagByte r).getLsbD 3) ((recordFlagByte r).getLsbD 4)
    else .pin (r.getD 3 0).toNat (r.getD 4 0).toNat 0
  chain := (recordFlagByte r).getLsbD 5
  carryOver := carryOverOf last

/-- LNC is told that a BEGIN has been taken, before its DELIVERED record (R153, R157, R158). -/
def State.beginTaken (s : State) (k : LaneNo) (n : SlotNo) (r : List Byte) : State :=
  if (s.lane k).phase = .opened then
    if (s.lane k).standby then
      (s.setLane k { s.lane k with pinShadow := (s.lane k).pinShadow || recordCode r == 6 }).report k .entryCancelled
        [CancelReason.link.code]
    else
      let s := s.written k (s.cancelWindow k .replaced)
      if (s.lane k).phase = .opened then
        s.setLane k { s.lane k with window := some (openedWindow r (s.unit n).lastAck) }
      else s
  else s

/-- LNC is told that an UNLOCK has been taken, before its DELIVERED record (R166). -/
def State.unlockTaken (s : State) (k : LaneNo) : State :=
  match (s.lane k).window with
  | none => s
  | some w => if w.phase = .held then s.dropWindow k else s

/-- The window effect of a queued record taken (R151). -/
def State.windowEffect (s : State) (k : LaneNo) (n : SlotNo) (r : List Byte) : State :=
  match (recordCode r).toNat with
  | 5 => s.beginTaken k n r
  | 6 => s.beginTaken k n r
  | 7 => s.unlockTaken k
  | _ => s

/-- LNC is told that a queued record has been taken: the window effect, then DELIVERED if it was asked for (R151). -/
def State.recordTaken (s : State) (k : LaneNo) (n : SlotNo) (r : List Byte) (attempts : Nat) : State :=
  let s := s.atOnce (s.windowEffect k n r)
  if recordReport r then s.report k .delivered [recordCode r, recordRole r, byteOf n.val, byteOf attempts] else s

/-! ### Taken (R80, R151) -/

/-- LNC is told that a directive has been taken (R151): WAKE and REST move the lane, the others do not. -/
def State.directiveTaken (s : State) (n : SlotNo) (d : Directive) : State :=
  match s.currentLane n, d with
  | some k, .wake => s.wakeTaken k n
  | some k, .rest => s.confirmMove k n .restTaken
  | some _, .standby => s
  | some _, .eject => s
  | some _, .keep => s
  | none, _ => s

/-- A pending item is taken (R80). -/
def State.takeItem (s : State) (n : SlotNo) : Item → State
  | .directive d _ => ((s.dropDirective n d).keypadTook n).directiveTaken n d
  | .record k _ =>
    match (s.outQueue k).head? with
    | none => s
    | some r => ((s.dropHead k).keypadTook n).recordTaken k n r.bytes (s.unit n).headAttempts

/-- c flips, and the item is taken if it is still pending (R80, R82). -/
def State.settleTaken (s : State) (n : SlotNo) (it : Item) : State :=
  let flipped := s.setUnit n { s.unit n with c := !(s.unit n).c }
  if s.itemPending n it then flipped.takeItem n it else flipped

/-! ### Attempts (R81) -/

/-- UNDELIVERED is raised in the alert set of the slot's lane with the unit command code. -/
def State.undelivered (s : State) (n : SlotNo) (code : Byte) : State :=
  match s.currentLane n with
  | none => s
  | some k => s.raiseAlert k .undelivered code 0

/-- What giving up a directive means for the lane in its phase (R141, R143). -/
def State.directiveGivenUp (s : State) (n : SlotNo) (d : Directive) : State :=
  match s.currentLane n, d with
  | some k, .wake => if (s.lane k).phase = .opening then s.faultLane k .wakeFailed else s
  | some k, .rest => s.confirmMove k n .restGivenUp
  | some _, .standby => s
  | some _, .eject => s
  | some _, .keep => s
  | none, _ => s

/-- A pending item is given up after its eighth attempt (R81): UNDELIVERED is raised, and what that means for the lane comes
after it (log entry 10). -/
def State.giveUp (s : State) (n : SlotNo) : Item → State
  | .directive d _ => (s.atOnce ((s.dropDirective n d).undelivered n d.code)).directiveGivenUp n d
  | .record k _ =>
    match (s.outQueue k).head? with
    | none => s
    | some r => (s.dropHead k).undelivered n (recordCode r.bytes)

/-- The attempt count of an item. -/
def UnitRun.attempts (u : UnitRun) : Item → Nat
  | .directive d _ =>
    match u.directives.get d with
    | none => 0
    | some p => p.attempts
  | .record _ _ => u.headAttempts

/-- The attempt count of an item raised by one. -/
def UnitRun.raiseAttempts (u : UnitRun) : Item → UnitRun
  | .directive d serial => { u with directives := u.directives.put d (some ⟨u.attempts (.directive d serial) + 1, serial⟩) }
  | .record _ _ => { u with headAttempts := u.headAttempts + 1 }

/-- A delivery attempt is counted if the item is still pending; the eighth gives it up (R81). -/
def State.countAttempt (s : State) (n : SlotNo) (it : Item) : State :=
  if s.itemPending n it then
    if (s.unit n).attempts it + 1 < Config.maxAttempts then s.setUnit n ((s.unit n).raiseAttempts it) else s.giveUp n it
  else s

/-! ### Step 2 of an outcome (R71, R82) -/

/-- The doubt of a slot replaced. -/
def State.setDoubt (s : State) (n : SlotNo) (d : Option Item) : State := s.setUnit n { s.unit n with doubt := d }

/-- A COMMAND exchange that carried `it` ends (R80, R81, R82). -/
def State.commandEnds (s : State) (n : SlotNo) (it : Item) : ExchangeOutcome → State
  | .valid r => if r.taken then s.settleTaken n it else s.countAttempt n it
  | _ => (s.countAttempt n it).setDoubt n (some it)

/-- A POLL or SHUT exchange that ends VALID settles doubt (R82). -/
def State.settleDoubt (s : State) (n : SlotNo) (r : Reply) : State :=
  match (s.unit n).doubt with
  | none => s
  | some it => ((if r.taken then s.settleTaken n it else s).setDoubt n none)

/-- The command item carried and doubt are settled (R71 step 2); `wasTrusted`: the slot was LOCKED or FALTERING before
the outcome (R77). -/
def State.settleItems (s : State) (x : Exchange) (o : ExchangeOutcome) (wasTrusted : Bool) : State :=
  match x.kind, x.item, o with
  | .command, some it, o => s.commandEnds x.slot it o
  | .command, none, _ => s
  | .poll, _, .valid r => if wasTrusted then s.settleDoubt x.slot r else s
  | .shut, _, .valid r => if wasTrusted then s.settleDoubt x.slot r else s
  | .poll, _, _ => s
  | .shut, _, _ => s
  | .sync, _, _ => s

end Sys2Proof.Machine
end

