-- ==== Sys2Proof/Machine/Replies.lean ====
section
/-! DEFINITION. How LNC takes a new data reply (R76, R148): keys and entry windows (chapter 9), card reads (chapter
10), status reports (section 6.4), PIN blocks. -/

namespace Sys2Proof.Machine

/-- How a reply is taken, and the part after it. Under HOLD and REFUSE the lane is as it was (R76). -/
structure Taking where
  verdict : Verdict
  after : State
  deriving DecidableEq, Repr

/-- A reply-made record is stored under ACCEPT together with every change of the reply, or the reply is held and nothing
is changed (R124, R167). -/
def State.acceptWith (s : State) (k : LaneNo) (record : Option (List Byte)) (changed : State → State) : Taking :=
  match record with
  | none => ⟨.accept, changed s⟩
  | some r => if s.inFits k r.length then ⟨.accept, (changed s).storeIn k r⟩ else ⟨.hold, s⟩

/-! ### Keys (R155, R156) -/

/-- The logical key of a raw code through a key map (R155). -/
def translate (map : Vector LogicalKey 32) (raw : Byte) : LogicalKey :=
  if h : raw.toNat < 32 then map[raw.toNat] else .none

/-- The keys of a reply: translated in order, every NONE removed (R155). -/
def State.keysOf (s : State) (n : SlotNo) (raws : List Byte) : List LogicalKey :=
  (raws.map (translate s.tables.keyMaps[(s.record n).keyMap])).filter fun key => key != .none

/-! ### Amount windows (R160, R161) -/

/-- How collection has ended, if it has. -/
inductive Ended where
  | no
  | done
  | cancelled
  deriving DecidableEq, Repr

/-- An amount entry while the keys of one reply are applied. -/
structure AmountWork where
  chars : List Byte
  remaining : Nat
  ended : Ended
  ignored : Nat
  deriving DecidableEq, Repr

/-- A character appended; collection ends as done when none remains (R160). -/
def AmountWork.append (w : AmountWork) (b : Byte) : AmountWork :=
  { w with
    chars := w.chars ++ [b]
    remaining := w.remaining - 1
    ended := if w.remaining - 1 = 0 then .done else .no }

/-- One key in an amount window (R160): 0x30 is '0', 0x2E is '.'. -/
def AmountWork.key (initial : Nat) (dotAllowed : Bool) (w : AmountWork) (key : LogicalKey) : AmountWork :=
  if w.ended = .no then
    match key with
    | .digit d => w.append (byteOf (0x30 + d.val))
    | .dot => if dotAllowed = true ∧ (0x2E : Byte) ∉ w.chars then w.append 0x2E else { w with ignored := w.ignored + 1 }
    | .clear => { w with chars := [], remaining := initial }
    | .enter => if w.chars = [] then { w with ignored := w.ignored + 1 } else { w with ended := .done }
    | .cancel => { w with ended := .cancelled }
    | .func _ => { w with ignored := w.ignored + 1 }
    | .none => w
  else { w with ignored := w.ignored + 1 }

/-- All keys of a reply in an amount window, in their order (R160). -/
def amountKeys (initial remaining : Nat) (chars : List Byte) (dotAllowed : Bool) (keys : List LogicalKey) : AmountWork :=
  keys.foldl (AmountWork.key initial dotAllowed) ⟨chars, remaining, .no, 0⟩

/-- The one record an amount window gives for a reply (R161). -/
def amountRecord (tag : Word16) (before : List Byte) (echo : Bool) (w : AmountWork) : Option (List Byte) :=
  match w.ended with
  | .done => some (eventRecord .entryDone tag w.chars)
  | .cancelled => some (eventRecord .entryCancelled tag [CancelReason.key.code])
  | .no => if echo = true ∧ w.chars ≠ before then some (eventRecord .entryProgress tag w.chars) else none

/-- The window phase after a reply in an amount window (R161). -/
def AmountWork.phase (w : AmountWork) : WindowPhase := if w.ended = .no then .collecting else .shutting

/-! ### PIN windows (R162, R163) -/

/-- How PIN collection has ended, if it has. -/
inductive PinEnd where
  | no
  | entered
  | cancelled
  deriving DecidableEq, Repr

/-- A PIN entry while the keys of one reply are applied. -/
structure PinWork where
  count : Nat
  short : Bool
  ended : PinEnd
  ignored : Nat
  deriving DecidableEq, Repr

/-- One key in a PIN window (R162). -/
def PinWork.key (min max : Nat) (w : PinWork) (key : LogicalKey) : PinWork :=
  if w.ended = .no then
    match key with
    | .digit _ => if w.count < max then { w with count := w.count + 1 } else { w with ignored := w.ignored + 1 }
    | .clear => { w with count := 0 }
    | .enter => if min ≤ w.count then { w with ended := .entered } else { w with short := true }
    | .cancel => { w with ended := .cancelled }
    | .dot => { w with ignored := w.ignored + 1 }
    | .func _ => { w with ignored := w.ignored + 1 }
    | .none => w
  else { w with ignored := w.ignored + 1 }

/-- All keys of a reply in a PIN window, in their order (R162). -/
def pinKeys (min max count : Nat) (keys : List LogicalKey) : PinWork :=
  keys.foldl (PinWork.key min max) ⟨count, false, .no, 0⟩

/-- The one record a PIN window gives for a reply (R163). -/
def pinRecord (tag : Word16) (before : Nat) (w : PinWork) : Option (List Byte) :=
  if w.ended = .cancelled then some (eventRecord .entryCancelled tag [CancelReason.key.code])
  else if w.ended = .no ∧ w.short = true then some (eventRecord .pinShort tag [byteOf w.count])
  else if w.count ≠ before then some (eventRecord .maskedDigits tag [byteOf w.count])
  else none

/-- The window phase after a reply in a PIN window (R162, R163). -/
def PinWork.phase (w : PinWork) : WindowPhase :=
  match w.ended with
  | .no => .collecting
  | .entered => .awaitBlock
  | .cancelled => .shutting

/-! ### KEYS replies -/

/-- Every key discarded and counted as ignored; the reply is accepted (R148, R164 to R168). -/
def State.discardKeys (s : State) (n : SlotNo) (count : Nat) : Taking := ⟨.accept, s.countIgnored n count⟩

/-- The window of a lane replaced. -/
def State.setWindow (s : State) (k : LaneNo) (w : Window) : State := s.setLane k { s.lane k with window := some w }

/-- The keys of a reply in a window that is COLLECTING (R160 to R163, R167). -/
def State.collectKeys (s : State) (k : LaneNo) (n : SlotNo) (w : Window) (keys : List LogicalKey) : Taking :=
  match w.what with
  | .amount initial remaining chars dotAllowed echo =>
    let r := amountKeys initial remaining chars dotAllowed keys
    s.acceptWith k (amountRecord (s.lane k).tag chars echo r) fun s =>
      (s.setWindow k { w with phase := r.phase, what := .amount initial r.remaining r.chars dotAllowed echo }).countIgnored
        n r.ignored
  | .pin min max count =>
    let r := pinKeys min max count keys
    s.acceptWith k (pinRecord (s.lane k).tag count r) fun s =>
      (s.setWindow k { w with phase := r.phase, what := .pin min max r.count }).countIgnored n r.ignored

/-- The keys of a reply from the keypad of an OPEN lane not in standby, by the table of R155. -/
def State.openKeys (s : State) (k : LaneNo) (n : SlotNo) (keys : List LogicalKey) : Taking :=
  if keys = [] then ⟨.accept, s⟩
  else
    match (s.lane k).window with
    | none =>
      if (s.lane k).pinShadow then s.discardKeys n keys.length
      else s.acceptWith k (some (eventRecord .keys (s.lane k).tag (keys.map LogicalKey.code))) id
    | some w =>
      match w.phase with
      | .collecting => s.collectKeys k n w keys
      | .awaitBlock => s.discardKeys n keys.length
      | .shutting => s.discardKeys n keys.length
      | .held => s.discardKeys n keys.length

/-- A LANE_CALL for a KEYS or CARD reply in a CLOSED lane (R149): cause 1 KEY, 2 CARD. -/
def State.laneCall (s : State) (k : LaneNo) (cause : Byte) : Taking :=
  if (s.lane k).callLatch then ⟨.accept, s⟩
  else
    s.acceptWith k (some (eventRecord .laneCall (s.lane k).tag [cause])) fun s =>
      s.setLane k { s.lane k with callLatch := true }

/-- A new KEYS reply (R148). `marked`: the window's carry-over mark equals the reply's sequence bit (R159). -/
def State.takeKeys (s : State) (k : LaneNo) (n : SlotNo) (marked : Bool) (raws : List Byte) : Taking :=
  match (s.lane k).phase with
  | .closed => s.laneCall k 1
  | .opening => s.discardKeys n raws.length
  | .opened =>
    if (s.record n).kind.keypad then
      if (s.lane k).standby ∨ marked then s.discardKeys n (s.keysOf n raws).length
      else s.openKeys k n (s.keysOf n raws)
    else s.discardKeys n raws.length
  | .closing => ⟨.accept, s⟩
  | .faulted => ⟨.refuse, s⟩

/-! ### Card reads (chapter 10) -/

/-- One character applied to the assembly (R172): 0x3D is '='. -/
def Assembly.char (a : Assembly) (b : Byte) : Assembly :=
  if a.inRest then
    if isDigit b ∨ b = 0x3D then
      if a.rest.length < 20 then { a with rest := a.rest ++ [b] } else { a with truncated := true }
    else { a with malformed := true }
  else if isDigit b then
    if a.account.length < 19 then { a with account := a.account ++ [b] } else { a with malformed := true }
  else if b = 0x3D then { a with inRest := true }
  else { a with malformed := true }

/-- A read's status (R173). -/
inductive ReadStatus where
  | good
  | malformed
  | unreadable
  deriving DecidableEq, Repr

/-- Codes of a read's status (section 11.4). -/
def ReadStatus.code : ReadStatus → Byte
  | .good => 0
  | .malformed => 1
  | .unreadable => 2

/-- Leading digits shown (kf′ of R174) of an account of `n` digits. -/
def shownFirst (p : Policy) (n : Nat) : Nat := min p.keepFirst.val (n - 4 - min p.keepLast.val (n - 4))

/-- Trailing digits shown (kl′ of R174) of an account of `n` digits. -/
def shownLast (p : Policy) (n : Nat) : Nat := min p.keepLast.val (n - 4)

/-- The masked account (R174). -/
def maskAccount (p : Policy) (digits : List Byte) : List Byte :=
  digits.take (shownFirst p digits.length) ++
    List.replicate (digits.length - shownFirst p digits.length - shownLast p digits.length) p.mask ++
    digits.drop (digits.length - shownLast p digits.length)

/-- The CARD record (R175). -/
def cardRecord (tag : Word16) (status : ReadStatus) (hold : Bool) (masked rest : List Byte) (truncated : Bool) : List Byte :=
  eventRecord .card tag
    (status.code :: flagByte hold :: byteOf masked.length :: masked ++ (byteOf rest.length :: rest) ++ [flagByte truncated])

/-- What an accepted fragment does (R171): it is discarded and counted, it leaves the assembly waiting, or it ends the
read. `discarded`: an assembly already held was discarded and counted. -/
inductive FragmentEffect where
  | ignored
  | waits (a : Assembly) (discarded : Bool)
  | ends (status : ReadStatus) (a : Assembly) (discarded : Bool)
  deriving DecidableEq, Repr

/-- A read's status when it ends by LAST (R173). -/
def Assembly.status (a : Assembly) : ReadStatus := if a.malformed = true ∨ a.account = [] then .malformed else .good

/-- A fragment against the assembly held (R171): FIRST is bit 0, LAST bit 1, READ_ERROR bit 2. -/
def fragmentEffect (held : Option Assembly) (flags : Byte) (chars : List Byte) : FragmentEffect :=
  let start : Option (Assembly × Bool) :=
    if flags.getLsbD 0 then some ({}, held.isSome)
    else
      match held with
      | none => none
      | some a => some (a, false)
  match start with
  | none => .ignored
  | some (a, discarded) =>
    if flags.getLsbD 2 then .ends .unreadable {} discarded
    else
      let a := chars.foldl Assembly.char a
      if flags.getLsbD 1 then .ends a.status a discarded else .waits a discarded

/-- The five acts at the end of a read but its record (R173, R176). -/
def State.endRead (s : State) (k : LaneNo) (n : SlotNo) (hold : Bool) : State :=
  s.setLane k { s.lane k with
    assembly := none
    decision := if hold then some ⟨(s.laneSettings k).timeout.val * 1000, n⟩ else (s.lane k).decision }

/-- A fragment taken from the lane's reader (R170 to R173). -/
def State.takeFragment (s : State) (k : LaneNo) (n : SlotNo) (flags : Byte) (chars : List Byte) : Taking :=
  match fragmentEffect (s.lane k).assembly flags chars with
  | .ignored => ⟨.accept, s.countIgnored n 1⟩
  | .waits a discarded =>
    ⟨.accept, (s.setLane k { s.lane k with assembly := some a }).countIgnored n (if discarded then 1 else 0)⟩
  | .ends status a discarded =>
    let hold := (s.laneSettings k).cardHold && status == .good
    let masked := maskAccount s.tables.policies[(s.laneSettings k).policy] a.account
    s.acceptWith k (some (cardRecord (s.lane k).tag status hold masked a.rest a.truncated)) fun s =>
      (s.endRead k n hold).countIgnored n (if discarded then 1 else 0)

/-- A new CARD reply (R148, R170). -/
def State.takeCard (s : State) (k : LaneNo) (n : SlotNo) (payload : List Byte) : Taking :=
  match (s.lane k).phase with
  | .closed => s.laneCall k 2
  | .opening => if (s.lane k).standby then ⟨.hold, s⟩ else ⟨.accept, s.countIgnored n 1⟩
  | .opened =>
    if (s.lane k).standby then ⟨.hold, s⟩
    else if (s.lane k).decision.isSome then ⟨.hold, s⟩
    else if (s.record n).kind.cardReader then s.takeFragment k n (payload.headD 0) payload.tail
    else ⟨.accept, s.countIgnored n 1⟩
  | .closing => ⟨.accept, s⟩
  | .faulted => ⟨.refuse, s⟩

/-! ### Status reports (R110 to R112, R150) -/

/-- What an examined STATUS reply does (R110 to R112). -/
inductive StatusEffect where
  | baseline (f : StatusFlags)
  | restart
  | unchanged
  | adopted (old new : StatusFlags)
  | noted (f : StatusFlags)
  deriving DecidableEq, Repr

/-- The effect of a STATUS flag byte (R110, R111, R112). -/
def statusEffect (baseline pending : Option StatusFlags) (b : Byte) : StatusEffect :=
  match baseline with
  | none => .baseline (StatusFlags.ofByte b)
  | some old =>
    if freshBit b then .restart
    else if StatusFlags.ofByte b = old then .unchanged
    else if pending = some (StatusFlags.ofByte b) then .adopted old (StatusFlags.ofByte b)
    else .noted (StatusFlags.ofByte b)

/-- The status state of a slot after an examined STATUS reply. -/
def State.applyStatus (s : State) (n : SlotNo) : StatusEffect → State
  | .baseline f => s.setUnit n { s.unit n with baseline := some f }
  | .restart => s.restartDetected n
  | .unchanged => s.setUnit n { s.unit n with pendingFlags := none }
  | .adopted _ new => s.setUnit n { s.unit n with baseline := some new, pendingFlags := none }
  | .noted f => s.setUnit n { s.unit n with pendingFlags := some f }

/-- The STATUS_CHANGE record of an adopted change (R150): none in CLOSING and FAULTED. -/
def State.statusRecord (s : State) (k : LaneNo) (n : SlotNo) (e : StatusEffect) : Option (List Byte) :=
  match e, (s.lane k).phase with
  | .adopted _ _, .closing => none
  | .adopted _ _, .faulted => none
  | .adopted old new, _ =>
    some (eventRecord .statusChange (s.lane k).tag [old.toByte, new.toByte, (s.record n).kind.role])
  | _, _ => none

/-- A new STATUS reply (R110, R148): examined unless it is held, and refused in a FAULTED lane. -/
def State.takeStatus (s : State) (k : LaneNo) (n : SlotNo) (b : Byte) : Taking :=
  let e := statusEffect (s.unit n).baseline (s.unit n).pendingFlags b
  if (s.lane k).phase = .faulted then ⟨.refuse, s.applyStatus n e⟩
  else s.acceptWith k (s.statusRecord k n e) fun s => s.applyStatus n e

/-! ### PIN blocks (R148, R164) -/

/-- A PINBLOCK refused and counted as ignored. -/
def State.refuseBlock (s : State) (n : SlotNo) : Taking := ⟨.refuse, s.countIgnored n 1⟩

/-- A PINBLOCK taken by an OPEN lane (R164). -/
def State.openBlock (s : State) (k : LaneNo) (n : SlotNo) (block : List Byte) : Taking :=
  match (s.lane k).window with
  | none => s.refuseBlock n
  | some w =>
    match w.what, w.phase with
    | .pin _ _ _, .awaitBlock =>
      if (s.record n).kind.keypad then
        s.acceptWith k (some (eventRecord .pinDone (s.lane k).tag block)) fun s =>
          s.setWindow k { w with phase := .shutting }
      else s.refuseBlock n
    | _, _ => s.refuseBlock n

/-- A new PINBLOCK reply (R148, R164). -/
def State.takeBlock (s : State) (k : LaneNo) (n : SlotNo) (block : List Byte) : Taking :=
  match (s.lane k).phase with
  | .closed => s.refuseBlock n
  | .opening => s.refuseBlock n
  | .opened => s.openBlock k n block
  | .closing => ⟨.accept, s⟩
  | .faulted => ⟨.refuse, s⟩

/-! ### Data replies (R75, R76) -/

/-- The carry-over mark of the lane's window gone, whatever the decision (R159). -/
def State.dropMark (s : State) (k : LaneNo) : State :=
  match (s.lane k).window with
  | none => s
  | some w => s.setWindow k { w with carryOver := none }

/-- The carry-over mark that a new data reply from slot `n` meets: only the keypad's replies meet one (R159). -/
def State.markMet (s : State) (k : LaneNo) (n : SlotNo) : Option Bool :=
  match (s.lane k).window with
  | none => none
  | some w => if (s.record n).kind.keypad then w.carryOver else none

/-- LNC takes a new data reply by its kind (R76, R148). -/
def State.takeData (s : State) (k : LaneNo) (n : SlotNo) (r : Reply) : Taking :=
  let marked := s.markMet k n = some r.seq
  let s := if (s.markMet k n).isSome then s.dropMark k else s
  match r.kind with
  | .keys => s.takeKeys k n marked r.payload
  | .card => s.takeCard k n r.payload
  | .status => s.takeStatus k n (r.payload.headD 0)
  | .pinBlock => s.takeBlock k n r.payload
  | .idle => ⟨.accept, s⟩

/-- UTR records the decision on a new data reply (R75). -/
def UnitRun.judged (u : UnitRun) (v : Verdict) (seq : Bool) : UnitRun :=
  { u with lastAck := .given v seq, pendingAck := .given v seq, e := if v = .hold then u.e else !u.e }

/-- A new data reply: taken by LNC, recorded by UTR, and counted by a close confirmation in CLOSING (R75, R143). -/
def State.newData (s : State) (k : LaneNo) (n : SlotNo) (r : Reply) : State :=
  let t := s.takeData k n r
  (t.after.setUnit n ((t.after.unit n).judged t.verdict r.seq)).confirmMove k n .data

/-- The reply itself handled: its kind, sequencing and application (R74, R75). -/
def State.handleKind (s : State) (k : LaneNo) (n : SlotNo) (r : Reply) : State :=
  if r.kind = .idle then (s.setUnit n { s.unit n with pendingAck := .none }).confirmMove k n .idle
  else if r.seq = (s.unit n).e then s.newData k n r
  else s.setUnit n { s.unit n with pendingAck := (s.unit n).lastAck }

/-- A SHUT exchange that ends VALID is reported to LNC (R84, R165). -/
def State.shutDone (s : State) (k : LaneNo) : State :=
  match (s.lane k).window with
  | none => s
  | some w =>
    if w.phase = .shutting then (if w.chain then s.setWindow k { w with phase := .held } else s.dropWindow k) else s

/-- The reply to a telegram other than SYNC handled (R71 step 3). A slot that step 2 left disabled has no lane to take its
reply, and nothing is handled (log entry 34). -/
def State.handleReply (s : State) (n : SlotNo) (kind : TelegramKind) (r : Reply) : State :=
  match s.currentLane n with
  | none => s
  | some k => (if kind = .shut then s.shutDone k else s).handleKind k n r

end Sys2Proof.Machine
end

