-- ==== Sys2Proof/Machine/Exchanges.lean ====
section
/-! DEFINITION. The outcome of an exchange (R71): the slot's counters and presence (R105 to R109, R118), the settling
of the item carried and of doubt, and the reply. -/

namespace Sys2Proof.Machine

/-! ### Counters (R118) -/

/-- The slot counter that an outcome counts. -/
def SlotCounters.count (c : SlotCounters) : ExchangeOutcome → SlotCounters
  | .valid _ => { c with valid := bump c.valid }
  | .noReply => { c with noReply := bump c.noReply }
  | .badChar => { c with badReply := bump c.badReply }
  | .badCheck => { c with badReply := bump c.badReply }
  | .wrongAddress => { c with badReply := bump c.badReply }
  | .badFormat => { c with badReply := bump c.badReply }
  | .truncated => { c with badReply := bump c.badReply }
  | .conflictLimit => { c with interrupted := bump c.interrupted }
  | .aborted => { c with interrupted := bump c.interrupted }

/-- The outcome counted in the slot (R71 step 1). -/
def State.countOutcome (s : State) (n : SlotNo) (o : ExchangeOutcome) : State :=
  s.setUnit n { s.unit n with counters := (s.unit n).counters.count o }

/-! ### Presence (R105 to R109) -/

/-- The sequencing state after a SYNC exchange that ends VALID (R73, R78). -/
def UnitRun.synced (u : UnitRun) : UnitRun :=
  { u with e := false, lastAck := .none, pendingAck := .none, c := false, doubt := none, syncRequest := false }

/-- The runtime record of a slot that becomes LOCKED from SEEKING (R106). -/
def UnitRun.locked (u : UnitRun) : UnitRun :=
  { u with
    presence := .locked
    e := false
    c := false
    lastAck := .none
    pendingAck := .none
    doubt := none
    fail := 0
    confirm := 0
    baseline := none
    pendingFlags := none
    returning := false }

/-- UNIT_BACK is raised at the slot's lane with the slot's role (R106). -/
def State.unitBack (s : State) (n : SlotNo) : State :=
  match s.currentLane n with
  | none => s
  | some k => s.raiseAlert k .unitBack (s.record n).kind.role 0

/-- A SEEKING slot becomes LOCKED (R106). -/
def State.lockUnit (s : State) (n : SlotNo) : State :=
  let locked := s.setUnit n (s.unit n).locked
  if (s.unit n).returning then locked.unitBack n else locked

/-- A trusted slot's third failure in a row makes it LOST (R108). -/
def State.loseUnit (s : State) (n : SlotNo) : State :=
  let lost := s.setUnit n { s.unit n with presence := .lost, fail := 0, returning := true }
  match s.currentLane n with
  | none => lost
  | some k => lost.laneUnitLost k n

/-- The runtime record after a VALID exchange, as far as a SYNC resets it (R78). -/
def UnitRun.afterValid (u : UnitRun) (kind : TelegramKind) : UnitRun := if kind = .sync then u.synced else u

/-- A VALID exchange applied to the slot's presence (R105, R107, R109). -/
def State.presenceValid (s : State) (n : SlotNo) (kind : TelegramKind) : State :=
  let u := (s.unit n).afterValid kind
  match (s.unit n).presence with
  | .disabled => s
  | .locked => s.setUnit n { u with fail := 0 }
  | .faltering => s.setUnit n { u with presence := .locked, fail := 0 }
  | .seeking =>
    if u.confirm + 1 < 2 then s.setUnit n { u with confirm := u.confirm + 1 } else (s.setUnit n u).lockUnit n
  | .lost => if kind = .sync then s.setUnit n { u with presence := .seeking, confirm := 1 } else s

/-- A failed exchange applied to the slot's presence (R105, R107, R108, R109). -/
def State.presenceFailed (s : State) (n : SlotNo) : State :=
  match (s.unit n).presence with
  | .disabled => s
  | .locked => s.setUnit n { s.unit n with presence := .faltering, fail := 1 }
  | .faltering =>
    if (s.unit n).fail < 2 then s.setUnit n { s.unit n with fail := (s.unit n).fail + 1 } else s.loseUnit n
  | .seeking => s.setUnit n { s.unit n with confirm := 0 }
  | .lost => s

/-- Step 1 of an outcome (R71): it is counted and applied to the slot's presence. -/
def State.outcomePresence (s : State) (n : SlotNo) (kind : TelegramKind) (o : ExchangeOutcome) : State :=
  if o.isValid then (s.countOutcome n o).presenceValid n kind else (s.countOutcome n o).presenceFailed n

/-! ### The three steps (R71) -/

/-- Step 3 of an outcome (R71): a VALID reply to a telegram other than SYNC, from a slot trusted before step 1. -/
def State.outcomeReply (s : State) (x : Exchange) (wasTrusted : Bool) : ExchangeOutcome → State
  | .valid r => if wasTrusted = true ∧ x.kind ≠ .sync then s.handleReply x.slot x.kind r else s
  | _ => s

/-- Steps 1 and 2 of an outcome (R71), what step 1 makes a candidate being selected before step 2 (R13). -/
def State.outcomeSettled (s : State) (x : Exchange) (o : ExchangeOutcome) : State :=
  (s.atOnce (s.outcomePresence x.slot x.kind o)).settleItems x o (s.trusted x.slot)

/-- The three steps of an outcome in their order (R71), what steps 1 and 2 make a candidate being selected before step 3
(R13). -/
def State.handleOutcome (s : State) (x : Exchange) (o : ExchangeOutcome) : State :=
  (s.atOnce (s.outcomeSettled x o)).outcomeReply x (s.trusted x.slot) o

/-- An outcome is given: discarded where a record was applied during the exchange (R28, R117), handled otherwise. The
exchange is no longer in progress when this is done. -/
def State.giveOutcome (s : State) (x : Exchange) (o : ExchangeOutcome) : State :=
  if (s.unit x.slot).superseded then s.setUnit x.slot { s.unit x.slot with superseded := false } else s.handleOutcome x o

end Sys2Proof.Machine
end

