-- ==== Sys2Proof/Machine/Telegrams.lean ====
section
/-! DEFINITION. The telegram chosen for a slot and built at its first transmission (R61, R64, R79, R114, R154). -/

namespace Sys2Proof.Machine

/-! ### Prompts (R154) -/

/-- Characters of a prompt that the display of a kind takes (R154). -/
def UnitKind.promptRoom : UnitKind → Nat
  | .pinpad => 32
  | .combo => 40
  | .reader => 0

/-- The stored prompt a REST or STANDBY takes its text from: the closed prompt or the standby prompt of the lane. -/
def State.promptOf (s : State) (k : LaneNo) (d : Directive) : List Byte :=
  match d with
  | .rest => s.tables.prompts[(s.laneSettings k).closedPrompt]
  | .standby => s.tables.prompts[(s.laneSettings k).standbyPrompt]
  | .eject => []
  | .keep => []
  | .wake => []

/-- The PAYLOAD of a COMMAND telegram that carries a directive (R114, R154). -/
def State.directivePayload (s : State) (n : SlotNo) (d : Directive) : List Byte :=
  match s.currentLane n with
  | none => [d.code]
  | some k => d.code :: (s.promptOf k d).take (s.record n).kind.promptRoom

/-! ### The choice (R79) -/

/-- Directives in the order in which a slot receives them (R114). -/
def directiveOrder : List Directive := [.eject, .keep, .standby, .rest, .wake]

/-- The first directive present in that order, with its entry. -/
def Directives.first (ds : Directives) : Option (Directive × Pending) :=
  directiveOrder.findSome? fun d => (ds.get d).map fun p => (d, p)

/-- The window of a lane is SHUTTING. -/
def LaneRecord.shutting (r : LaneRecord) : Bool :=
  match r.window with
  | none => false
  | some w => w.phase == .shutting

/-- Item 2 of R79: the slot is its lane's keypad and the lane's window is SHUTTING. -/
def State.shutApplies (s : State) (n : SlotNo) : Bool :=
  match s.currentLane n with
  | none => false
  | some k => (s.record n).kind.keypad && (s.lane k).shutting

/-- Item 4 of R79 but for doubt: the head record that may be carried to the slot. -/
def State.headFor (s : State) (n : SlotNo) : Option (LaneNo × OutRecord) :=
  match s.currentLane n with
  | none => none
  | some k =>
    match (s.outQueue k).head?, (s.lane k).phase with
    | some _, .faulted => none
    | some _, .closing => none
    | some r, _ => if roleMatches r.bytes (s.record n).kind then some (k, r) else none
    | none, _ => none

/-- What a telegram is to carry: its kind, the command item, and the PAYLOAD. -/
structure Choice where
  kind : TelegramKind
  item : Option Item
  payload : List Byte
  deriving DecidableEq, Repr

/-- Items 3 to 5 of R79. -/
def State.chooseItem (s : State) (n : SlotNo) : Choice :=
  if (s.unit n).doubt.isSome then ⟨.poll, none, []⟩
  else
    match (s.unit n).directives.first, s.headFor n with
    | some (d, p), _ => ⟨.command, some (.directive d p.serial), s.directivePayload n d⟩
    | none, some (k, r) => ⟨.command, some (.record k r.serial), recordPayload r.bytes⟩
    | none, none => ⟨.poll, none, []⟩

/-- The telegram chosen for a slot (R79): the list for a trusted slot, SYNC or POLL for one being confirmed. -/
def State.choose (s : State) (n : SlotNo) : Choice :=
  if (s.unit n).syncRequest then ⟨.sync, none, []⟩
  else if s.trusted n then (if s.shutApplies n then ⟨.shut, none, []⟩ else s.chooseItem n)
  else ⟨.poll, none, []⟩

/-! ### The telegram (R61, R64) -/

/-- CONTROL of the chosen telegram: a SYNC carries NONE and c 0 (R61). -/
def State.controlFor (s : State) (n : SlotNo) (kind : TelegramKind) : Byte :=
  if kind = .sync then telegramControl .sync .none false else telegramControl kind (s.unit n).pendingAck (s.unit n).c

/-- The telegram built and its exchange fixed, from the slot's state as it stands (R45, R64). -/
def State.buildExchange (s : State) (n : SlotNo) : Exchange where
  slot := n
  kind := (s.choose n).kind
  item := (s.choose n).item
  bytes :=
    telegramBytes (s.record n).tune.data (byteOf (s.record n).address.val) (s.controlFor n (s.choose n).kind)
      (s.choose n).payload
  tune := (s.record n).tune
  window := (s.record n).window

end Sys2Proof.Machine
end

