-- ==== Sys2Proof/Machine/Engine.lean ====
section
/-! DEFINITION. The two drop line engines: settled and ready lines (R54, R55), passes of the ring (R86 to R90), the
sweep (R91 to R95), confirmation runs (R96, R99), transmissions (R47, R53), received characters (R51, R67, R85) and the
line reset (R58). -/

namespace Sys2Proof.Machine

/-! ### The line (R50, R54, R55) -/

/-- Is the receiver inside a character? -/
def LineRx.inside : LineRx → Bool
  | .inCharacter _ => true
  | .atRest => false
  | .inBreak => false

/-- The line is unsettled (R54). -/
def Engine.unsettled (e : Engine) : Bool := (e.rx == .inBreak && !e.driver) || e.chatter

/-- The line is ready to transmit (R55), but for the base character time, which the command that begins the
transmission says has passed (log entry 5). -/
def Engine.ready (e : Engine) : Bool := !e.unsettled && e.rx == .atRest && e.xstate != .guarding && !e.driver

/-- The engine sends a telegram or probe, or is in a reply period. -/
def XState.active : XState → Bool
  | .sending => true
  | .await => true
  | .receiving => true
  | .idle => false
  | .paused => false
  | .guarding => false

/-- The exchange is in its reply period (R65). -/
def XState.replyPeriod : XState → Bool
  | .await => true
  | .receiving => true
  | .sending => false
  | .idle => false
  | .paused => false
  | .guarding => false

/-- The rate and format that the activity asks for (R45). -/
def State.wantedTune (s : State) (l : Line) : Tune :=
  match (s.engine l).exchange with
  | none => (s.lineInForce l).base
  | some x => if (s.engine l).xstate.active then x.tune else (s.lineInForce l).base

/-- The receiver retuned where it is at rest or in break (R50). -/
def State.retune (s : State) (l : Line) : State :=
  if (s.engine l).rx.inside then s else s.setEngine l { s.engine l with tuned := s.wantedTune l }

/-- The watchdog counter at 0 where the line is settled (R56). -/
def State.calmWatchdog (s : State) (l : Line) : State :=
  if (s.engine l).unsettled then s else s.setEngine l { s.engine l with watchdog := 0 }

/-- What follows at once from any event at a line: retuning and the watchdog's return to 0. -/
def State.refresh (s : State) (l : Line) : State := (s.retune l).calmWatchdog l

/-! ### Passes (R86, R87, R89) -/

/-- What a ring entry gets (R87). -/
inductive EntryAction where
  | served
  | confirmed
  | skipped
  deriving DecidableEq, Repr

/-- Is the slot enabled on the line? -/
def State.onLine (s : State) (l : Line) (n : SlotNo) : Bool := (s.record n).enabled && (s.record n).line == l

/-- The table of R87. -/
def State.entryAction (s : State) (l : Line) (n : SlotNo) : EntryAction :=
  if s.onLine l n then
    match (s.unit n).presence with
    | .locked => .served
    | .faltering => .served
    | .seeking => if (s.lineInForce l).sweep then .skipped else .confirmed
    | .lost => if (s.lineInForce l).sweep then .skipped else .confirmed
    | .disabled => .skipped
  else .skipped

/-- The first entry of the list that is not skipped, counting from `p` (R86). -/
def State.scan (s : State) (l : Line) (p : Nat) : List SlotNo → Option (Nat × SlotNo × EntryAction)
  | [] => none
  | n :: rest =>
    match s.entryAction l n with
    | .skipped => s.scan l (p + 1) rest
    | a => some (p, n, a)

/-- A confirmation run for a slot begins (R96, R105); `atEntry`: at a ring entry (R99). -/
def State.startRun (s : State) (l : Line) (n : SlotNo) (atEntry : Bool) : State :=
  let s := s.setUnit n { s.unit n with confirm := 0, syncRequest := true }
  s.setEngine l { s.engine l with run := some ⟨n, atEntry⟩ }

/-- The entry at place `p` becomes the one whose telegram is due (R86, R87). -/
def State.entryDue (s : State) (l : Line) (p : Nat) (n : SlotNo) (a : EntryAction) : State :=
  let s := s.setEngine l { s.engine l with
    ringPtr := p, stage := .ring, xstate := .paused, due := some (if a = .confirmed then .run else .entry) }
  if a = .confirmed then s.startRun l n true else s

/-- The sweep step of the pass: a probe is due (R89). -/
def State.sweepDue (s : State) (l : Line) : State :=
  s.setEngine l { s.engine l with
    ringPtr := (s.ring l).length, stage := .sweepStep, xstate := .paused, due := some .probe }

/-- The engine stays IDLE until the next tick (R89). -/
def State.waitTick (s : State) (l : Line) : State :=
  s.setEngine l { s.engine l with ringPtr := (s.ring l).length, stage := .tickWait, xstate := .idle, due := none }

/-- The next pass begins (R86, R89), its cut mark cleared (R90). An empty or wholly skipped ring brings its end at
once. -/
def State.beginPass (s : State) (l : Line) : State :=
  let s := s.setEngine l { s.engine l with ringPtr := 0, passActive := false, cut := false, due := none, xstate := .idle }
  match s.scan l 0 (s.ring l) with
  | some (p, n, a) => s.entryDue l p n a
  | none => if (s.lineInForce l).sweep then s.sweepDue l else s.waitTick l

/-- The end of a pass (R89). -/
def State.endPass (s : State) (l : Line) : State :=
  if (s.lineInForce l).sweep then s.sweepDue l
  else if (s.engine l).passActive then s.beginPass l
  else s.waitTick l

/-- The engine reaches the next entry that is not skipped, or the end of the pass (R86); none while the cut mark is set
(R90). -/
def State.reachNext (s : State) (l : Line) : State :=
  if (s.engine l).cut then s.endPass l
  else
    match s.scan l (s.engine l).ringPtr ((s.ring l).drop (s.engine l).ringPtr) with
    | some (p, n, a) => s.entryDue l p n a
    | none => s.endPass l

/-- The pointer moves past the entry the engine has finished with (R86), or to the end of a new ring (R90). -/
def State.passEntry (s : State) (l : Line) : State :=
  s.setEngine l { s.engine l with
    ringPtr := if (s.engine l).cut then (s.ring l).length else (s.engine l).ringPtr + 1 }

/-- Would the run still serve its slot (R96)? -/
def State.runServes (s : State) (l : Line) (r : ConfirmRun) : Bool :=
  s.onLine l r.slot &&
    match (s.unit r.slot).presence with
    | .seeking => true
    | .lost => r.atEntry
    | .locked => false
    | .faltering => false
    | .disabled => false

/-- The confirmation run ends; one begun at an entry moves the pointer past it (R96, R99). -/
def State.endRun (s : State) (l : Line) (r : ConfirmRun) : State :=
  let s := s.setEngine l { s.engine l with run := none, due := none }
  if r.atEntry then s.passEntry l else s

/-- What becomes due where the engine stands, with no run in progress (R86, R89). -/
def State.nextDue (s : State) (l : Line) : State :=
  match (s.engine l).stage with
  | .ring => s.reachNext l
  | .sweepStep => s.beginPass l
  | .toBegin => s
  | .tickWait => s

/-- The engine goes on: the next telegram of its run, the next entry, or the end of the pass (R70, R86, R96). -/
def State.advance (s : State) (l : Line) : State :=
  match (s.engine l).run with
  | none => s.nextDue l
  | some r =>
    if s.runServes l r then s.setEngine l { s.engine l with xstate := .paused, due := some .run }
    else (s.endRun l r).nextDue l

/-- An engine that stands before its first pass begins it once its line is ready (R60, R101; log entry 13). -/
def State.wakeEngine (s : State) (l : Line) : State :=
  if (s.engine l).stage = .toBegin ∧ (s.engine l).ready = true then s.beginPass l else s

/-! ### Beginning a transmission (R45, R64, R91) -/

/-- Waiting line settings adopted (R45). -/
def State.adopt (s : State) (l : Line) : State :=
  match (s.tables.lines.get l).waiting with
  | none => s
  | some w => { s with tables := { s.tables with lines := s.tables.lines.set l ⟨w, none⟩ } }

/-- The table of R87, or the run's own condition (R96), applied again at the first transmission of what is due. -/
def State.recheck (s : State) (l : Line) : State :=
  match (s.engine l).due, (s.engine l).run with
  | some .run, some r => if s.runServes l r then s else (s.endRun l r).nextDue l
  | some .entry, _ =>
    match (s.ring l)[(s.engine l).ringPtr]? with
    | none => s.reachNext l
    | some n => if s.entryAction l n = .served then s else s.reachNext l
  | _, _ => s

/-- The slot whose telegram is due. -/
def State.dueSlot (s : State) (l : Line) : Option SlotNo :=
  match (s.engine l).due with
  | some .run => (s.engine l).run.map ConfirmRun.slot
  | some .entry => (s.ring l)[(s.engine l).ringPtr]?
  | some .probe => none
  | none => none

/-- A first transmission begins: settings are adopted, the telegram is built, the driver is raised (R45, R47, R64). -/
def State.beginExchange (s : State) (l : Line) (n : SlotNo) : State :=
  let s := s.adopt l
  s.setEngine l { s.engine l with
    xstate := .sending
    due := none
    exchange := some (s.buildExchange n)
    conflicts := 0
    received := []
    driver := true
    passActive := true }

/-- The due telegram's first transmission on a ready line (R64, R87). The table of R87 is applied again under the settings
still in force, and waiting settings are adopted only then (R45; log entry 32). -/
def State.beginTelegram (s : State) (l : Line) : State :=
  let s := s.recheck l
  match s.dueSlot l with
  | none => s
  | some n => s.beginExchange l n

/-- The range a probe takes and the stack it leaves (R91): an empty stack is reloaded with [1,31]. -/
def takeRange : List AddrRange → AddrRange × List AddrRange
  | [] => (⟨1, 31⟩, [])
  | r :: rest => (r, rest)

/-- A sweep probe's first transmission begins (R45, R91, R92). -/
def State.beginProbe (s : State) (l : Line) : State :=
  let s := s.adopt l
  let t := takeRange (s.engine l).stack
  s.setEngine l { s.engine l with
    xstate := .sending
    due := none
    probe := some ⟨t.1, probeBytes (s.lineInForce l).base.data t.1⟩
    stack := t.2
    conflicts := 0
    answers := []
    driver := true
    passActive := true }

/-- The same telegram or probe sent again from its first character (R53). -/
def State.beginAgain (s : State) (l : Line) : State :=
  s.setEngine l { s.engine l with xstate := .sending, driver := true }

/-! ### Ends of exchanges -/

/-- The run and the pointer after an outcome (R86, R96): `failed` covers every failure and a discarded reply. -/
def State.settleRun (s : State) (l : Line) (n : SlotNo) (failed : Bool) : State :=
  match (s.engine l).run with
  | none => if (s.engine l).stage = .ring then s.passEntry l else s
  | some r => if failed = true ∨ (s.unit n).presence = .locked then s.endRun l r else s

/-- An exchange ends with an outcome, in the engine state that follows it (R65, R71). -/
def State.endExchange (s : State) (l : Line) (x : Exchange) (o : ExchangeOutcome) (after : XState) : State :=
  let failed := (s.unit x.slot).superseded || !o.isValid
  let s := s.setEngine l { s.engine l with exchange := none, received := [], conflicts := 0, xstate := after }
  (s.giveOutcome x o).settleRun l x.slot failed

/-! ### The sweep (R93 to R95) -/

/-- The range pushed back in two halves, the lower on top (R94). -/
def splitRange (r : AddrRange) (stack : List AddrRange) : List AddrRange :=
  ⟨r.lo, (r.lo + r.hi) / 2⟩ :: ⟨(r.lo + r.hi) / 2 + 1, r.hi⟩ :: stack

/-- The lowest-numbered enabled slot of the line with an address (R95). -/
def State.slotAt (s : State) (l : Line) (address : Nat) : Option SlotNo :=
  allSlots.find? fun n => s.onLine l n && (s.record n).address.val == address

/-- A clean answer judged against the unit table (R95, R98, R109). -/
def State.cleanAnswer (s : State) (l : Line) (address : Nat) : State :=
  match s.slotAt l address with
  | none => s.raiseNotice .strayUnit (lineCode l) (byteOf address)
  | some n =>
    match (s.unit n).presence with
    | .seeking => s.startRun l n false
    | .lost => (s.setUnit n { s.unit n with presence := .seeking }).startRun l n false
    | .locked => s.restartDetected n
    | .faltering => s.restartDetected n
    | .disabled => s

/-- A garbled answer (R94). -/
def State.garble (s : State) (l : Line) (r : AddrRange) : State :=
  if r.lo < r.hi then s.setEngine l { s.engine l with stack := splitRange r (s.engine l).stack }
  else
    s.setEngine l { s.engine l with
      counters := { (s.engine l).counters with sweepNoise := bump (s.engine l).counters.sweepNoise } }

/-- What was collected is judged (R93). -/
def State.judgeAnswer (s : State) (l : Line) (r : AddrRange) (answers : List (Byte × Bool)) : State :=
  match judgeSweep r answers with
  | .silence => s
  | .clean a => s.cleanAnswer l a
  | .garble => s.garble l r

/-- The probe's reply period ends, the answer is judged and the guard begins (R85, R93). -/
def State.endProbe (s : State) (l : Line) (p : Probe) (answers : List (Byte × Bool)) : State :=
  (s.setEngine l { s.engine l with probe := none, answers := [], conflicts := 0, xstate := .guarding }).judgeAnswer l
    p.range answers

/-! ### Received characters (R51) -/

/-- Where a character delivered now goes (R51). A receiver at rest is taken to have accepted the start bit with the
engine as it stands (log entry 6). -/
inductive Destination where
  | echo
  | exchange (x : Exchange)
  | probe (p : Probe)
  | stray
  | nowhere
  deriving DecidableEq, Repr

/-- The moment at which the start bit of a character delivered now was accepted; none in break (R49). -/
def Engine.origin (e : Engine) : Option Origin :=
  match e.rx with
  | .inBreak => none
  | .inCharacter o => some o
  | .atRest => some (if e.driver then .echo else if e.xstate.replyPeriod then .reply else .stray)

/-- The destination of a character delivered now (R51). -/
def Engine.destination (e : Engine) : Destination :=
  match e.origin with
  | none => .nowhere
  | some .echo => .echo
  | some .stray => .stray
  | some .reply =>
    if e.xstate.replyPeriod then
      match e.exchange, e.probe with
      | some x, _ => .exchange x
      | none, some p => .probe p
      | none, none => .nowhere
    else .nowhere


/-- A character with an error counted (R51). -/
def LineCounters.countError (c : LineCounters) (err : CharError) : LineCounters :=
  if err = .none then c else { c with charErrors := bump c.charErrors }

/-- A character taken from the receiver: its error counted where `count` says so. -/
def State.takeChar (s : State) (l : Line) (err : CharError) (count : Bool) : State :=
  s.setEngine l { s.engine l with
    rx := rxAfter err
    counters := if count then (s.engine l).counters.countError err else (s.engine l).counters }

/-- A reply character (R67). -/
def State.replyChar (s : State) (l : Line) (x : Exchange) (err : CharError) (value : Byte) : State :=
  let bytes := (s.engine l).received ++ [value]
  if err ≠ .none then s.endExchange l x .badChar .guarding
  else if bytes.length = 3 ∧ 48 < value.toNat then s.endExchange l x .badFormat .guarding
  else if 4 + (bytes.getD 2 0).toNat ≤ bytes.length then
    s.endExchange l x (judgeReply x.tune.data (x.bytes.headD 0) bytes) .guarding
  else s.setEngine l { s.engine l with received := bytes, xstate := .receiving }

/-- A character of a sweep answer (R85). -/
def State.answerChar (s : State) (l : Line) (p : Probe) (err : CharError) (value : Byte) : State :=
  let answers := (s.engine l).answers ++ [(value, decide (err ≠ .none))]
  if 3 ≤ answers.length then s.endProbe l p answers
  else s.setEngine l { s.engine l with answers := answers, xstate := .receiving }

/-- A stray character (R51, R54). -/
def State.strayChar (s : State) (l : Line) : State :=
  s.setEngine l { s.engine l with
    chatter := true
    counters := { (s.engine l).counters with strayChars := bump (s.engine l).counters.strayChars } }

/-- The receiver delivers a character, which goes where R51 says. -/
def State.deliver (s : State) (l : Line) (ch : Sampled) : State :=
  let e := s.engine l
  let err := e.tuned.error ch
  let value := e.tuned.data.value ch.data
  match e.destination with
  | .echo => s.takeChar l err false
  | .exchange x => (s.takeChar l err true).replyChar l x err value
  | .probe p => (s.takeChar l err true).answerChar l p err value
  | .stray => (s.takeChar l err true).strayChar l
  | .nowhere => if e.rx = .inBreak then s else s.takeChar l err true

/-! ### The echo check (R52, R53) -/

/-- Does a delivered read-back pass (R52)? -/
def Tune.readBackPasses (t : Tune) (sent : Byte) : Option Sampled → Bool
  | none => false
  | some ch => t.error ch == .none && t.data.value ch.data == t.data.value sent

/-- The receiver after the read-back that was judged. -/
def rxAfterReadBack (t : Tune) (rx : LineRx) : Option Sampled → LineRx
  | none => rx
  | some ch => rxAfter (t.error ch)

/-- What is being sent: its bytes (R47). -/
def Engine.sent (e : Engine) : List Byte :=
  match e.exchange, e.probe with
  | some x, _ => x.bytes
  | none, some p => p.bytes
  | none, none => []

/-- The transmit output of a line, ATX or BTX (R46, R47): at mark whenever the driver enable is low; the characters of the
telegram or probe, back to back, while it is high. -/
def State.lineOutput (s : State) (l : Line) : Output :=
  if (s.engine l).driver then .carries ((s.engine l).sent.flatMap (s.wantedTune l).sentBits) else .mark

/-- The driver lowered at a conflict, which is counted (R52). -/
def State.countConflict (s : State) (l : Line) (readBack : Option Sampled) : State :=
  let e := s.engine l
  s.setEngine l { e with
    driver := false
    rx := rxAfterReadBack e.tuned e.rx readBack
    conflicts := e.conflicts + 1
    xstate := .paused
    counters := { e.counters with echoConflicts := bump e.counters.echoConflicts } }

/-- The 4th conflict of a probe: its range is pushed back and the sweep step ends (R53, R97). -/
def State.giveUpProbe (s : State) (l : Line) (p : Probe) : State :=
  (s.setEngine l { s.engine l with
    probe := none, conflicts := 0, xstate := .idle, stack := p.range :: (s.engine l).stack }).beginPass l

/-- What a conflict leads to: the wait for a repeat, or the end at the 4th (R53). -/
def State.afterConflict (s : State) (l : Line) : State :=
  if (s.engine l).conflicts < Config.conflictLimit then s
  else
    match (s.engine l).exchange, (s.engine l).probe with
    | some x, _ => (s.endExchange l x .conflictLimit .idle).advance l
    | none, some p => s.giveUpProbe l p
    | none, none => s

/-! ### The line watchdog (R57, R58) -/

/-- The engine after a line reset, but for the exchange's outcome (R58, R101; log entry 27). -/
def Engine.lineReset (e : Engine) : Engine :=
  { e with
    xstate := if e.xstate = .guarding then .guarding else .idle
    due := none
    exchange := none
    probe := none
    conflicts := 0
    received := []
    answers := []
    driver := false
    chatter := false
    watchdog := 0
    ringPtr := 0
    cut := false
    stack := []
    run := none
    passActive := false
    stage := .toBegin }

/-- A line reset (R58): the exchange in progress ends ABORTED. -/
def State.lineReset (s : State) (l : Line) : State :=
  let reset := s.setEngine l (s.engine l).lineReset
  match (s.engine l).exchange with
  | none => reset
  | some x => reset.giveOutcome x .aborted

/-- The other of the two drop lines. -/
def otherLine : Line → Line
  | .a => .b
  | .b => .a

/-- A line's flag in the detail of LINE_STUCK: bit 0 for line A, bit 1 for line B (R184). -/
def stuckFlag : Line → Byte
  | .a => 1
  | .b => 2

/-- Steps 1 and 2 of a watchdog expiry (R57). -/
def State.countStuck (s : State) (l : Line) : State :=
  (s.setEngine l { s.engine l with
    counters := { (s.engine l).counters with stuck := bump (s.engine l).counters.stuck } }).raiseNotice .lineStuck
    (stuckFlag l) 0

/-- Steps 3 and 4 of a watchdog expiry (R57): what the recovery mode in force asks for, and the counter's return to 0. -/
def State.recover (s : State) (l : Line) : State :=
  let s :=
    match (s.lineInForce l).recovery with
    | .reset => s.lineReset l
    | .flag => s
  s.setEngine l { s.engine l with watchdog := 0 }

/-- The four steps of a watchdog expiry (R57); LINE_STUCK is raised before a line reset ends anything (log entry 10). -/
def State.watchdogExpires (s : State) (l : Line) : State := (s.atOnce (s.countStuck l)).recover l

/-- Both lines' watchdogs expire at the same moment (R57): LINE_STUCK is raised for both lines, and only then may the notice
set be selected, with both flags and a count that rose by 2. Then the lines recover one after the other, `first` first
(log entry 33). -/
def State.bothWatchdogsExpire (s : State) (first : Line) : State :=
  let told := s.atOnce ((s.countStuck first).countStuck (otherLine first))
  (told.atOnce (told.recover first)).recover (otherLine first)

/-! ### A new ring (R90) -/

/-- What the engine does when a ring is loaded for its line (R90). -/
def State.ringLoaded (s : State) (l : Line) : State :=
  let s := s.setEngine l { s.engine l with cut := true }
  match (s.engine l).stage with
  | .ring => if (s.engine l).due = some .entry then (s.setEngine l { s.engine l with due := none }).endPass l else s
  | .sweepStep => s.setEngine l { s.engine l with ringPtr := (s.ring l).length }
  | .tickWait => s.setEngine l { s.engine l with ringPtr := (s.ring l).length }
  | .toBegin => s

end Sys2Proof.Machine
end

