-- ==== Sys2Proof/Machine/Resets.lean ====
section
/-! DEFINITION. The hardware reset (R20, R42, R60, R101, R103), the soft reset (R21, R41) and new link settings taking
effect (R19). -/

namespace Sys2Proof.Machine

/-- The hardware reset. The commands that wait outside the part, and the count of free choices, are not the part's. -/
def State.hardwareReset (s : State) : State :=
  { State.reset with choices := s.choices, pending := s.pending }

/-- The Link Port after a soft reset (R21): the rate, the silence time and the link receiver's state are kept. -/
def LinkPort.softReset (p : LinkPort) : LinkPort :=
  { resetLinkPort with rx := p.rx, inForce := p.inForce }

/-- A staged record applied whatever its lanes (R41). -/
def State.applyAnyStaged (s : State) (n : SlotNo) : State :=
  match s.staged n with
  | none => s
  | some r => s.applyRecord n r

/-- Every staged record applied, in slot order (R41). -/
def State.applyEveryStaged (s : State) : State := allSlots.foldl State.applyAnyStaged s

/-- The runtime record of a slot after a soft reset (R103). -/
def resetRun (r : UnitRecord) : UnitRun := { presence := if r.enabled then .seeking else .disabled }

/-- The soft reset carried out (R21, R41, R60, R101, R103, R131, R132): the tables are kept. -/
def State.softReset (s : State) : State :=
  let t := s.applyEveryStaged
  { t with
    link := t.link.softReset
    reply := none
    softPending := false
    notices := restartedNotices
    inbound := Vector.replicate 8 []
    outbound := Vector.replicate 8 []
    lanes := Vector.replicate 8 {}
    units := Vector.ofFn fun n => resetRun (t.record n)
    engines := ⟨resetEngine (t.lineInForce .a).base, resetEngine (t.lineInForce .b).base⟩ }

/-- New link settings take effect (R19). -/
def LinkPort.takeSettings (p : LinkPort) (new : LinkSettings) : LinkPort :=
  if new.p = p.inForce.p ∧ new.m = p.inForce.m then { p with inForce := new, silenceCount := 0 }
  else { p with inForce := new, silenceCount := 0, frameRx := .hunt, content := [], rx := .waitMark }

/-- What the closing delimiter of a frame carries out before the selection (R13, R19, R21): 0x0A is SET_LINK, 0x0F
SOFT_RESET. -/
inductive AtDelimiter where
  | nothing
  | linkSettings (new : LinkSettings)
  | softReset
  deriving DecidableEq, Repr

/-- What a reply body brings about at its frame's closing delimiter: DONE is 0 and CLAMPED is 1. -/
def replyBrings : List Byte → AtDelimiter
  | [code, status, p, m, t] =>
    if code = 0x0A ∧ (status = 0 ∨ status = 1) then
      match LinkSettings.ofBytes [p, m, t] with
      | .inl _ => .nothing
      | .inr new => .linkSettings new
    else .nothing
  | [code, status] => if code = 0x0F ∧ status = 0 then .softReset else .nothing
  | _ => .nothing

/-- What a frame brings about at its closing delimiter. -/
def Frame.brings (f : Frame) : AtDelimiter :=
  match f.kind with
  | .reply => replyBrings f.body
  | .laneCommands => .nothing
  | .request => .nothing
  | .event => .nothing
  | .alert => .nothing
  | .notice => .nothing

/-- The effects carried out at a closing delimiter (R19, R21). -/
def State.carryOut (s : State) : AtDelimiter → State
  | .nothing => s
  | .linkSettings new => s.setLink (s.link.takeSettings new)
  | .softReset => s.softReset

/-- A frame's closing delimiter has been sent (R13): it is counted, its effects are carried out, and the next frame is
selected by rank. -/
def State.frameSent (s : State) (f : Frame) : State :=
  let counted := s.setLink { s.link with
    tx := .idle
    counters := { s.link.counters with txFrames := bump s.link.counters.txFrames } }
  (counted.carryOut f.brings).selectByRank

end Sys2Proof.Machine
end

