-- ==== Sys2Proof/Machine/LinkPort.lean ====
section
/-! DEFINITION. What a good frame does at its closing delimiter before it is dispatched (R9), the request latch (R11),
the transmit output (R1, R4) and the silence timer (R16). -/

namespace Sys2Proof.Machine

/-- A good frame counted, and the silence timer restarted (R9 steps 1 and 3). Until the four steps are done no candidate is
selected. -/
def LinkPort.goodFrame (p : LinkPort) : LinkPort :=
  { p with
    tx := p.tx.gather
    state := .live
    silenceCount := 0
    counters := { p.counters with rxGood := bump p.counters.rxGood } }

/-- A quiet link resumes (R9 step 2, R17). -/
def State.resume (s : State) : State := s.clearStandby.raiseNotice .linkResumed 0 0

/-- R9 steps 1 to 3. -/
def State.goodFrame (s : State) : State :=
  let counted := s.setLink s.link.goodFrame
  if s.link.state = .quiet then counted.resume else counted

/-- The receivers after a frame's closing delimiter: at rest, and in COLLECT with an empty buffer (R2, R6). -/
def State.frameClosed (s : State) : State :=
  s.setLink { s.link with rx := .atRest, frameRx := .collect, content := [] }

/-- A REQUEST body reaches the request latch (R11). -/
def State.latchRequest (s : State) (body : List Byte) : State :=
  match s.link.latch with
  | none => s.setLink { s.link with latch := some body }
  | some _ =>
    (s.setLink { s.link with
      counters := { s.link.counters with reqDropped := bump s.link.counters.reqDropped } }).raiseNotice .requestDropped 0 0

/-- The four steps of R9 for a REQUEST frame. -/
def State.requestFrame (s : State) (body : List Byte) : State := s.goodFrame.latchRequest body

/-- The transmit output LTXD (R1, R4, R13): at mark while the transmitter has nothing to send, the frame's characters back to
back while it is SENDING. -/
def LinkPort.output (p : LinkPort) : Output :=
  match p.tx with
  | .idle => .mark
  | .gathering => .mark
  | .sending f => .carries (f.wire.flatMap linkCharBits)

/-- Does the silence timer run (R16)? -/
def State.silenceRuns (s : State) : Bool := s.link.state == .live && s.link.inForce.silence != 0

/-- The silence timer expires (R16): the link becomes QUIET and the lanes go into standby (R152). -/
def State.goQuiet (s : State) : State := (s.setLink { s.link with state := .quiet, silenceCount := 0 }).standbyAll

end Sys2Proof.Machine
end

