-- ==== Sys2Proof/Machine/LaneCommands.lean ====
section
/-! DEFINITION. Lane commands: the parsing of a LANE_COMMANDS body, the order of checks, clamps, the records queued and
the overflow condition (R134 to R138, R140, R142, R145, R178). -/

namespace Sys2Proof.Machine

/-- The phases a command is admitted in (section 8.2). -/
def LaneCmd.admitted (phase : LanePhase) : LaneCmd → Bool
  | .openLane _ => phase == .closed
  | .close => phase == .opening || phase == .opened
  | .clear => true
  | .showText _ _ _ => phase == .closed || phase == .opening || phase == .opened
  | .tone _ _ => phase == .closed || phase == .opening || phase == .opened
  | .reader _ _ => phase == .opened
  | .entry _ _ _ _ _ => phase == .opened
  | .pin _ _ _ _ => phase == .opened
  | .unlock _ => phase == .opened
  | .decideCard _ => phase == .opened

/-- Has the lane the unit that the command's target role asks for (R135 check 3)? -/
def State.hasTarget (s : State) (k : LaneNo) : LaneCmd → Bool
  | .openLane _ => true
  | .close => true
  | .clear => true
  | .showText _ _ _ => (s.keypadOf k).isSome
  | .tone _ _ => (s.keypadOf k).isSome
  | .reader _ _ => (s.readerOf k).isSome
  | .entry _ _ _ _ _ => (s.keypadOf k).isSome
  | .pin _ _ _ _ => (s.keypadOf k).isSome
  | .unlock _ => (s.keypadOf k).isSome
  | .decideCard _ => true

/-- The keypad's kind as its current record has it. -/
def State.keypadKind (s : State) (k : LaneNo) : UnitKind :=
  match s.keypadOf k with
  | none => .pinpad
  | some n => (s.record n).kind

/-- Rows of a keypad's display (R136). -/
def UnitKind.rows : UnitKind → Nat
  | .combo => 4
  | .pinpad => 2
  | .reader => 2

/-- Columns of a keypad's display (R136). -/
def UnitKind.columns : UnitKind → Nat
  | .combo => 20
  | .pinpad => 16
  | .reader => 16

/-- Is an argument refused with BAD_VALUE (R136)? -/
def LaneCmd.badValue (kind : UnitKind) : LaneCmd → Bool
  | .openLane tag => tag == 0
  | .close => false
  | .clear => false
  | .showText row _ _ => decide (kind.rows ≤ row.toNat)
  | .tone pattern _ => decide (7 < pattern.toNat)
  | .reader _ _ => false
  | .entry count _ _ _ _ => count == 0
  | .pin _ _ _ _ => false
  | .unlock _ => false
  | .decideCard choice => choice != 1 && choice != 2

/-! ### Clamps (R136) -/

/-- An ENTRY count above 32 becomes 32. -/
def clampCount (b : Byte) : Byte := if 32 < b.toNat then 32 else b

/-- A PIN min is held within 4 and 12. -/
def clampMin (b : Byte) : Byte := if b.toNat < 4 then 4 else if 12 < b.toNat then 12 else b

/-- A PIN max above 12 becomes 12, and one below the min, already held, becomes the min. -/
def clampMax (min b : Byte) : Byte :=
  if 12 < b.toNat then 12 else if b.toNat < min.toNat then min else b

/-- A SHOW text for a keypad: its unprintable characters replaced, then cut to the keypad's columns. -/
def clampText (kind : UnitKind) (text : List Byte) : List Byte := (text.map printable).take kind.columns

/-- The command record a command is kept as (R137, R183); none for one that acts at once. -/
def LaneCmd.record (kind : UnitKind) : LaneCmd → Option (List Byte)
  | .openLane _ => none
  | .close => none
  | .clear => none
  | .showText row report text =>
    some (commandRecord 1 (recordFlags .keypad (flagOn report) false false false) (row :: clampText kind text))
  | .tone pattern report => some (commandRecord 2 (recordFlags .keypad (flagOn report) false false false) [pattern])
  | .reader onOff report =>
    some (commandRecord (if flagOn onOff then 3 else 4) (recordFlags .cardReader (flagOn report) false false false) [])
  | .entry count dot echo chain report =>
    some (commandRecord 5 (recordFlags .keypad (flagOn report) (flagOn dot) (flagOn echo) (flagOn chain)) [clampCount count])
  | .pin min max chain report =>
    some (commandRecord 6 (recordFlags .keypad (flagOn report) false false (flagOn chain))
      [clampMin min, clampMax (clampMin min) max])
  | .unlock report => some (commandRecord 7 (recordFlags .keypad (flagOn report) false false false) [])
  | .decideCard _ => none

/-! ### Refusals and the overflow condition (R135, R138) -/

/-- A refused command (R135). -/
def State.badCommand (s : State) (k : LaneNo) (reason : BadReason) (position : Nat) : State :=
  s.raiseAlert k .badCommand reason.code (byteOf position)

/-- A command lost to the overflow condition (R138). -/
def State.lostCommand (s : State) (k : LaneNo) (position : Nat) : State :=
  s.raiseAlert k .outOverflow (byteOf position) 0

/-- The lane after a command, and whether the rest of this frame's body is lost because its record did not fit. -/
structure Performed where
  after : State
  lost : Bool
  deriving DecidableEq, Repr

/-- A record written to the outbound queue, or the overflow condition (R137, R138). -/
def State.queueRecord (s : State) (k : LaneNo) (position : Nat) (r : List Byte) : Performed :=
  if s.outFits k r.length then ⟨s.storeOut k r, false⟩
  else ⟨(s.setLane k { s.lane k with overflow := true }).lostCommand k position, true⟩

/-- The command's record queued (R137). -/
def State.queueCommand (s : State) (k : LaneNo) (position : Nat) (cmd : LaneCmd) : Performed :=
  match cmd.record (s.keypadKind k) with
  | none => ⟨s, false⟩
  | some r => s.queueRecord k position r

/-! ### Commands that act at once -/

/-- Is a bound unit SEEKING or LOST (R140)? -/
def State.unitDown (s : State) (k : LaneNo) : Bool :=
  (s.boundSlots k).any fun n => (s.unit n).presence == .seeking || (s.unit n).presence == .lost

/-- OPEN admitted in CLOSED with a tag other than 0 (R140). -/
def State.actOpen (s : State) (k : LaneNo) (tag : Word16) (position : Nat) : State :=
  if s.unitDown k then s.badCommand k .unitDown position else s.beginOpening k tag

/-- CLEAR (R145). -/
def State.actClear (s : State) (k : LaneNo) : State :=
  let s := ((s.setLane k { s.lane k with overflow := false }).flushOut k).flushIn k
  match (s.lane k).phase with
  | .opening => s.enterClosing k
  | .opened => s.enterClosing k
  | .faulted => s.enterClosing k
  | .closed => s
  | .closing => s

/-- DECIDE in OPEN (R178): choice 1 is RETAIN; cause 1 is COMMAND. -/
def State.actDecide (s : State) (k : LaneNo) (choice : Byte) : State :=
  match (s.lane k).decision with
  | none => s.raiseAlert k .decisionLate 0 0
  | some d => s.resolveDecision k d (choice == 1) 1

/-- A command that has passed its checks (R135 step 6). -/
def State.act (s : State) (k : LaneNo) (position : Nat) (cmd : LaneCmd) : Performed :=
  match cmd with
  | .openLane tag => ⟨s.actOpen k tag position, false⟩
  | .close => ⟨s.enterClosing k, false⟩
  | .clear => ⟨s.actClear k, false⟩
  | .decideCard choice => ⟨s.actDecide k choice, false⟩
  | .showText _ _ _ => s.queueCommand k position cmd
  | .tone _ _ => s.queueCommand k position cmd
  | .reader _ _ => s.queueCommand k position cmd
  | .entry _ _ _ _ _ => s.queueCommand k position cmd
  | .pin _ _ _ _ => s.queueCommand k position cmd
  | .unlock _ => s.queueCommand k position cmd

/-- The checks of R135 from the phase on, and the act. -/
def State.checked (s : State) (k : LaneNo) (position : Nat) (cmd : LaneCmd) : Performed :=
  if cmd.admitted (s.lane k).phase = false then ⟨s.badCommand k .wrongPhase position, false⟩
  else if s.hasTarget k cmd = false then ⟨s.badCommand k .noUnit position, false⟩
  else if cmd.badValue (s.keypadKind k) then ⟨s.badCommand k .badValue position, false⟩
  else s.act k position cmd

/-- A well-formed command at a position (R135, R138). `lost`: it stands in the rest of a frame whose record did not fit.
Whether a CLEAR standing there is taken the manual leaves open (log entry 18). -/
def State.perform (s : State) (k : LaneNo) (position : Nat) (lost : Bool) (cmd : LaneCmd) : Performed :=
  match cmd with
  | .clear =>
    if lost = true ∧ Config.clearInLostRest = false then ⟨s.lostCommand k position, true⟩ else s.checked k position .clear
  | cmd => if (s.lane k).overflow then ⟨s.lostCommand k position, lost⟩ else s.checked k position cmd

/-! ### Bodies (R134) -/

/-- A body parsed from the command at `position` on; `fuel` is at least the number of its commands. -/
def State.parseBody (s : State) (k : LaneNo) (fuel position : Nat) (lost : Bool) (body : List Byte) : State :=
  match fuel with
  | 0 => s
  | fuel + 1 =>
    if body = [] then s
    else
      match LaneCmd.take body with
      | none => s.badCommand k .badCode position
      | some (cmd, rest) =>
        (s.perform k position lost cmd).after.parseBody k fuel (position + 1) (s.perform k position lost cmd).lost rest

/-- The four steps of R9 for a LANE_COMMANDS frame (R10). -/
def State.laneFrame (s : State) (k : LaneNo) (body : List Byte) : State :=
  s.goodFrame.parseBody k body.length 1 false body

/-- The same for a frame whose first command is `cmd` and whose body goes on with `rest`. -/
def State.commandFrame (s : State) (k : LaneNo) (cmd : LaneCmd) (rest : List Byte) : State :=
  let p := s.goodFrame.perform k 1 false cmd
  p.after.parseBody k rest.length 2 p.lost rest

/-- A good frame dispatched by kind (R9 step 4). -/
def State.dispatch (s : State) : GoodFrame → State
  | .laneCommands k body => s.laneFrame k body
  | .request body => s.requestFrame body

end Sys2Proof.Machine
end

