-- ==== Sys2Proof/Machine/Requests.lean ====
section
/-! DEFINITION. Management requests (R22 to R40, R185): how MGU takes one, checks it, executes it and answers. -/

namespace Sys2Proof.Machine

/-! ### Replies (R23, section 11.6) -/

/-- Statuses of an executed request. -/
inductive Status where
  | done
  | clamped
  | staged
  deriving DecidableEq, Repr

/-- Status codes (section 11.6); REFUSED is 3. -/
def Status.code : Status → Byte
  | .done => 0
  | .clamped => 1
  | .staged => 2

/-- Reasons of a refusal (R23). -/
inductive ReqReason where
  | unknown
  | badLength
  | badIndex
  | badValue
  | laneBusy
  | conflict
  deriving DecidableEq, Repr

/-- Codes of the reasons (section 11.6). -/
def ReqReason.code : ReqReason → Byte
  | .unknown => 1
  | .badLength => 2
  | .badIndex => 3
  | .badValue => 4
  | .laneBusy => 5
  | .conflict => 6

/-- A reply placed in the reply slot. -/
def State.answer (s : State) (code : Byte) (status : Status) (data : List Byte) : State :=
  s.setReply (some (code :: status.code :: data))

/-- A refusal placed in the reply slot: nothing else changes (R23). -/
def State.refuse (s : State) (code : Byte) (reason : ReqReason) (detail : Byte) : State :=
  s.setReply (some [code, 3, reason.code, detail])

/-- DONE where every value was stored as received, CLAMPED otherwise (R23). -/
def storedStatus (received stored : List Byte) : Status := if received = stored then .done else .clamped

/-! ### Taking a request (R22) -/

/-- May MGU take the latched request: the reply slot is empty and no soft reset is pending? -/
def State.mguFree (s : State) : Bool := s.reply.isNone && !s.softPending

/-- The request latch emptied. -/
def State.emptyLatch (s : State) : State := s.setLink { s.link with latch := none }

/-- MGU takes the latched request if its code is `code`, and executes it on its argument bytes (R22). -/
def State.takeRequest (s : State) (code : Byte) (execute : List Byte → State → State) : State :=
  match s.link.latch with
  | some (c :: args) => if s.mguFree = true ∧ c = code then execute args s.emptyLatch else s
  | some [] => s
  | none => s

/-- Request codes that name a request (section 11.6). -/
def knownCode (c : Byte) : Bool := decide (1 ≤ c.toNat ∧ c.toNat ≤ 15)

/-- MGU takes a latched request with an unknown code, or an empty body (R23). -/
def State.takeUnknown (s : State) : State :=
  match s.link.latch with
  | none => s
  | some [] => if s.mguFree then s.emptyLatch.refuse 0 .badLength 0 else s
  | some (c :: _) => if s.mguFree = true ∧ knownCode c = false then s.emptyLatch.refuse c .unknown 0 else s

/-- The length check and the index check of a request with an index (R23, R185): `len` argument bytes, the first of them
an index below `bound`. -/
def State.indexed (s : State) (code : Byte) (len bound : Nat) (args : List Byte)
    (execute : Fin bound → List Byte → State) : State :=
  match args with
  | [] => s.refuse code .badLength 0
  | index :: fields =>
    if args.length ≠ len then s.refuse code .badLength 0
    else if h : index.toNat < bound then execute ⟨index.toNat, h⟩ fields
    else s.refuse code .badIndex index

/-- The value check of a request: go on with the fields checked and clamped, or refuse the first faulty one. -/
def State.valued {α : Type} (s : State) (code : Byte) (check : FieldCheck α) (execute : α → State) : State :=
  match check with
  | .inl position => s.refuse code .badValue (byteOf position)
  | .inr x => execute x

/-! ### The unit table (R25 to R27) -/

/-- A record that has passed every check, applied or staged (R27). -/
def State.acceptUnit (s : State) (n : SlotNo) (r : UnitRecord) (received : List Byte) : State :=
  match s.currentLane n with
  | none => (s.applyRecord n r).answer 1 (storedStatus received r.bytes) (byteOf n.val :: r.bytes)
  | some k =>
    if s.laneClosed k then (s.applyRecord n r).answer 1 (storedStatus received r.bytes) (byteOf n.val :: r.bytes)
    else (s.setEntry n ⟨s.record n, some r⟩).answer 1 .staged (byteOf n.val :: r.bytes)

/-- LOAD_UNIT (R25 to R27). -/
def loadUnitOn (args : List Byte) (s : State) : State :=
  s.indexed 1 13 16 args fun n fields =>
    s.valued 1 (UnitRecord.ofBytes fields) fun r =>
      if s.namesBusyLane n r then s.refuse 1 .laneBusy (byteOf r.lane.val)
      else
        match s.conflict n r with
        | some detail => s.refuse 1 .conflict detail
        | none => s.acceptUnit n r fields

/-- The staged record as READ_UNIT carries it (section 11.6). -/
def stagedBytes : Option UnitRecord → List Byte
  | none => [0]
  | some r => 1 :: r.bytes

/-- READ_UNIT (R25). -/
def readUnitOn (args : List Byte) (s : State) : State :=
  s.indexed 2 1 16 args fun n _ => s.answer 2 .done ((s.record n).bytes ++ stagedBytes (s.staged n))

/-! ### Lane settings (R29) -/

/-- The settings of a lane replaced. -/
def State.setLaneSettings (s : State) (k : LaneNo) (r : LaneSettings) : State :=
  s.setTables { s.tables with lanes := s.tables.lanes.set k r }

/-- LOAD_LANE (R29). -/
def loadLaneOn (args : List Byte) (s : State) : State :=
  s.indexed 3 6 8 args fun k fields =>
    s.valued 3 (LaneSettings.ofBytes fields) fun r =>
      if s.laneClosed k then
        (s.setLaneSettings k r).answer 3 (storedStatus fields r.bytes) (byteOf k.val :: r.bytes)
      else s.refuse 3 .laneBusy (byteOf k.val)

/-- READ_LANE (R29). -/
def readLaneOn (args : List Byte) (s : State) : State :=
  s.indexed 4 1 8 args fun k _ => s.answer 4 .done ((s.laneSettings k).bytes ++ [(s.lane k).phase.code])

/-! ### Key maps, policies and prompts (R30 to R32) -/

/-- The key map that 32 entries give (R30). -/
def keyMapOf (fields : List Byte) : Vector LogicalKey 32 := Vector.ofFn fun i => LogicalKey.ofByte (fields.getD i.val 0)

/-- LOAD_KEYMAP (R30). -/
def loadKeymapOn (args : List Byte) (s : State) : State :=
  s.indexed 5 33 4 args fun m fields =>
    let stored := (keyMapOf fields).toList.map LogicalKey.code
    (s.setTables { s.tables with keyMaps := s.tables.keyMaps.set m (keyMapOf fields) }).answer 5
      (storedStatus fields stored) (byteOf m.val :: stored)

/-- LOAD_POLICY (R31). -/
def loadPolicyOn (args : List Byte) (s : State) : State :=
  s.indexed 6 4 4 args fun p fields =>
    s.valued 6 (Policy.ofBytes fields) fun r =>
      (s.setTables { s.tables with policies := s.tables.policies.set p r }).answer 6 (storedStatus fields r.bytes)
        (byteOf p.val :: r.bytes)

/-- LOAD_PROMPT (R32, R185): 1 to 41 argument bytes. -/
def loadPromptOn (args : List Byte) (s : State) : State :=
  s.indexed 8 (if args.length ≤ 41 then args.length else 1) 8 args fun p text =>
    (s.setTables { s.tables with prompts := s.tables.prompts.set p (text.map printable) }).answer 8
      (storedStatus text (text.map printable)) (byteOf p.val :: text.map printable)

/-! ### Service rings (R33) -/

/-- The slot numbers that bytes give, or the field position of the first byte above 15; the first byte is field
`position`. -/
def slotNumbers (position : Nat) : List Byte → FieldCheck (List SlotNo)
  | [] => .inr []
  | b :: rest =>
    (below position 16 b).andThen fun n => (slotNumbers (position + 1) rest).andThen fun ns => .inr (n :: ns)

/-- The count and the entries of LOAD_RING checked (R33, R185): the count is field 1, the entries fields 2 onward. -/
def ringFields (count : Byte) (entries : List Byte) : FieldCheck (List SlotNo) :=
  if 12 < count.toNat then .inl 1 else slotNumbers 2 entries

/-- The position from 1 of the first entry whose slot's current record is not on the line (R33). -/
def State.ringConflict (s : State) (l : Line) (ring : List SlotNo) : Option Nat :=
  (ring.findIdx? fun n => (s.record n).line != l).map (· + 1)

/-- The service ring of a line replaced. -/
def State.setRing (s : State) (l : Line) (ring : List SlotNo) : State :=
  s.setTables { s.tables with rings := s.tables.rings.set l ring }

/-- LOAD_RING for a line (R33, R90). -/
def State.loadRing (s : State) (l : Line) (count : Byte) (entries : List Byte) : State :=
  s.valued 7 (ringFields count entries) fun ring =>
    match s.ringConflict l ring with
    | some position => s.refuse 7 .conflict (byteOf position)
    | none => ((s.setRing l ring).ringLoaded l).answer 7 .done (lineCode l :: count :: entries)

/-- LOAD_RING (R33, R185). -/
def loadRingOn (args : List Byte) (s : State) : State :=
  match args with
  | line :: count :: entries =>
    if entries.length ≠ count.toNat then s.refuse 7 .badLength 0
    else
      match lineOfByte line with
      | none => s.refuse 7 .badIndex line
      | some l => s.loadRing l count entries
  | _ => s.refuse 7 .badLength 0

/-! ### The partition (R34) -/

/-- The field position of the first size below 2, if any; the first byte is field `position`. -/
def smallSize (position : Nat) : List Byte → Option Nat
  | [] => none
  | b :: rest => if b.toNat < 2 then some position else smallSize (position + 1) rest

/-- The value checks of LOAD_PARTITION (R34). -/
def partitionFields (fields : List Byte) : FieldCheck (Vector Nat 16) :=
  match smallSize 1 fields with
  | some position => .inl position
  | none =>
    if Config.granules < (fields.map BitVec.toNat).sum then .inl 0
    else .inr (Vector.ofFn fun i => (fields.getD i.val 0).toNat)

/-- Would the partition change a size of a lane that is not CLOSED, or of a queue that is not empty (R34)? -/
def State.partitionBusy (s : State) (sizes : Vector Nat 16) (k : LaneNo) : Bool :=
  let inChanges := sizes[inPlace k] != s.tables.partition[inPlace k]
  let outChanges := sizes[outPlace k] != s.tables.partition[outPlace k]
  (inChanges && (!s.laneClosed k || !(s.inQueue k).isEmpty)) ||
    (outChanges && (!s.laneClosed k || !(s.outQueue k).isEmpty))

/-- LOAD_PARTITION (R34). -/
def loadPartitionOn (args : List Byte) (s : State) : State :=
  if args.length ≠ 16 then s.refuse 9 .badLength 0
  else
    s.valued 9 (partitionFields args) fun sizes =>
      match allLanes.find? (s.partitionBusy sizes) with
      | some k => s.refuse 9 .laneBusy (byteOf k.val)
      | none => (s.setTables { s.tables with partition := sizes }).answer 9 .done args

/-! ### Link and line settings (R35, R36) -/

/-- SET_LINK (R35): stored now, in force from the closing delimiter of the reply (R19). -/
def setLinkOn (args : List Byte) (s : State) : State :=
  if args.length ≠ 3 then s.refuse 10 .badLength 0
  else
    s.valued 10 (LinkSettings.ofBytes args) fun r =>
      (s.setTables { s.tables with link := r }).answer 10 (storedStatus args r.bytes) r.bytes

/-- Line settings held until the line's next transmission (R36). -/
def State.setWaiting (s : State) (l : Line) (r : LineSettings) : State :=
  s.setTables { s.tables with lines := s.tables.lines.set l { s.tables.lines.get l with waiting := some r } }

/-- SET_LINE for a line (R36). -/
def State.setLine (s : State) (l : Line) (fields : List Byte) : State :=
  s.valued 11 (LineSettings.ofBytes fields) fun r =>
    (s.setWaiting l r).answer 11 (storedStatus fields r.bytes) (lineCode l :: r.bytes)

/-- SET_LINE (R36). -/
def setLineOn (args : List Byte) (s : State) : State :=
  match args with
  | [] => s.refuse 11 .badLength 0
  | line :: fields =>
    if fields.length ≠ 8 then s.refuse 11 .badLength 0
    else
      match lineOfByte line with
      | none => s.refuse 11 .badIndex line
      | some l => s.setLine l fields

/-! ### Status and counters (R37 to R39) -/

/-- The 24 values of READ_STATUS (R37). -/
def State.statusBytes (s : State) : List Byte :=
  allLanes.map (fun k => (s.lane k).phase.code) ++ allSlots.map fun n => (s.unit n).presence.code

/-- READ_STATUS (R37). -/
def readStatusOn (args : List Byte) (s : State) : State :=
  if args = [] then s.answer 12 .done s.statusBytes else s.refuse 12 .badLength 0

/-- Counter scopes (R38). -/
inductive Scope where
  | link
  | line (l : Line)
  | slot (n : SlotNo)
  | all
  deriving DecidableEq, Repr

/-- The scope a byte names, if any (section 11.6). -/
def Scope.ofByte (b : Byte) : Option Scope :=
  if b = 0 then some .link
  else if b = 1 then some (.line .a)
  else if b = 2 then some (.line .b)
  else if h : 0x10 ≤ b.toNat ∧ b.toNat < 0x20 then some (.slot ⟨b.toNat - 0x10, by omega⟩)
  else if b = 0xFF then some .all
  else none

/-- The counters in scope in the order of R38. -/
def State.counters (s : State) : Scope → List Word16
  | .link => s.link.counters.inOrder
  | .line l => (s.engine l).counters.inOrder
  | .slot n => (s.unit n).counters.inOrder
  | .all =>
    s.link.counters.inOrder ++ s.engines.a.counters.inOrder ++ s.engines.b.counters.inOrder ++
      allSlots.flatMap fun n => (s.unit n).counters.inOrder

/-- The link counters cleared. -/
def State.clearLinkCounters (s : State) : State := s.setLink { s.link with counters := {} }

/-- The line counters of a line cleared. -/
def State.clearLineCounters (s : State) (l : Line) : State := s.setEngine l { s.engine l with counters := {} }

/-- The slot counters of a slot cleared. -/
def State.clearSlotCounters (s : State) (n : SlotNo) : State := s.setUnit n { s.unit n with counters := {} }

/-- Every counter in scope set to 0 (R39). -/
def State.clearCounters (s : State) : Scope → State
  | .link => s.clearLinkCounters
  | .line l => s.clearLineCounters l
  | .slot n => s.clearSlotCounters n
  | .all =>
    allSlots.foldl State.clearSlotCounters ((s.clearLinkCounters.clearLineCounters .a).clearLineCounters .b)

/-- A request whose one argument is a counter scope (R38, R39). -/
def State.scoped (s : State) (code : Byte) (args : List Byte) (execute : Scope → State) : State :=
  match args with
  | [b] =>
    match Scope.ofByte b with
    | none => s.refuse code .badIndex b
    | some scope => execute scope
  | _ => s.refuse code .badLength 0

/-- READ_COUNTERS (R38). -/
def readCountersOn (args : List Byte) (s : State) : State :=
  s.scoped 13 args fun scope => s.answer 13 .done (counterBytes (s.counters scope))

/-- CLEAR_COUNTERS (R39). -/
def clearCountersOn (args : List Byte) (s : State) : State :=
  s.scoped 14 args fun scope => (s.clearCounters scope).answer 14 .done []

/-- SOFT_RESET (R40): DONE, and the soft reset pending. -/
def softResetOn (args : List Byte) (s : State) : State :=
  if args = [] then { s.answer 15 .done [] with softPending := true } else s.refuse 15 .badLength 0

end Sys2Proof.Machine
end

