-- ==== Sys2Proof/Machine/LinkFamily.lean ====
section
/-! DEFINITION. The meanings of the commands at the counter link: the hardware reset, characters and frames received,
the transmitter's closing delimiter, the silence timer. -/

namespace Sys2Proof.Machine

/-- A command is done: what its last moment made a candidate on an IDLE transmitter is selected (R13), and the part goes on. -/
def finish (s : State) : Host.Outcome State Fault Refusal := .next s.selectNew

/-- A good frame is done: one selection by rank (R9). -/
def finishFrame (s : State) : Host.Outcome State Fault Refusal := .next s.selectByRank

/-- HARDWARE_RESET (R20, R42): every block takes its reset state, and the first selection follows. -/
def execHardwareReset (s : State) : Host.Outcome State Fault Refusal := finishFrame s.hardwareReset

/-! ### Characters -/

/-- What the frame receiver makes of a character (R5 to R8): a frame that failed is counted, a good one is handled. -/
def State.frameEnded (s : State) : Option (RxFailure ⊕ GoodFrame) → State
  | none => s
  | some (.inl failure) => s.setLink { s.link with counters := s.link.counters.countFailure failure }
  | some (.inr good) => (s.dispatch good).selectByRank

/-- A character delivered to the frame receiver (R2, R6): `none` for one with a framing error. -/
def State.linkChar (s : State) (ch : Option Byte) : State :=
  let r := frameStep ⟨s.link.frameRx, s.link.content⟩ ch
  (s.setLink { s.link with
    rx := if ch.isSome then .atRest else .waitMark
    frameRx := r.after.state
    content := r.after.content }).frameEnded r.ended

/-- LINK_CHARACTER (R6): the stop bit is sampled, and the character is delivered. A receiver that waits for mark
delivers none (R2). -/
def execLinkCharacter (data : Byte) (stop : Bool) (s : State) : Host.Outcome State Fault Refusal :=
  finish (if s.link.rx = .waitMark then s else s.linkChar (if stop then some data else none))

/-- LINK_START_EDGE (R2): a start bit accepted, or a glitch counted, by a receiver at rest. -/
def execLinkStartEdge (accepted : Bool) (s : State) : Host.Outcome State Fault Refusal :=
  finish
    (if s.link.rx = .atRest then
      if accepted then s.setLink { s.link with rx := .inCharacter }
      else
        s.setLink { s.link with
          counters := { s.link.counters with rxGlitch := bump s.link.counters.rxGlitch } }
    else s)

/-- LRXD_AT_MARK (R2): a receiver that waits for mark is at rest again. -/
def execLrxdAtMark (s : State) : Host.Outcome State Fault Refusal :=
  finish (if s.link.rx = .waitMark then s.setLink { s.link with rx := .atRest } else s)

/-! ### Frames -/

/-- REQUEST (R11): a good REQUEST frame's closing delimiter. -/
def execRequest (body : List Byte) (s : State) : Host.Outcome State Fault Refusal :=
  finishFrame (s.frameClosed.requestFrame body)

/-- LANE_COMMANDS (R10): a good LANE_COMMANDS frame's closing delimiter; its body is parsed. -/
def execLaneCommands (lane : LaneNo) (body : List Byte) (s : State) : Host.Outcome State Fault Refusal :=
  finishFrame (s.frameClosed.laneFrame lane body)

/-- CLOSING_DELIMITER (R13): the frame in the transmit frame buffer has been sent. -/
def execClosingDelimiter (s : State) : Host.Outcome State Fault Refusal :=
  match s.link.tx with
  | .idle => finish s
  | .gathering => finish s
  | .sending f => finish (s.frameSent f)

/-- SILENCE_TIMER_EXPIRY (R16): the silence time has run on a LIVE link. -/
def execSilenceTimerExpiry (s : State) : Host.Outcome State Fault Refusal :=
  finish (if s.silenceRuns then s.goQuiet else s)

end Sys2Proof.Machine
end

