-- ==== Sys2Proof/Machine/LaneFamily.lean ====
section
/-! DEFINITION. The meanings of the lane commands, each the closing delimiter of a good LANE_COMMANDS frame whose first
command it is (R134, log entry 8), and of the decision timer's expiry. -/

namespace Sys2Proof.Machine

/-- A good LANE_COMMANDS frame whose first command is `cmd`: the frame is closed, the command is performed, the rest of
the body is parsed, and one selection follows (R9, R134). -/
def laneCommand (lane : LaneNo) (cmd : LaneCmd) (rest : List Byte) (s : State) : Host.Outcome State Fault Refusal :=
  finishFrame (s.frameClosed.commandFrame lane cmd rest)

/-- OPEN (R140). -/
def execOpenLane (lane : LaneNo) (tag : Word16) (rest : List Byte) (s : State) : Host.Outcome State Fault Refusal :=
  laneCommand lane (.openLane tag) rest s

/-- CLOSE (R142). -/
def execCloseLane (lane : LaneNo) (rest : List Byte) (s : State) : Host.Outcome State Fault Refusal :=
  laneCommand lane .close rest s

/-- CLEAR (R145). -/
def execClearLane (lane : LaneNo) (rest : List Byte) (s : State) : Host.Outcome State Fault Refusal :=
  laneCommand lane .clear rest s

/-- SHOW (R136, R137). -/
def execShowText (lane : LaneNo) (row report : Byte) (text rest : List Byte) (s : State) :
    Host.Outcome State Fault Refusal :=
  laneCommand lane (.showText row report text) rest s

/-- TONE (R136, R137). -/
def execTone (lane : LaneNo) (pattern report : Byte) (rest : List Byte) (s : State) : Host.Outcome State Fault Refusal :=
  laneCommand lane (.tone pattern report) rest s

/-- READER (R137). -/
def execReader (lane : LaneNo) (onOff report : Byte) (rest : List Byte) (s : State) : Host.Outcome State Fault Refusal :=
  laneCommand lane (.reader onOff report) rest s

/-- ENTRY (R136, R137). -/
def execEntry (lane : LaneNo) (count dot echo chain report : Byte) (rest : List Byte) (s : State) :
    Host.Outcome State Fault Refusal :=
  laneCommand lane (.entry count dot echo chain report) rest s

/-- PIN (R136, R137). -/
def execPin (lane : LaneNo) (min max chain report : Byte) (rest : List Byte) (s : State) :
    Host.Outcome State Fault Refusal :=
  laneCommand lane (.pin min max chain report) rest s

/-- UNLOCK (R137). -/
def execUnlock (lane : LaneNo) (report : Byte) (rest : List Byte) (s : State) : Host.Outcome State Fault Refusal :=
  laneCommand lane (.unlock report) rest s

/-- DECIDE (R178). -/
def execDecideCard (lane : LaneNo) (choice : Byte) (rest : List Byte) (s : State) : Host.Outcome State Fault Refusal :=
  laneCommand lane (.decideCard choice) rest s

/-- The timer of a lane's decision expires (R177): RETURN, cause TIMER. -/
def State.decisionExpires (s : State) (k : LaneNo) : State :=
  match (s.lane k).decision with
  | none => s
  | some d => s.resolveDecision k d false 2

/-- DECISION_TIMER_EXPIRY (R177). -/
def execDecisionTimerExpiry (lane : LaneNo) (s : State) : Host.Outcome State Fault Refusal :=
  finish (s.decisionExpires lane)

end Sys2Proof.Machine
end

