-- ==== Sys2Proof/Machine/LineFamily.lean ====
section
/-! DEFINITION. The meanings of the commands at a drop line: what the engine begins, what it receives, and the ends of
its intervals. A command whose moment it is not leaves the line as it is (log entry 4). -/

namespace Sys2Proof.Machine

/-- An event at a line is done: the receiver and the watchdog follow (R50, R56), then the selection (R13). -/
def finishLine (l : Line) (s : State) : Host.Outcome State Fault Refusal := finish (s.refresh l)

/-! ### Transmissions -/

/-- May the engine begin a telegram now: the line is ready, and a telegram is due or waits to be repeated (R53, R55)? -/
def State.telegramDue (s : State) (l : Line) : Bool :=
  let e := s.engine l
  e.ready && e.xstate == .paused && (e.exchange.isSome || (e.probe.isNone && (e.due == some .entry || e.due == some .run)))

/-- May the engine begin a probe now? -/
def State.probeDue (s : State) (l : Line) : Bool :=
  let e := s.engine l
  e.ready && e.xstate == .paused && e.exchange.isNone && (e.probe.isSome || e.due == some .probe)

/-- A first transmission of what is due, or a repeat of what conflicted (R53, R64). -/
def State.sendTelegram (s : State) (l : Line) : State :=
  if (s.engine l).exchange.isSome then s.beginAgain l else s.beginTelegram l

/-- A first transmission of a probe, or a repeat (R53, R92). -/
def State.sendProbe (s : State) (l : Line) : State :=
  if (s.engine l).probe.isSome then s.beginAgain l else s.beginProbe l

/-- TELEGRAM (R64). -/
def execTelegram (l : Line) (s : State) : Host.Outcome State Fault Refusal :=
  if (s.wakeEngine l).telegramDue l then finishLine l ((s.wakeEngine l).sendTelegram l) else finish s

/-- SWEEP (R92). -/
def execSweep (l : Line) (s : State) : Host.Outcome State Fault Refusal :=
  if (s.wakeEngine l).probeDue l then finishLine l ((s.wakeEngine l).sendProbe l) else finish s

/-- The counters after a completed transmission (R47). -/
def Engine.countSent (e : Engine) : LineCounters :=
  match e.exchange, e.probe with
  | some _, _ => { e.counters with telegrams := bump e.counters.telegrams }
  | none, some _ => { e.counters with probes := bump e.counters.probes }
  | none, none => e.counters

/-- A transmission completes, every read-back having passed: the driver is lowered and the reply period begins (R47, R52,
R66, R85). A receiver inside a character stays there until it delivers it (R48, log entry 22). -/
def State.sendingDone (s : State) (l : Line) : State :=
  s.setEngine l { s.engine l with
    driver := false
    xstate := .await
    received := []
    answers := []
    counters := (s.engine l).countSent }

/-- TRANSMISSION_COMPLETE (R47). -/
def execTransmissionComplete (l : Line) (s : State) : Host.Outcome State Fault Refusal :=
  if (s.engine l).xstate = .sending then finishLine l (s.sendingDone l) else finish s

/-- Is the read-back of a character being sent a conflict (R52)? -/
def State.conflicts (s : State) (l : Line) (index : Nat) (readBack : Option Sampled) : Bool :=
  let e := s.engine l
  e.xstate == .sending &&
    match e.sent[index]? with
    | none => false
    | some b => !e.tuned.readBackPasses b readBack

/-- ECHO_CONFLICT (R52). -/
def execEchoConflict (l : Line) (index : Nat) (readBack : Option Sampled) (s : State) :
    Host.Outcome State Fault Refusal :=
  if s.conflicts l index readBack then finishLine l ((s.countConflict l readBack).afterConflict l) else finish s

/-! ### Reply periods -/

/-- NO_REPLY (R66): the reply window of the exchange has run out without an accepted start bit. -/
def execNoReply (l : Line) (s : State) : Host.Outcome State Fault Refusal :=
  match (s.engine l).xstate, (s.engine l).exchange with
  | .await, some x => finishLine l (s.endExchange l x .noReply .guarding)
  | _, _ => finish s

/-- Does a character delivered now go to an exchange (R51)? -/
def Destination.isExchange : Destination → Bool
  | .exchange _ => true
  | .probe _ => false
  | .echo => false
  | .stray => false
  | .nowhere => false

/-- Does a character delivered now go to the sweep (R51)? -/
def Destination.isProbe : Destination → Bool
  | .probe _ => true
  | .exchange _ => false
  | .echo => false
  | .stray => false
  | .nowhere => false

/-- REPLY_CHARACTER (R67). -/
def execReplyCharacter (l : Line) (ch : Sampled) (s : State) : Host.Outcome State Fault Refusal :=
  if (s.engine l).destination.isExchange then finishLine l (s.deliver l ch) else finish s

/-- A run of characters delivered one after another. -/
def State.deliverRun (s : State) (l : Line) (chars : List Sampled) : State :=
  chars.foldl (fun s ch => (s.deliver l ch).refresh l) s

/-- REPLY (R71): the characters that complete the reply. -/
def execReply (l : Line) (chars : List Sampled) (s : State) : Host.Outcome State Fault Refusal :=
  if (s.engine l).destination.isExchange then finish (s.deliverRun l chars) else finish s

/-- TRUNCATED (R68): the gap limit has run out without an accepted start bit. -/
def execTruncated (l : Line) (s : State) : Host.Outcome State Fault Refusal :=
  match (s.engine l).xstate, (s.engine l).exchange with
  | .receiving, some x =>
    if (s.engine l).rx.inside then finish s else finishLine l (s.endExchange l x .truncated .guarding)
  | _, _ => finish s

/-- SWEEP_REPLY_WINDOW (R85): the sweep reply window has run out without an accepted start bit. -/
def execSweepReplyWindow (l : Line) (s : State) : Host.Outcome State Fault Refusal :=
  match (s.engine l).xstate, (s.engine l).exchange, (s.engine l).probe with
  | .await, none, some p => finishLine l (s.endProbe l p [])
  | _, _, _ => finish s

/-- SWEEP_ANSWER_CHARACTER (R85). -/
def execSweepAnswerCharacter (l : Line) (ch : Sampled) (s : State) : Host.Outcome State Fault Refusal :=
  if (s.engine l).destination.isProbe then finishLine l (s.deliver l ch) else finish s

/-- SWEEP_GAP (R85): the gap has run out without an accepted start bit. -/
def execSweepGap (l : Line) (s : State) : Host.Outcome State Fault Refusal :=
  match (s.engine l).xstate, (s.engine l).exchange, (s.engine l).probe with
  | .receiving, none, some p =>
    if (s.engine l).rx.inside then finish s else finishLine l (s.endProbe l p (s.engine l).answers)
  | _, _, _ => finish s

/-! ### Between transmissions -/

/-- GUARD_RUNS_OUT (R70). -/
def execGuardRunsOut (l : Line) (s : State) : Host.Outcome State Fault Refusal :=
  if (s.engine l).xstate = .guarding then
    finishLine l ((s.setEngine l { s.engine l with xstate := .idle }).advance l)
  else finish s

/-- PASS_BEGINS (R89): at a tick, for an engine that waits for one; also the first pass of an engine whose line has
become ready (log entry 13). -/
def execPassBegins (l : Line) (s : State) : Host.Outcome State Fault Refusal :=
  if (s.engine l).stage = .tickWait then finishLine l (s.beginPass l)
  else if (s.engine l).stage = .toBegin ∧ (s.engine l).ready = true then finishLine l (s.beginPass l)
  else finish s

/-- Is a character delivered now one that belongs to no reply and no answer: stray, or accepted with the driver high (R51)?
None is delivered in break (R49). -/
def Engine.delivers (e : Engine) : Bool :=
  match e.destination with
  | .stray => true
  | .echo => true
  | .nowhere => e.rx != .inBreak
  | .exchange _ => false
  | .probe _ => false

/-- STRAY_CHARACTER (R51): also the delivery of a character whose start bit was accepted with the driver high, which goes to
the echo check and to no other destination (log entry 22). -/
def execStrayCharacter (l : Line) (ch : Sampled) (s : State) : Host.Outcome State Fault Refusal :=
  if (s.engine l).delivers then finishLine l (s.deliver l ch) else finish s

/-- CHATTER_INTERVAL_ENDS (R54). -/
def execChatterIntervalEnds (l : Line) (s : State) : Host.Outcome State Fault Refusal :=
  if (s.engine l).chatter then finishLine l (s.setEngine l { s.engine l with chatter := false }) else finish s

/-- BREAK_ENDS (R49): a receiver in break sees the line at mark. -/
def execBreakEnds (l : Line) (s : State) : Host.Outcome State Fault Refusal :=
  if (s.engine l).rx = .inBreak then finishLine l (s.setEngine l { s.engine l with rx := .atRest }) else finish s

/-- LINE_WATCHDOG (R57): the line has stayed unsettled for the stuck limit. -/
def execLineWatchdog (l : Line) (s : State) : Host.Outcome State Fault Refusal :=
  if (s.engine l).unsettled then finishLine l (s.watchdogExpires l) else finish s

/-- A start edge judged half a bit later by a receiver at rest (R48): a glitch, or an accepted start bit, which meets a
reply window or a gap limit in a reply period (R66, R68). -/
def State.startEdge (s : State) (l : Line) (accepted : Bool) : State :=
  let e := s.engine l
  if accepted then
    s.setEngine l { e with
      rx := .inCharacter (if e.driver then .echo else if e.xstate.replyPeriod then .reply else .stray)
      xstate := if e.driver = false ∧ e.xstate = .await then .receiving else e.xstate }
  else if e.driver then s
  else s.setEngine l { e with counters := { e.counters with glitches := bump e.counters.glitches } }

/-- START_EDGE (R48). -/
def execStartEdge (l : Line) (accepted : Bool) (s : State) : Host.Outcome State Fault Refusal :=
  if (s.engine l).rx = .atRest then finishLine l (s.startEdge l accepted) else finish s

end Sys2Proof.Machine
end

