-- ==== Sys2Proof/Machine/RequestFamily.lean ====
section
/-! DEFINITION. The meanings of the management requests: MGU takes the latched request of that code (R22, log entry
12). -/

namespace Sys2Proof.Machine

/-- LOAD_UNIT (R25 to R28). -/
def execLoadUnit (s : State) : Host.Outcome State Fault Refusal := finish (s.takeRequest 1 loadUnitOn)

/-- READ_UNIT (R25). -/
def execReadUnit (s : State) : Host.Outcome State Fault Refusal := finish (s.takeRequest 2 readUnitOn)

/-- LOAD_LANE (R29). -/
def execLoadLane (s : State) : Host.Outcome State Fault Refusal := finish (s.takeRequest 3 loadLaneOn)

/-- READ_LANE (R29). -/
def execReadLane (s : State) : Host.Outcome State Fault Refusal := finish (s.takeRequest 4 readLaneOn)

/-- LOAD_KEYMAP (R30). -/
def execLoadKeymap (s : State) : Host.Outcome State Fault Refusal := finish (s.takeRequest 5 loadKeymapOn)

/-- LOAD_POLICY (R31). -/
def execLoadPolicy (s : State) : Host.Outcome State Fault Refusal := finish (s.takeRequest 6 loadPolicyOn)

/-- LOAD_RING (R33, R90). -/
def execLoadRing (s : State) : Host.Outcome State Fault Refusal := finish (s.takeRequest 7 loadRingOn)

/-- LOAD_PROMPT (R32). -/
def execLoadPrompt (s : State) : Host.Outcome State Fault Refusal := finish (s.takeRequest 8 loadPromptOn)

/-- LOAD_PARTITION (R34). -/
def execLoadPartition (s : State) : Host.Outcome State Fault Refusal := finish (s.takeRequest 9 loadPartitionOn)

/-- SET_LINK (R35). -/
def execSetLink (s : State) : Host.Outcome State Fault Refusal := finish (s.takeRequest 10 setLinkOn)

/-- SET_LINE (R36). -/
def execSetLine (s : State) : Host.Outcome State Fault Refusal := finish (s.takeRequest 11 setLineOn)

/-- READ_STATUS (R37). -/
def execReadStatus (s : State) : Host.Outcome State Fault Refusal := finish (s.takeRequest 12 readStatusOn)

/-- READ_COUNTERS (R38). -/
def execReadCounters (s : State) : Host.Outcome State Fault Refusal := finish (s.takeRequest 13 readCountersOn)

/-- CLEAR_COUNTERS (R39). -/
def execClearCounters (s : State) : Host.Outcome State Fault Refusal := finish (s.takeRequest 14 clearCountersOn)

/-- SOFT_RESET (R40). -/
def execSoftReset (s : State) : Host.Outcome State Fault Refusal := finish (s.takeRequest 15 softResetOn)

/-- UNKNOWN (R23): a latched request with an unknown code or an empty body. -/
def execUnknownRequest (s : State) : Host.Outcome State Fault Refusal := finish s.takeUnknown

end Sys2Proof.Machine
end

