-- ==== Sys2Proof/Machine/Dispatch.lean ====
section
/-! DEFINITION. Every command and its meaning. -/

namespace Sys2Proof.Machine

def exec (i : Instr) (s : State) : Host.Outcome State Fault Refusal :=
  match i with
  | .hardwareReset => Sys2Proof.Machine.execHardwareReset s
  | .linkCharacter data stop => Sys2Proof.Machine.execLinkCharacter data stop s
  | .request body => Sys2Proof.Machine.execRequest body s
  | .laneCommands lane body => Sys2Proof.Machine.execLaneCommands lane body s
  | .openLane lane tag rest => Sys2Proof.Machine.execOpenLane lane tag rest s
  | .closeLane lane rest => Sys2Proof.Machine.execCloseLane lane rest s
  | .clearLane lane rest => Sys2Proof.Machine.execClearLane lane rest s
  | .showText lane row report text rest => Sys2Proof.Machine.execShowText lane row report text rest s
  | .tone lane pattern report rest => Sys2Proof.Machine.execTone lane pattern report rest s
  | .reader lane onOff report rest => Sys2Proof.Machine.execReader lane onOff report rest s
  | .entry lane count dot echo chain report rest => Sys2Proof.Machine.execEntry lane count dot echo chain report rest s
  | .pin lane min max chain report rest => Sys2Proof.Machine.execPin lane min max chain report rest s
  | .unlock lane report rest => Sys2Proof.Machine.execUnlock lane report rest s
  | .decideCard lane choice rest => Sys2Proof.Machine.execDecideCard lane choice rest s
  | .loadUnit => Sys2Proof.Machine.execLoadUnit s
  | .readUnit => Sys2Proof.Machine.execReadUnit s
  | .loadLane => Sys2Proof.Machine.execLoadLane s
  | .readLane => Sys2Proof.Machine.execReadLane s
  | .loadKeymap => Sys2Proof.Machine.execLoadKeymap s
  | .loadPolicy => Sys2Proof.Machine.execLoadPolicy s
  | .loadPrompt => Sys2Proof.Machine.execLoadPrompt s
  | .loadRing => Sys2Proof.Machine.execLoadRing s
  | .loadPartition => Sys2Proof.Machine.execLoadPartition s
  | .setLink => Sys2Proof.Machine.execSetLink s
  | .setLine => Sys2Proof.Machine.execSetLine s
  | .readStatus => Sys2Proof.Machine.execReadStatus s
  | .readCounters => Sys2Proof.Machine.execReadCounters s
  | .clearCounters => Sys2Proof.Machine.execClearCounters s
  | .softReset => Sys2Proof.Machine.execSoftReset s
  | .unknownRequest => Sys2Proof.Machine.execUnknownRequest s
  | .closingDelimiter => Sys2Proof.Machine.execClosingDelimiter s
  | .silenceTimerExpiry => Sys2Proof.Machine.execSilenceTimerExpiry s
  | .telegram line => Sys2Proof.Machine.execTelegram line s
  | .sweep line => Sys2Proof.Machine.execSweep line s
  | .transmissionComplete line => Sys2Proof.Machine.execTransmissionComplete line s
  | .echoConflict line index readBack => Sys2Proof.Machine.execEchoConflict line index readBack s
  | .noReply line => Sys2Proof.Machine.execNoReply line s
  | .replyCharacter line char => Sys2Proof.Machine.execReplyCharacter line char s
  | .reply line chars => Sys2Proof.Machine.execReply line chars s
  | .truncated line => Sys2Proof.Machine.execTruncated line s
  | .guardRunsOut line => Sys2Proof.Machine.execGuardRunsOut line s
  | .passBegins line => Sys2Proof.Machine.execPassBegins line s
  | .sweepReplyWindow line => Sys2Proof.Machine.execSweepReplyWindow line s
  | .sweepAnswerCharacter line char => Sys2Proof.Machine.execSweepAnswerCharacter line char s
  | .sweepGap line => Sys2Proof.Machine.execSweepGap line s
  | .strayCharacter line char => Sys2Proof.Machine.execStrayCharacter line char s
  | .chatterIntervalEnds line => Sys2Proof.Machine.execChatterIntervalEnds line s
  | .breakEnds line => Sys2Proof.Machine.execBreakEnds line s
  | .lineWatchdog line => Sys2Proof.Machine.execLineWatchdog line s
  | .decisionTimerExpiry lane => Sys2Proof.Machine.execDecisionTimerExpiry lane s
  | .linkStartEdge accepted => Sys2Proof.Machine.execLinkStartEdge accepted s
  | .lrxdAtMark => Sys2Proof.Machine.execLrxdAtMark s
  | .startEdge line accepted => Sys2Proof.Machine.execStartEdge line accepted s

end Sys2Proof.Machine
end

