-- ==== Sys2Proof/Machine/Ticks.lean ====
section
/-! DEFINITION. One tick of the millisecond timebase: what a step does on an empty queue (log entry 2). Every millisecond
counter counts (R16, R56, R177), and what has expired is taken in an order the manual leaves open (log entry 3). -/

namespace Sys2Proof.Machine

/-! ### Counting -/

/-- The silence timer counts one (R16). -/
def State.countSilence (s : State) : State :=
  if s.silenceRuns then s.setLink { s.link with silenceCount := s.link.silenceCount + 1 } else s

/-- The decision timer of a lane falls by one (R177). -/
def LaneRecord.countDecision (r : LaneRecord) : LaneRecord :=
  { r with decision := r.decision.map fun d => { d with ms := d.ms - 1 } }

/-- The watchdog counter of an unsettled line counts one (R56). -/
def Engine.countWatchdog (e : Engine) : Engine := if e.unsettled then { e with watchdog := e.watchdog + 1 } else e

/-- Every millisecond counter counts one. -/
def State.countTick (s : State) : State :=
  let s := s.countSilence
  { s with
    lanes := s.lanes.map LaneRecord.countDecision
    engines := ⟨s.engines.a.countWatchdog, s.engines.b.countWatchdog⟩ }

/-! ### Expiries -/

/-- What may come at a tick. -/
inductive TickEvent where
  | silence
  | decision (lane : LaneNo)
  | watchdog (line : Line)
  | pass (line : Line)
  deriving DecidableEq, Repr

/-- Has a decision's timer reached 0 (R177)? -/
def State.decisionOver (s : State) (k : LaneNo) : Bool :=
  match (s.lane k).decision with
  | none => false
  | some d => d.ms == 0

/-- Does an event come now (R16, R57, R89, R177)? -/
def State.comes (s : State) : TickEvent → Bool
  | .silence => s.silenceRuns && decide (s.link.inForce.silence.val * 1000 ≤ s.link.silenceCount)
  | .decision k => s.decisionOver k
  | .watchdog l => (s.engine l).unsettled && decide ((s.lineInForce l).stuckLimit.val ≤ (s.engine l).watchdog)
  | .pass l => (s.engine l).stage == .tickWait

/-- Every event that can come at a tick. -/
def tickEvents : List TickEvent :=
  .silence :: .watchdog .a :: .watchdog .b :: .pass .a :: .pass .b :: allLanes.map .decision

/-- The watchdog of a line expires at a tick, and with it that of the other line where that comes too: they expire at the
same moment (R57). -/
def State.watchdogTick (s : State) (l : Line) : State :=
  if s.comes (.watchdog (otherLine l)) then ((s.bothWatchdogsExpire l).refresh l).refresh (otherLine l)
  else (s.watchdogExpires l).refresh l

/-- What an event does, if it still comes. A selection follows it on an IDLE transmitter before the next event of the tick
(R13). -/
def State.tickEvent (s : State) (e : TickEvent) : State :=
  if s.comes e then
    (match e with
    | .silence => s.goQuiet
    | .decision k => s.decisionExpires k
    | .watchdog l => s.watchdogTick l
    | .pass l => (s.beginPass l).refresh l).selectNew
  else s

/-- Is an event taken together with another one? The two watchdogs are (R57). -/
def TickEvent.takes : TickEvent → TickEvent → Bool
  | .watchdog _, .watchdog _ => true
  | _, _ => false

/-- The place of the event taken next: the only one, or a free choice among several (log entry 3). -/
def State.nextPlace (s : State) (n : Nat) : Nat := if n ≤ 1 then 0 else Config.freeChoice s.choices % n

/-- The count of free choices after that choice. -/
def State.countChoice (s : State) (n : Nat) : State := if n ≤ 1 then s else { s with choices := s.choices + 1 }

/-- The events of one tick taken one after another, in an order left open; both watchdogs are one moment (R57). -/
def State.takeEvents (s : State) : Nat → List TickEvent → State
  | 0, _ => s
  | fuel + 1, events =>
    match events[s.nextPlace events.length]? with
    | none => s
    | some e =>
      ((s.countChoice events.length).tickEvent e).takeEvents fuel
        ((events.eraseIdx (s.nextPlace events.length)).filter fun m => !e.takes m)

/-- One tick of the millisecond timebase. -/
def State.tick (s : State) : State :=
  let s := s.countTick
  let events := tickEvents.filter s.comes
  (s.takeEvents events.length events).selectNew

end Sys2Proof.Machine
end

