-- ==== Sys2Proof/Safety.lean ====
section
/-! DEFINITION. What holds of the part between any two commands of a run, in the terms the claims use. -/

namespace Sys2Proof.Machine

/-! ### The transmitter and the queues -/

/-- An IDLE transmitter leaves no source with something to send (R13). -/
abbrev State.Settled (s : State) : Prop := s.link.tx = .idle → s.candidates = []

/-- No selection is held back for the steps of R9: that ends with the frame (R9). -/
abbrev State.NotGathering (s : State) : Prop := s.link.tx ≠ .gathering

/-- At most one lane has its penalty flag set, and its inbound queue holds a record (R15). -/
abbrev State.PenaltyOk (s : State) : Prop :=
  (∀ j k : LaneNo, s.link.penalty[j] = true → s.link.penalty[k] = true → j = k) ∧
    ∀ k : LaneNo, s.link.penalty[k] = true → s.inQueue k ≠ []

/-- No queue holds more bytes than its capacity, no queue has fewer than 2 granules, and all of them together have at
most 128 (R34, R120, R123). -/
abbrev State.QueuesOk (s : State) : Prop :=
  (∀ k : LaneNo, s.inOccupancy k ≤ s.inCapacity k ∧ s.outOccupancy k ≤ s.outCapacity k) ∧
    (∀ q : Fin 16, 2 ≤ s.tables.partition[q]) ∧ s.tables.partition.toList.sum ≤ Config.granules

/-! ### Lanes (R133, R140 to R144) -/

/-- A lane record agrees with its phase: tag 0 exactly in CLOSED; window, assembly and decision only in OPEN; standby
only in OPENING and OPEN; the PIN shadow only in OPEN; OPENING exactly while a wake mark is not woken; CLOSING exactly
while a close confirmation waits. -/
abbrev LaneRecord.Ok (r : LaneRecord) : Prop :=
  (r.tag = 0 ↔ r.phase = .closed) ∧
    (r.phase ≠ .opened → r.window = none ∧ r.assembly = none ∧ r.decision = none ∧ r.pinShadow = false) ∧
    (r.standby = true → r.phase = .opening ∨ r.phase = .opened) ∧
    (r.phase = .opening ↔ r.wakeMarks.any (fun m => !m.2) = true) ∧
    (r.phase = .closing ↔ r.confirms.any (fun c => c.2.waits) = true)

/-- Every lane record agrees with its phase. -/
abbrev State.LanesOk (s : State) : Prop := ∀ k : LaneNo, (s.lane k).Ok

/-! ### Slots (R26, R27, R104 to R109, R113) -/

/-- Attempt counts below 8, EJECT and KEEP never together, REST with neither WAKE nor STANDBY (R81, R113). -/
abbrev Directives.Ok (d : Directives) : Prop :=
  (d.eject = none ∨ d.keep = none) ∧ (d.rest = none ∨ (d.wake = none ∧ d.standby = none)) ∧
    ∀ p ∈ d.eject.toList ++ d.keep.toList ++ d.standby.toList ++ d.rest.toList ++ d.wake.toList,
      p.attempts < Config.maxAttempts

/-- A runtime record agrees with its presence: the fail count is 1 or 2 exactly in FALTERING, the confirm count is at
most 1 and 0 outside SEEKING, LOST slots are returning and only SEEKING and LOST slots are. -/
abbrev UnitRun.Ok (u : UnitRun) : Prop :=
  (u.fail ≤ 2 ∧ (u.fail ≠ 0 ↔ u.presence = .faltering)) ∧
    (u.confirm ≤ 1 ∧ (u.confirm ≠ 0 → u.presence = .seeking)) ∧
    (u.presence = .lost → u.returning = true) ∧
    (u.returning = true → u.presence = .seeking ∨ u.presence = .lost) ∧
    u.headAttempts < Config.maxAttempts ∧ u.directives.Ok

/-- Every directive in a set and every record in an outbound queue was numbered before the next serial number (log entry
19). -/
abbrev State.SerialsOk (s : State) : Prop :=
  (∀ (n : SlotNo) (d : Directive), ∀ p ∈ ((s.unit n).directives.get d).toList, p.serial < s.serial) ∧
    ∀ k : LaneNo, ∀ r ∈ s.outQueue k, r.serial < s.serial

/-- Every runtime record agrees with its presence, and DISABLED is the presence of the slots not enabled (R102). -/
abbrev State.UnitsOk (s : State) : Prop :=
  ∀ n : SlotNo, (s.unit n).Ok ∧ ((s.unit n).presence = .disabled ↔ (s.record n).enabled = false)

/-- The constraints of R26 among the records of two slots. -/
abbrev State.PairOk (s : State) (m n : SlotNo) : Prop :=
  sameAddress (s.effective m) (s.effective n) = false ∧
    ∀ a ∈ s.bothRecords m, ∀ b ∈ s.bothRecords n, sameRole a b = false

/-- The enabled slots of a line among the effective records (R26). -/
def State.lineSlots (s : State) (l : Line) : List SlotNo :=
  allSlots.filter fun n => (s.effective n).enabled && (s.effective n).line == l

/-- The unit table keeps the constraints of R26, and no staged record waits whose moment has come (R27). -/
abbrev State.TableOk (s : State) : Prop :=
  (∀ m n : SlotNo, m ≠ n → s.PairOk m n) ∧ (s.lineSlots .a).length ≤ 8 ∧ (s.lineSlots .b).length ≤ 8 ∧
    ∀ n : SlotNo, ∀ r ∈ (s.staged n).toList, (s.currentLane n).isSome = true ∧ s.stagedDue n r = false

/-! ### Drop lines (R47, R53, R65, R91) -/

/-- The engine's state agrees with its exchange state: the driver is high exactly in SENDING; something is due, or begun,
exactly as R65's table has it; no confirmation run before the first pass after a reset (R58, R101); fewer than 4 conflicts. -/
abbrev Engine.WorkOk (e : Engine) : Prop :=
  (e.driver = true ↔ e.xstate = .sending) ∧
    (e.due.isSome = true → e.xstate = .paused ∧ e.exchange = none ∧ e.probe = none) ∧
    (e.exchange = none ∨ e.probe = none) ∧
    ((e.exchange.isSome || e.probe.isSome) = true → e.xstate ≠ .idle ∧ e.xstate ≠ .guarding) ∧
    (e.xstate.active = true → (e.exchange.isSome || e.probe.isSome) = true) ∧
    (e.xstate = .paused → (e.due.isSome || e.exchange.isSome || e.probe.isSome) = true) ∧
    (e.stage = .tickWait → e.xstate = .idle) ∧
    (e.stage = .toBegin → (e.xstate = .idle ∨ e.xstate = .guarding) ∧ e.run = none) ∧
    (e.due = some .run → e.run.isSome = true) ∧ e.conflicts < Config.conflictLimit

/-- How many halvings of `lo` to `hi` lead to the range `r`; none where no halving does (R91). -/
def halvings : Nat → Nat → Nat → AddrRange → Option Nat
  | 0, _, _, _ => none
  | fuel + 1, lo, hi, r =>
    if r = ⟨lo, hi⟩ then some 0
    else if r.hi ≤ (lo + hi) / 2 then (halvings fuel lo ((lo + hi) / 2) r).map (· + 1)
    else (halvings fuel ((lo + hi) / 2 + 1) hi r).map (· + 1)

/-- The depth of a range made from [1,31] by halving; 6 for any other range. -/
def AddrRange.depth (r : AddrRange) : Nat := (halvings 6 1 31 r).getD 6

/-- The range of the probe in progress, then the ranges on the stack from its top. -/
def Engine.ranges (e : Engine) : List AddrRange := (e.probe.map Probe.range).toList ++ e.stack

/-- The ranges of a search: each made from [1,31] by halving, no two sharing an address, each deeper than those beneath
it, but that the two on top may be equally deep (R91). -/
abbrev SearchOk (rs : List AddrRange) : Prop :=
  (∀ r ∈ rs, r.lo ≤ r.hi ∧ r.depth < 6) ∧
    rs.Pairwise (fun a b => a.hi < b.lo ∨ b.hi < a.lo) ∧
    rs.Pairwise (fun a b => b.depth ≤ a.depth) ∧ rs.tail.Pairwise (fun a b => b.depth < a.depth)

/-- Both engines are in order. -/
abbrev State.EnginesOk (s : State) : Prop := ∀ l ∈ [Line.a, Line.b], (s.engine l).WorkOk ∧ SearchOk (s.engine l).ranges

/-! ### Words for statements -/

/-- The row of the table that a lane command's frame is, where the body goes on with `rest` (log entry 8). -/
def LaneCmd.row (k : LaneNo) (rest : List Byte) : LaneCmd → Instr
  | .openLane tag => .openLane k tag rest
  | .close => .closeLane k rest
  | .clear => .clearLane k rest
  | .showText row report text => .showText k row report text rest
  | .tone pattern report => .tone k pattern report rest
  | .reader onOff report => .reader k onOff report rest
  | .entry count dot echo chain report => .entry k count dot echo chain report rest
  | .pin min max chain report => .pin k min max chain report rest
  | .unlock report => .unlock k report rest
  | .decideCard choice => .decideCard k choice rest

/-- A SHOW text is at most 20 characters long (R134); nothing else bounds a command's arguments. -/
def LaneCmd.fits : LaneCmd → Bool
  | .showText _ _ text => decide (text.length ≤ 20)
  | _ => true

/-- The command that an expiry at a tick is (log entry 2). -/
def TickEvent.command : TickEvent → Instr
  | .silence => .silenceTimerExpiry
  | .decision k => .decisionTimerExpiry k
  | .watchdog l => .lineWatchdog l
  | .pass l => .passBegins l

/-- The part after a good frame on a LIVE link, before its dispatch (R2, R6, R9): the selection waits for the four steps. -/
def State.framed (s : State) : State :=
  { s with
    link := { s.link with
      rx := .atRest, frameRx := .collect, content := [], tx := s.link.tx.gather, silenceCount := 0
      counters := { s.link.counters with rxGood := bump s.link.counters.rxGood } } }

/-- Lane `k` of `s`, which holds no decision, made FAULTED for the reason of a code, with LANE_FAULT raised (R146). -/
def State.faultedFor (s : State) (k : LaneNo) (code : Byte) : State :=
  { s with
    lanes := s.lanes.set k
      { s.lane k with
        phase := .faulted, standby := false, wakeMarks := [], confirms := [], window := none, assembly := none
        decision := none, pinShadow := false
        alerts := (s.lane k).alerts.set 7 (some (raisedEntry (s.lane k).alerts[7] code 0)) } }

/-- Lane `k` of `s` with a kind of alert, given by its place from 0, raised with two detail bytes (R139). -/
def State.alerted (s : State) (k : LaneNo) (kind : Fin 8) (d1 d2 : Byte) : State :=
  { s with
    lanes := s.lanes.set k
      { s.lane k with alerts := (s.lane k).alerts.set kind (some (raisedEntry (s.lane k).alerts[kind] d1 d2)) } }

/-- Does the lane wait for the close confirmation of a slot other than `n` (R143, R144)? -/
abbrev LaneRecord.WaitsForOther (r : LaneRecord) (n : SlotNo) : Prop :=
  ∃ c ∈ r.confirms, c.1 ≠ n ∧ c.2 ≠ .confirmed ∧ c.2 ≠ .waived

/-- Lane `k` of `s` with the close confirmation of slot `n` waived where it was waiting (R143). -/
def State.waivedFor (s : State) (k : LaneNo) (n : SlotNo) : State :=
  { s with
    lanes := s.lanes.set k
      { s.lane k with
        confirms := (s.lane k).confirms.map fun c =>
          if c.1 = n ∧ c.2 ≠ .confirmed then (n, Confirmation.waived) else c } }

/-- Lane `k` of `s` closed with its CLOSED record stored (R144), where no staged record waits. -/
def State.closedFor (s : State) (k : LaneNo) : State :=
  { s with
    lanes := s.lanes.set k { s.lane k with phase := .closed, confirms := [], tag := 0 }
    inbound := s.inbound.set k (s.inQueue k ++ [[4, 2, hiByte (s.lane k).tag, loByte (s.lane k).tag]]) }

/-- No staged record waits (R27). -/
abbrev State.NoneStaged (s : State) : Prop := ∀ n : SlotNo, s.staged n = none

/-- The slot's record stays as it is whatever ends in its lane: no staged record waits for it, or its lane is not CLOSING
(R27, R28, R144). -/
abbrev State.RecordStays (s : State) (n : SlotNo) : Prop :=
  s.staged n = none ∨ ∀ k ∈ (s.currentLane n).toList, (s.lane k).phase ≠ .closing

/-- The request latch holds `body`, and MGU may take it (R22). -/
abbrev State.Latched (s : State) (body : List Byte) : Prop :=
  s.link.latch = some body ∧ s.reply = none ∧ s.softPending = false

/-- The part after MGU has taken the latched request and placed a reply, and nothing else (R22). -/
def State.replied (s : State) (body : List Byte) : State :=
  { s with link := { s.link with latch := none }, reply := some body }

end Sys2Proof.Machine
end

