-- ==== Sys2Proof/WellFormed.lean ====
section
/-! DEFINITION. Which commands can reach the part: the bounds that the wire formats put on their operands. -/

namespace Sys2Proof

/-- A LANE_COMMANDS body begins with a well-formed command (R134): at least a code and a length byte, one of the
ten codes, a length the command admits (section 11.3), and that many bytes behind it. -/
def beginsWithCommand : List Byte → Bool
  | code :: len :: args =>
    decide (len.toNat ≤ args.length) &&
      match code.toNat with
      | 1 => len.toNat == 2
      | 2 => len.toNat == 0
      | 3 => len.toNat == 0
      | 4 => decide (2 ≤ len.toNat ∧ len.toNat ≤ 22)
      | 5 => len.toNat == 2
      | 6 => len.toNat == 2
      | 7 => len.toNat == 5
      | 8 => len.toNat == 4
      | 9 => len.toNat == 1
      | 10 => len.toNat == 1
      | _ => false
  | _ => false

/-- The operands of a command within what the wire formats admit: a body of at most 240 bytes (R4), a SHOW text of
at most 20 characters (R134), a LANE_COMMANDS row that begins with no well-formed command, an ECHO_CONFLICT at one
of at most 52 characters, a REPLY of 1 to 52 characters (R67). -/
def Instr.wellFormed : Instr → Bool
  | .request body => decide (body.length ≤ 240)
  | .laneCommands _ body => decide (body.length ≤ 240) && !beginsWithCommand body
  | .openLane _ _ rest => decide (4 + rest.length ≤ 240)
  | .closeLane _ rest => decide (2 + rest.length ≤ 240)
  | .clearLane _ rest => decide (2 + rest.length ≤ 240)
  | .showText _ _ _ text rest => decide (text.length ≤ 20) && decide (4 + text.length + rest.length ≤ 240)
  | .tone _ _ _ rest => decide (4 + rest.length ≤ 240)
  | .reader _ _ _ rest => decide (4 + rest.length ≤ 240)
  | .entry _ _ _ _ _ _ rest => decide (7 + rest.length ≤ 240)
  | .pin _ _ _ _ _ rest => decide (6 + rest.length ≤ 240)
  | .unlock _ _ rest => decide (3 + rest.length ≤ 240)
  | .decideCard _ _ rest => decide (3 + rest.length ≤ 240)
  | .echoConflict _ index _ => decide (index < 52)
  | .reply _ chars => decide (1 ≤ chars.length ∧ chars.length ≤ 52)
  | .hardwareReset => true
  | .linkCharacter _ _ => true
  | .loadUnit => true
  | .readUnit => true
  | .loadLane => true
  | .readLane => true
  | .loadKeymap => true
  | .loadPolicy => true
  | .loadPrompt => true
  | .loadRing => true
  | .loadPartition => true
  | .setLink => true
  | .setLine => true
  | .readStatus => true
  | .readCounters => true
  | .clearCounters => true
  | .softReset => true
  | .unknownRequest => true
  | .closingDelimiter => true
  | .silenceTimerExpiry => true
  | .telegram _ => true
  | .sweep _ => true
  | .transmissionComplete _ => true
  | .noReply _ => true
  | .replyCharacter _ _ => true
  | .truncated _ => true
  | .guardRunsOut _ => true
  | .passBegins _ => true
  | .sweepReplyWindow _ => true
  | .sweepAnswerCharacter _ _ => true
  | .sweepGap _ => true
  | .strayCharacter _ _ => true
  | .chatterIntervalEnds _ => true
  | .breakEnds _ => true
  | .lineWatchdog _ => true
  | .decisionTimerExpiry _ => true
  | .linkStartEdge _ => true
  | .lrxdAtMark => true
  | .startEdge _ _ => true

end Sys2Proof
end

