-- ==== Sys2Proof/Certificates/Slice0/Obligations.lean ====
section
/-! DEFINITION. The statements handed to the provers. Each says which rules of spec/ it formalises. -/

section

open Sys2Proof Sys2Proof.Machine

/-! ### Steps -/

/-- The step takes the command at the front of the queue and runs its meaning with the rest of the queue. -/
def Obligations.StepTakesTheFrontCommand : Prop :=
  ∀ (c : Instr) (rest : List Instr) (s : State), s.pending = c :: rest → step s = exec c { s with pending := rest }

/-- Every command ends in a next state and leaves the commands that wait as they are. -/
def Obligations.CommandsCompleteAndKeepTheQueue : Prop :=
  ∀ (c : Instr) (s : State), ∃ t : State, exec c s = .next t ∧ t.pending = s.pending

/-- On an empty queue a step is one tick of the timebase (the model's choice, log entry 2). When nothing expires at it,
the silence timer counts one while it runs (R16), every decision timer falls by one (R177), the watchdog counter of an
unsettled line counts one (R56), and nothing else moves. A tick at which one thing alone expires is the command of that
expiry, given once the counters have counted (log entries 2 and 3). -/
def Obligations.TicksCountAndExpire : Prop :=
  ∀ s : State,
    s.pending = [] →
    ((s.link.state = .live → s.link.inForce.silence ≠ 0 → s.link.silenceCount + 1 < s.link.inForce.silence.val * 1000) →
      (∀ k : LaneNo, ∀ d, (s.lane k).decision = some d → 1 < d.ms) →
      (∀ l ∈ [Line.a, Line.b], (s.engine l).stage ≠ .tickWait) →
      (∀ l ∈ [Line.a, Line.b],
        (s.engine l).unsettled = true → (s.engine l).watchdog + 1 < (s.lineInForce l).stuckLimit.val) →
      step s =
        .next (State.selectNew
          { s with
            link := { s.link with
              silenceCount :=
                if s.link.state = .live ∧ s.link.inForce.silence ≠ 0 then s.link.silenceCount + 1
                else s.link.silenceCount }
            lanes := s.lanes.map fun r => { r with decision := r.decision.map fun d => { d with ms := d.ms - 1 } }
            engines :=
              ⟨{ s.engines.a with
                  watchdog := if s.engines.a.unsettled then s.engines.a.watchdog + 1 else s.engines.a.watchdog },
                { s.engines.b with
                  watchdog := if s.engines.b.unsettled then s.engines.b.watchdog + 1 else s.engines.b.watchdog }⟩ })) ∧
    ∀ e : TickEvent, tickEvents.filter s.countTick.comes = [e] → step s = exec e.command s.countTick

/-! ### What holds of every step -/

/-- After every step an IDLE transmitter has nothing to send: what becomes a candidate while it is IDLE is selected at
once (R13). Every step keeps the penalty flags: at most one is set, and its queue holds a record (R15). No step leaves a
selection held back for the steps of R9, which end with their frame. -/
def Obligations.TransmitterStaysInOrder : Prop :=
  ∀ s t : State,
    step s = .next t → t.Settled ∧ (s.PenaltyOk → t.PenaltyOk) ∧ (s.NotGathering → t.NotGathering)

/-- Every step keeps every queue within its capacity, and the partition within Queue Memory (R34, R120, R123). -/
def Obligations.QueuesStayWithinCapacity : Prop :=
  ∀ s t : State, s.QueuesOk → step s = .next t → t.QueuesOk

/-- Every step keeps every lane record in agreement with its phase (R132, R133, R141, R144). -/
def Obligations.LanesAgreeWithTheirPhase : Prop :=
  ∀ s t : State, s.LanesOk → step s = .next t → t.LanesOk

/-- Every step keeps every slot's runtime record in agreement with its presence (R103 to R109, R113), and every directive
and every queued record numbered before the next serial number (log entry 19). -/
def Obligations.SlotsAgreeWithTheirPresence : Prop :=
  ∀ s t : State, step s = .next t → (s.UnitsOk → t.UnitsOk) ∧ (s.SerialsOk → t.SerialsOk)

/-- Every step keeps the constraints of R26 among the unit records, and applies every staged record whose moment has come
(R27). -/
def Obligations.UnitTableKeepsItsConstraints : Prop :=
  ∀ s t : State, s.TableOk → step s = .next t → t.TableOk

/-- Every step keeps both engines in order: the driver is high exactly in SENDING, what is due or begun is as R65's
table has it, no confirmation run is in progress before the first pass after a reset, fewer than 4 conflicts are
counted, and the sweep's ranges come from [1,31] by halving (R47, R53, R58, R65, R91, R101). A stack of such ranges
never holds more than six of them, all within 1 to 31 (R91). -/
def Obligations.EnginesStayInOrder : Prop :=
  (∀ s t : State, s.EnginesOk → step s = .next t → t.EnginesOk) ∧
    ∀ rs : List AddrRange, SearchOk rs → rs.length ≤ 6 ∧ ∀ r ∈ rs, 1 ≤ r.lo ∧ r.lo ≤ r.hi ∧ r.hi ≤ 31

/-- The part meets all of these right after a hardware reset, but for the first selection, which the command
HARDWARE_RESET makes (log entry 11). -/
def Obligations.ResetMeetsTheInvariants : Prop :=
  State.reset.PenaltyOk ∧ State.reset.NotGathering ∧ State.reset.QueuesOk ∧ State.reset.LanesOk ∧
    State.reset.UnitsOk ∧ State.reset.SerialsOk ∧ State.reset.TableOk ∧ State.reset.EnginesOk

/-! ### The counter link -/

/-- HARDWARE_RESET: every item takes its reset value (R20, R42, R60, R101, R103, R131), and the first frame selected is
the NOTICE frame that reports RESTARTED with repeat count 1; the values that R20 gives the Link Port; and every transmit
output at mark right after the reset (R1, R60). -/
def Obligations.HardwareResetThenRestartedNotice : Prop :=
  (∀ s : State,
      exec .hardwareReset s =
        .next
          { State.reset with
            choices := s.choices
            pending := s.pending
            notices := #v[none, none, none, none, none]
            link := { resetLinkPort with tx := .sending ⟨0x0F, .notice, [1, 0, 0, 1]⟩ } }) ∧
    let p := State.reset.link
    p.inForce = ⟨2, 4, 0⟩ ∧ bitRate p.inForce.p p.inForce.m = 115200 ∧ p.state = .live ∧ p.frameRx = .hunt ∧
      p.content = [] ∧ p.rx = .waitMark ∧ p.latch = none ∧ p.tx = .idle ∧ p.pointer = 7 ∧
      p.penalty.toList = List.replicate 8 false ∧ p.counters.inOrder = List.replicate 13 0 ∧ p.output = .mark ∧
      State.reset.lineOutput .a = .mark ∧ State.reset.lineOutput .b = .mark

/-- The link receiver (R2): at rest, an edge is a glitch, which is counted, or an accepted start bit; after a framing
error it waits for mark. A character, an edge or a mark that it does not look at changes nothing. The frame receiver's
characters but for a delimiter that closes a frame (R5, R6, R7). -/
def Obligations.LinkReceiverAndFrameReceiver : Prop :=
  ∀ (s : State) (accepted stop : Bool) (b data : Byte),
    (s.link.rx = .atRest →
      exec (.linkStartEdge true) s = .next (State.selectNew { s with link := { s.link with rx := .inCharacter } }) ∧
      exec (.linkStartEdge false) s =
        .next (State.selectNew
          { s with
            link := { s.link with counters := { s.link.counters with rxGlitch := bump s.link.counters.rxGlitch } } })) ∧
    (s.link.rx ≠ .atRest → exec (.linkStartEdge accepted) s = .next s.selectNew) ∧
    (s.link.rx = .waitMark →
      exec .lrxdAtMark s = .next (State.selectNew { s with link := { s.link with rx := .atRest } }) ∧
      exec (.linkCharacter data stop) s = .next s.selectNew) ∧
    (s.link.rx ≠ .waitMark → exec .lrxdAtMark s = .next s.selectNew) ∧
    (s.link.rx ≠ .waitMark →
     let p := s.link
     let c := p.counters
     let good (p : LinkPort) : Host.Outcome State Fault Refusal :=
       .next (State.selectNew { s with link := { p with rx := .atRest } })
     let broken (p : LinkPort) : Host.Outcome State Fault Refusal :=
       .next (State.selectNew { s with link := { p with rx := .waitMark } })
     -- HUNT and SKIP: everything is discarded until a delimiter
     (p.frameRx = .hunt ∨ p.frameRx = .skip →
       exec (.linkCharacter delimiter true) s = good { p with frameRx := .collect, content := [] } ∧
       exec (.linkCharacter data false) s = broken p ∧
       (b ≠ delimiter → exec (.linkCharacter b true) s = good p)) ∧
     -- COLLECT
     (p.frameRx = .collect →
       (p.content = [] → exec (.linkCharacter delimiter true) s = good p) ∧
       exec (.linkCharacter escape true) s = good { p with frameRx := .escaped } ∧
       exec (.linkCharacter data false) s =
         broken { p with frameRx := .skip, content := [], counters := { c with rxBadChar := bump c.rxBadChar } } ∧
       (b ≠ delimiter → b ≠ escape →
         exec (.linkCharacter b true) s =
           good
             (if p.content.length < 245 then { p with content := p.content ++ [b] }
             else { p with frameRx := .skip, content := [], counters := { c with rxLong := bump c.rxLong } }))) ∧
     -- ESCAPED
     (p.frameRx = .escaped →
       (b = 0xD5 ∨ b = 0xD6 →
         exec (.linkCharacter (b ^^^ 0x20) true) s =
           good
             (if p.content.length < 245 then { p with frameRx := .collect, content := p.content ++ [b] }
             else { p with frameRx := .skip, content := [], counters := { c with rxLong := bump c.rxLong } })) ∧
       exec (.linkCharacter delimiter true) s =
         good { p with frameRx := .collect, content := [], counters := { c with rxAbort := bump c.rxAbort } } ∧
       exec (.linkCharacter data false) s =
         broken { p with frameRx := .skip, content := [], counters := { c with rxBadChar := bump c.rxBadChar } } ∧
       (b ≠ delimiter → b ≠ 0xF5 → b ≠ 0xF6 →
         exec (.linkCharacter b true) s =
           good { p with frameRx := .skip, content := [], counters := { c with rxBadEscape := bump c.rxBadEscape } })))

/-- The delimiter that closes a frame: the closing checks in the order of R8's table. A frame that fails is counted once
and does nothing else; a good one is the command of its kind. -/
def Obligations.ClosingChecksInOrder : Prop :=
  ∀ s : State,
    s.link.rx ≠ .waitMark → s.link.frameRx = .collect → s.link.content ≠ [] → s.link.content.length ≤ 245 →
    let c := s.link.content
    let n := c.length
    let node := (c.getD 0 0).toNat
    let kind := c.getD 1 0
    let body := (c.drop 3).take (n - 5)
    let k := s.link.counters
    let failed (counted : LinkCounters) : Host.Outcome State Fault Refusal :=
      .next (State.selectNew
        { s with link := { s.link with rx := .atRest, frameRx := .collect, content := [], counters := counted } })
    exec (.linkCharacter delimiter true) s =
      if n < 5 then failed { k with rxShort := bump k.rxShort }
      else if crc (c.take (n - 2)) ≠ word16 (c.getD (n - 2) 0) (c.getD (n - 1) 0) then
        failed { k with rxBadCheck := bump k.rxBadCheck }
      else if (c.getD 2 0).toNat ≠ n - 5 then failed { k with rxBadLength := bump k.rxBadLength }
      else if h : node < 8 then
        if kind = 0x01 then exec (.laneCommands ⟨node, h⟩ body) s
        else failed { k with rxUnknownKind := bump k.rxUnknownKind }
      else if node = 0x0F then
        if kind = 0x02 then exec (.request body) s else failed { k with rxUnknownKind := bump k.rxUnknownKind }
      else failed { k with rxUnknownNode := bump k.rxUnknownNode }

/-- Every frame that the part or the workstation sends is received as it was sent: the characters on the wire leave its
content in the buffer, and at the closing delimiter every check on length, CRC and LEN passes (R3, R4, R6, R7, R8). -/
def Obligations.FramesSurviveTheWire : Prop :=
  ∀ (f : Frame) (start : FrameRx),
    f.body.length ≤ 240 → start ≠ .escaped →
    f.wire = delimiter :: f.content.flatMap escapeByte ++ [delimiter] ∧
    delimiter ∉ f.content.flatMap escapeByte ∧
    collectRun ⟨start, []⟩ (delimiter :: f.content.flatMap escapeByte) = ⟨.collect, f.content⟩ ∧
    frameStep ⟨.collect, f.content⟩ (some delimiter) = ⟨⟨.collect, []⟩, some (addressed f.node f.kind.code f.body)⟩

/-- A good REQUEST frame on a LIVE link (R9, R11): its body is latched, or, where the latch is occupied, dropped, counted
and reported by REQUEST_DROPPED. A good frame on a QUIET link does what it does on a LIVE one, once the link is LIVE, every
standby flag is clear and LINK_RESUMED is raised (R9, R17). -/
def Obligations.RequestsAndGoodFrames : Prop :=
  ∀ (s : State) (k : LaneNo) (body rest : List Byte) (cmd : LaneCmd),
    (s.link.state = .live →
      (s.link.latch = none →
        exec (.request body) s =
          .next (State.selectByRank { s.framed with link := { s.framed.link with latch := some body } })) ∧
      (s.link.latch ≠ none →
        exec (.request body) s =
          .next (State.selectByRank
            { s.framed with
              link := { s.framed.link with
                counters := { s.framed.link.counters with reqDropped := bump s.link.counters.reqDropped } }
              notices := s.notices.set 3 (some (raisedEntry s.notices[3] 0 0)) }))) ∧
    (s.link.state = .quiet →
      let resumed : State :=
        { s with
          link := { s.link with state := .live }
          notices := s.notices.set 4 (some (raisedEntry s.notices[4] 0 0))
          lanes := s.lanes.map fun r => { r with standby := false } }
      exec (.request body) s = exec (.request body) resumed ∧
        exec (.laneCommands k body) s = exec (.laneCommands k body) resumed ∧
        exec (cmd.row k rest) s = exec (cmd.row k rest) resumed)

/-- At the closing delimiter of a frame other than an executed SET_LINK's or SOFT_RESET's reply, the frame is counted and
the next is selected by rank (R13); an IDLE transmitter sends none, with its output at mark, and a SENDING one carries the
frame's characters back to back (R1, R4). At that of a SET_LINK reply that was executed, the new
settings take effect before the selection, and the receiver is in HUNT and waits for mark where the rate has changed
(R19). -/
def Obligations.ClosingDelimiters : Prop :=
  ∀ (s : State) (f : Frame) (status : Byte) (new : LinkSettings),
    (s.link.tx = .sending f →
      f.kind ≠ .reply ∨ (f.body.head? ≠ some 0x0A ∧ f.body.head? ≠ some 0x0F) ∨ f.body.getD 1 0 = 3 →
      exec .closingDelimiter s =
        .next (State.selectByRank
          { s with
            link := { s.link with
              tx := .idle, counters := { s.link.counters with txFrames := bump s.link.counters.txFrames } } })) ∧
    (s.link.tx = .idle → exec .closingDelimiter s = .next s.selectNew ∧ s.link.output = .mark) ∧
    (s.link.tx = .sending f →
      s.link.output =
        .carries (f.wire.flatMap fun b =>
          [false, b.getLsbD 0, b.getLsbD 1, b.getLsbD 2, b.getLsbD 3, b.getLsbD 4, b.getLsbD 5, b.getLsbD 6,
            b.getLsbD 7, true])) ∧
    (status = 0 ∨ status = 1 →
      s.link.tx = .sending ⟨0x0F, .reply, [0x0A, status, byteOf new.p.val, byteOf new.m.val, byteOf new.silence.val]⟩ →
      let counted : LinkPort :=
        { s.link with
          tx := .idle, counters := { s.link.counters with txFrames := bump s.link.counters.txFrames }
          inForce := new, silenceCount := 0 }
      exec .closingDelimiter s =
        .next (State.selectByRank
          { s with
            link :=
              if new.p = s.link.inForce.p ∧ new.m = s.link.inForce.m then counted
              else { counted with frameRx := .hunt, content := [], rx := .waitMark } }))

/-- The closing delimiter of a SOFT_RESET reply: the soft reset is carried out before the selection (R21, R41, R60, R101,
R103, R131, R132). The link settings, the link receiver and every table are kept, staged records are applied, and the
NOTICE frame that reports RESTARTED is the next frame; the drivers are low and the lines' transmit outputs at mark (R47). -/
def Obligations.SoftResetIsCarriedOut : Prop :=
  ∀ s : State,
    s.link.tx = .sending ⟨0x0F, .reply, [0x0F, 0]⟩ →
    ∃ t : State, exec .closingDelimiter s = .next t ∧
      t.link =
        { resetLinkPort with
          rx := s.link.rx, inForce := s.link.inForce, tx := .sending ⟨0x0F, .notice, [1, 0, 0, 1]⟩ } ∧
      (∀ n : SlotNo, t.record n = s.effective n ∧ t.staged n = none ∧
        t.unit n = { presence := if (s.effective n).enabled then .seeking else .disabled }) ∧
      t.tables = { s.tables with units := t.tables.units } ∧
      t.reply = none ∧ t.softPending = false ∧ t.notices.toList = List.replicate 5 none ∧
      (∀ k : LaneNo, t.lane k = {} ∧ t.inQueue k = [] ∧ t.outQueue k = []) ∧
      t.engines = ⟨resetEngine s.tables.lines.a.inForce.base, resetEngine s.tables.lines.b.inForce.base⟩ ∧
      t.lineOutput .a = .mark ∧ t.lineOutput .b = .mark ∧ t.pending = s.pending

/-- Which sources are candidates, and at which ranks they compete (R13, R15). A selection on an IDLE transmitter, or behind
the steps of R9, takes the candidate of lowest rank, the reply slot before the notice set, and among lane sources of one
rank the lane that comes first after the pointer (R13, R14): no other candidate has a lower rank, or the same rank and an
earlier place. Elsewhere a source that becomes a candidate on an IDLE transmitter is selected at once, and alone (R13):
between two moments of one act as well (log entry 10); where several are candidates, one of them is, and which one is left
open (log entry 9). What each source gives up when it is selected, and what becomes of the pointer and the penalty flags
(R13, R14, R15): on a QUIET link the pointer stays, and the flags stay or are cleared (log entry 31). -/
def Obligations.SelectionsByRankAndAtOnce : Prop :=
  (∀ (s : State) (k : LaneNo) (src : Source),
      (src ∈ s.candidates ↔ s.isCandidate src = true) ∧
      (s.isCandidate .reply = true ↔ s.reply ≠ none) ∧
      (s.isCandidate .notices = true ↔ ∃ kind : Fin 5, s.notices[kind] ≠ none) ∧
      (s.isCandidate (.alerts k) = true ↔ s.link.state = .live ∧ ∃ kind : Fin 8, (s.lane k).alerts[kind] ≠ none) ∧
      (s.isCandidate (.events k) = true ↔ s.link.state = .live ∧ s.inQueue k ≠ []) ∧
      s.rank .reply = 1 ∧ s.rank .notices = 1 ∧ s.rank (.alerts k) = 2 ∧
      s.rank (.events k) = if s.link.penalty[k] then 5 else 4) ∧
    (∀ before s : State,
      (before.candidates = [] → before.atOnce s = s.selectNew) ∧ (before.candidates ≠ [] → before.atOnce s = s)) ∧
    (∀ s : State,
      (s.link.tx = .idle ∨ s.link.tx = .gathering →
        (s.candidates = [] → s.selectByRank = { s with link := { s.link with tx := .idle } }) ∧
        (s.candidates ≠ [] →
          ∃ w, s.isCandidate w = true ∧ s.selectByRank = s.select w ∧
            ∀ c, s.isCandidate c = true →
              s.rank w < s.rank c ∨
                (s.rank w = s.rank c ∧
                  match w, c with
                  | .reply, _ => True
                  | .notices, c => c = .notices
                  | .alerts j, .alerts k => (j - s.link.pointer - 1 : Fin 8) ≤ k - s.link.pointer - 1
                  | .events j, .events k => (j - s.link.pointer - 1 : Fin 8) ≤ k - s.link.pointer - 1
                  | _, _ => False))) ∧
      (s.link.tx = .idle → ∀ src, s.candidates = [src] → s.selectNew = s.select src) ∧
      (s.link.tx = .idle → s.candidates ≠ [] →
        ∃ src, s.isCandidate src = true ∧
          (s.selectNew = s.select src ∨ s.selectNew = { s.select src with choices := s.choices + 1 })) ∧
      (s.link.tx = .idle → s.candidates = [] → s.selectNew = s) ∧
      (∀ f, s.link.tx = .sending f → s.selectByRank = s) ∧
      (s.link.tx ≠ .idle → s.selectNew = s)) ∧
    ∀ (s : State) (k : LaneNo),
      let sends (t : State) (pointer : Fin 8) (penalty : Vector Bool 8) (f : Frame) : State :=
        { t with link := { t.link with tx := .sending f, pointer := pointer, penalty := penalty } }
      let clear : Vector Bool 8 := Vector.replicate 8 false
      (∃ penalty : Vector Bool 8,
        (s.link.state = .live → penalty = clear) ∧
        (s.link.state = .quiet → penalty = clear ∨ penalty = s.link.penalty) ∧
        (∀ body, s.reply = some body →
          s.select .reply = sends { s with reply := none } s.link.pointer penalty ⟨0x0F, .reply, body⟩) ∧
        s.select .notices =
          sends { s with notices := Vector.replicate 5 none } s.link.pointer penalty
            ⟨0x0F, .notice, entryBytes 1 s.notices.toList⟩) ∧
      s.select (.alerts k) =
        sends { s with lanes := s.lanes.set k { s.lane k with alerts := Vector.replicate 8 none } } k clear
          ⟨byteOf k.val, .alert, entryBytes 1 (s.lane k).alerts.toList⟩ ∧
      (∀ r more, s.inQueue k = r :: more →
        s.select (.events k) =
          sends { s with inbound := s.inbound.set k more } k (clear.set k (!more.isEmpty)) ⟨byteOf k.val, .event, r⟩)

/-! ### Lane commands -/

/-- A lane command is read from a body exactly where the body begins with its bytes, whatever follows; a body that begins
with none is malformed (R134, sections 8.2 and 11.3). -/
def Obligations.LaneCommandsReadBack : Prop :=
  ∀ body : List Byte,
    (∀ (cmd : LaneCmd) (rest : List Byte),
      LaneCmd.take body = some (cmd, rest) ↔ cmd.fits = true ∧ body = cmd.bytes ++ rest) ∧
    (LaneCmd.take body = none ↔ beginsWithCommand body = false)

/-- A LANE_COMMANDS frame is the command its body begins with (log entry 8); one that begins with none is refused with
BAD_CODE at position 1, and one with an empty body does what every good frame does and nothing else (R10, R134). The rest
of a body is taken one command at a time: a well-formed command is performed at its position, and parsing goes on behind
it; a malformed one is refused with BAD_CODE, and the rest is discarded. The first command is performed at position 1, and
a command that acts at once does the same at every position. -/
def Obligations.LaneFramesAreTakenInOrder : Prop :=
  ∀ (s : State) (k : LaneNo) (fuel position : Nat) (lost : Bool) (cmd : LaneCmd) (rest body : List Byte),
    (cmd.fits = true → exec (.laneCommands k (cmd.bytes ++ rest)) s = exec (cmd.row k rest) s) ∧
    (s.link.state = .live → exec (.laneCommands k []) s = .next s.framed.selectByRank) ∧
    (s.link.state = .live → body ≠ [] → beginsWithCommand body = false →
      exec (.laneCommands k body) s =
        .next (State.selectByRank
          { s.framed with
            lanes := s.lanes.set k
              { s.lane k with
                alerts := (s.lane k).alerts.set 5 (some (raisedEntry (s.lane k).alerts[5] 1 1)) } })) ∧
    (s.link.state = .live →
      let first := s.framed.perform k 1 false cmd
      exec (cmd.row k rest) s = .next (first.after.parseBody k rest.length 2 first.lost rest).selectByRank) ∧
    ((s.lane k).overflow = false → cmd.record (s.keypadKind k) = none → cmd.admitted (s.lane k).phase = true →
      cmd.badValue (s.keypadKind k) = false → (∀ tag, cmd = .openLane tag → s.unitDown k = false) →
      s.perform k position false cmd = s.perform k 1 false cmd) ∧
    (cmd.fits = true → (cmd.bytes ++ rest).length ≤ fuel →
      s.parseBody k fuel position lost (cmd.bytes ++ rest) =
        (s.perform k position lost cmd).after.parseBody k rest.length (position + 1)
          (s.perform k position lost cmd).lost rest) ∧
    (body ≠ [] → body.length ≤ fuel → beginsWithCommand body = false →
      s.parseBody k fuel position lost body =
        { s with
          lanes := s.lanes.set k
            { s.lane k with
              alerts := (s.lane k).alerts.set 5
                (some (raisedEntry (s.lane k).alerts[5] 1 (byteOf position))) } }) ∧
    s.parseBody k fuel position lost [] = s

/-- OPEN admitted in CLOSED with a tag other than 0 and no bound unit SEEKING or LOST (R140): the tag, the call latch, the
phase, a wake mark and a WAKE for every bound unit; a lane with no bound unit is OPEN at once and writes OPENED (R141),
and is FAULTED where that record does not fit (R147). The premise on serial numbers holds in every run (log entry 19). -/
def Obligations.OpenBeginsOpening : Prop :=
  ∀ (s : State) (k : LaneNo) (tag : Word16) (rest : List Byte),
    s.SerialsOk → s.link.state = .live → (s.lane k).phase = .closed → (s.lane k).overflow = false → tag ≠ 0 →
    (∀ n, s.bound k n = true → (s.unit n).presence ≠ .seeking ∧ (s.unit n).presence ≠ .lost) →
    let opening : LaneRecord :=
      { s.lane k with
        tag := tag, callLatch := false, phase := .opening, wakeMarks := (s.boundSlots k).map fun n => (n, false) }
    let opened : LaneRecord := { opening with phase := .opened, wakeMarks := [] }
    ∃ t : State, exec (.openLane k tag rest) s = .next (t.parseBody k rest.length 2 false rest).selectByRank ∧
      (s.boundSlots k ≠ [] →
        t = { s.framed with lanes := s.lanes.set k opening, units := t.units, serial := t.serial } ∧
        ∀ n, (s.bound k n = false → t.unit n = s.unit n) ∧
          (s.bound k n = true → (s.unit n).presence ≠ .disabled →
            ∃ serial < t.serial,
              t.unit n =
                { s.unit n with
                  directives :=
                    if (s.unit n).directives.wake.isSome then (s.unit n).directives
                    else { (s.unit n).directives with wake := some ⟨0, serial⟩, rest := none } })) ∧
      (s.boundSlots k = [] → s.inFits k 4 = true →
        t =
          { s.framed with
            lanes := s.lanes.set k opened
            inbound := s.inbound.set k (s.inQueue k ++ [[4, 1, hiByte tag, loByte tag]]) }) ∧
      (s.boundSlots k = [] → s.inFits k 4 = false →
        t =
          { s.framed with
            lanes := s.lanes.set k
              { opened with
                phase := .faulted, standby := false, confirms := [], window := none, assembly := none
                decision := none, pinShadow := false
                alerts := ((s.lane k).alerts.set 4 (some (raisedEntry (s.lane k).alerts[4] 1 0))).set 7
                  (some (raisedEntry (s.lane k).alerts[7] 4 0)) } })

/-- A refused command (R135, R136, R140): the first check that fails raises BAD_COMMAND with its reason and the
position, and nothing else happens, for the first command of a frame and at any position. Reasons: WRONG_PHASE 2,
NO_UNIT 3, BAD_VALUE 4, UNIT_DOWN 5. -/
def Obligations.RefusedCommandsRaiseBadCommand : Prop :=
  ∀ (s : State) (k : LaneNo) (cmd : LaneCmd) (rest : List Byte) (position : Nat) (lost : Bool),
    s.link.state = .live → (s.lane k).overflow = false →
    let phase := (s.lane k).phase
    let admitted : Prop :=
      match cmd with
      | .openLane _ => phase = .closed
      | .close => phase = .opening ∨ phase = .opened
      | .clear => True
      | .showText _ _ _ => phase = .closed ∨ phase = .opening ∨ phase = .opened
      | .tone _ _ => phase = .closed ∨ phase = .opening ∨ phase = .opened
      | _ => phase = .opened
    let hasUnit : Prop :=
      match cmd with
      | .openLane _ => True
      | .close => True
      | .clear => True
      | .decideCard _ => True
      | .reader _ _ => ∃ n, s.bound k n = true ∧ (s.record n).kind ≠ .pinpad
      | _ => ∃ n, s.bound k n = true ∧ (s.record n).kind ≠ .reader
    let rows (n : SlotNo) : Nat := if (s.record n).kind = .combo then 4 else 2
    let badValue : Prop :=
      match cmd with
      | .openLane tag => tag = 0
      | .showText row _ _ => ∃ n, s.keypadOf k = some n ∧ rows n ≤ row.toNat
      | .tone pattern _ => 7 < pattern.toNat
      | .entry count _ _ _ _ => count = 0
      | .decideCard choice => choice ≠ 1 ∧ choice ≠ 2
      | _ => False
    let unitDown : Prop :=
      match cmd with
      | .openLane _ =>
        ∃ n, s.bound k n = true ∧ ((s.unit n).presence = .seeking ∨ (s.unit n).presence = .lost)
      | _ => False
    let refused (reason : Byte) : Host.Outcome State Fault Refusal :=
      .next (State.selectByRank
        (State.parseBody
          { s.framed with
            lanes := s.lanes.set k
              { s.lane k with
                alerts := (s.lane k).alerts.set 5 (some (raisedEntry (s.lane k).alerts[5] reason 1)) } }
          k rest.length 2 false rest))
    let refusedAt (reason : Byte) : Performed := ⟨s.alerted k 5 reason (byteOf position), false⟩
    (¬admitted → exec (cmd.row k rest) s = refused 2 ∧ s.perform k position lost cmd = refusedAt 2) ∧
      (admitted → ¬hasUnit → exec (cmd.row k rest) s = refused 3 ∧ s.perform k position lost cmd = refusedAt 3) ∧
      (admitted → hasUnit → badValue →
        exec (cmd.row k rest) s = refused 4 ∧ s.perform k position lost cmd = refusedAt 4) ∧
      (admitted → hasUnit → ¬badValue → unitDown →
        exec (cmd.row k rest) s = refused 5 ∧ s.perform k position lost cmd = refusedAt 5)

/-- The six commands that are kept as records (R136, R137, R183): in a phase that admits them, with a unit of the target
role and values that are not refused, the clamped record joins the tail of the outbound queue where it fits, at any
position of a frame. -/
def Obligations.QueuedCommandsJoinTheOutboundQueue : Prop :=
  ∀ (s : State) (k : LaneNo) (n : SlotNo) (row report pattern onOff count dot echo chain min max : Byte)
    (text rest : List Byte) (position : Nat) (lost : Bool) (cmd : LaneCmd),
    s.link.state = .live → (s.lane k).overflow = false → text.length ≤ 20 →
    let combo := (s.record n).kind = .combo
    let kept := (text.map fun c => if 0x20 ≤ c.toNat ∧ c.toNat ≤ 0x7E then c else 0x3F).take (if combo then 20 else 16)
    let bit (b : Byte) (value : Nat) : Nat := if b = 0 then 0 else value
    let low := Nat.min 12 (Nat.max 4 min.toNat)
    let high := Nat.max low (Nat.min 12 max.toNat)
    let queued (r : List Byte) : Host.Outcome State Fault Refusal :=
      .next (State.selectByRank
        (State.parseBody
          { s.framed with
            outbound := s.outbound.set k (s.outQueue k ++ [⟨s.serial, r⟩]), serial := s.serial + 1 }
          k rest.length 2 false rest))
    (s.keypadOf k = some n → (s.lane k).phase = .closed ∨ (s.lane k).phase = .opening ∨ (s.lane k).phase = .opened →
      (row.toNat < (if combo then 4 else 2) → s.outFits k (4 + kept.length) = true →
        exec (.showText k row report text rest) s =
          queued ([byteOf (4 + kept.length), 1, byteOf (1 + bit report 4), row] ++ kept)) ∧
      (pattern.toNat ≤ 7 → s.outFits k 4 = true →
        exec (.tone k pattern report rest) s = queued [4, 2, byteOf (1 + bit report 4), pattern])) ∧
    (s.readerOf k = some n → (s.lane k).phase = .opened → s.outFits k 3 = true →
      exec (.reader k onOff report rest) s = queued [3, if onOff = 0 then 4 else 3, byteOf (2 + bit report 4)]) ∧
    (s.keypadOf k = some n → (s.lane k).phase = .opened →
      (count ≠ 0 → s.outFits k 4 = true →
        exec (.entry k count dot echo chain report rest) s =
          queued
            [4, 5, byteOf (1 + bit report 4 + bit dot 8 + bit echo 16 + bit chain 32),
              byteOf (Nat.min 32 count.toNat)]) ∧
      (s.outFits k 5 = true →
        exec (.pin k min max chain report rest) s =
          queued [5, 6, byteOf (1 + bit report 4 + bit chain 32), byteOf low, byteOf high]) ∧
      (s.outFits k 3 = true →
        exec (.unlock k report rest) s = queued [3, 7, byteOf (1 + bit report 4)])) ∧
    (∀ r, cmd.record (s.keypadKind k) = some r → cmd.admitted (s.lane k).phase = true → s.hasTarget k cmd = true →
      cmd.badValue (s.keypadKind k) = false → s.outFits k r.length = true →
      s.perform k position lost cmd =
        ⟨{ s with outbound := s.outbound.set k (s.outQueue k ++ [⟨s.serial, r⟩]), serial := s.serial + 1 }, false⟩)

/-- The overflow condition (R138): a record that does not fit is lost, the flag is set, OUT_OVERFLOW is raised with the
position, and the rest of the frame is lost with it; while the flag is set, every command but CLEAR raises OUT_OVERFLOW
again and does nothing else, at any position. A CLEAR in the rest of the very frame is lost with it, or taken like any
other CLEAR (log entry 18). -/
def Obligations.OverflowLosesCommands : Prop :=
  ∀ (s : State) (k : LaneNo) (cmd : LaneCmd) (rest : List Byte) (position : Nat) (lost : Bool),
    s.link.state = .live →
    let raised : AlertSet := (s.lane k).alerts.set 3 (some (raisedEntry (s.lane k).alerts[3] 1 0))
    ((s.lane k).overflow = true → cmd ≠ .clear →
      s.perform k position lost cmd = ⟨s.alerted k 3 (byteOf position) 0, lost⟩ ∧
      exec (cmd.row k rest) s =
        .next (State.selectByRank
          (State.parseBody { s.framed with lanes := s.lanes.set k { s.lane k with alerts := raised } } k rest.length 2
            false rest))) ∧
    ((s.lane k).overflow = false →
      ∀ r, cmd.record (s.keypadKind k) = some r → cmd.admitted (s.lane k).phase = true → s.hasTarget k cmd = true →
        cmd.badValue (s.keypadKind k) = false → s.outFits k r.length = false →
        s.perform k position lost cmd =
          ⟨State.alerted { s with lanes := s.lanes.set k { s.lane k with overflow := true } } k 3 (byteOf position) 0,
            true⟩ ∧
        exec (cmd.row k rest) s =
          .next (State.selectByRank
            (State.parseBody
              { s.framed with lanes := s.lanes.set k { s.lane k with overflow := true, alerts := raised } } k rest.length
              2 true rest))) ∧
    (s.perform k position true .clear = ⟨s.alerted k 3 (byteOf position) 0, true⟩ ∨
      s.perform k position true .clear = s.perform k position false .clear)

/-- CLOSE in OPENING or OPEN (R142): CLOSING, the outbound queue flushed, a live window ended with ENTRY_CANCELLED, reason
CLOSED, the assembly and the decision removed with EJECT for the reader, and REST with a close confirmation for every
trusted unit. Without one the closing ends at once with a CLOSED record and tag 0 (R144). -/
def Obligations.CloseBeginsClosing : Prop :=
  ∀ (s : State) (k : LaneNo) (rest : List Byte),
    s.link.state = .live → (s.lane k).overflow = false → (s.lane k).phase = .opening ∨ (s.lane k).phase = .opened →
    let live : Prop := ∃ w, (s.lane k).window = some w ∧ (w.phase = .collecting ∨ w.phase = .awaitBlock)
    let cancelled : List Byte := [5, 7, hiByte (s.lane k).tag, loByte (s.lane k).tag, 3]
    let closed : List Byte := [4, 2, hiByte (s.lane k).tag, loByte (s.lane k).tag]
    let closing : LaneRecord :=
      { s.lane k with
        phase := .closing, standby := false, wakeMarks := [], pinShadow := false, window := none, assembly := none
        decision := none
        confirms := (s.boundSlots k).map fun n =>
          (n, if (s.unit n).presence = .locked ∨ (s.unit n).presence = .faltering then .restDue else .waived) }
    ∃ t : State, exec (.closeLane k rest) s = .next (t.parseBody k rest.length 2 false rest).selectByRank ∧
      ((∃ n, s.bound k n = true ∧ s.trusted n = true) → (live → s.inFits k 5 = true) →
        t =
            { s.framed with
              lanes := s.lanes.set k closing, outbound := s.outbound.set k []
              inbound := s.inbound.set k (t.inQueue k), units := t.units, serial := t.serial } ∧
          (live → t.inQueue k = s.inQueue k ++ [cancelled]) ∧ (¬live → t.inQueue k = s.inQueue k) ∧
          ∀ n, (s.bound k n = false → t.unit n = s.unit n) ∧
            (s.bound k n = true → s.trusted n = true → (s.unit n).directives.Ok →
              (t.unit n).directives.rest.isSome = true ∧ (t.unit n).directives.wake = none ∧
              (t.unit n).directives.standby = none ∧
              (s.readerOf k = some n → (s.lane k).decision ≠ none → (t.unit n).directives.eject.isSome = true) ∧
              t.unit n = { s.unit n with headAttempts := 0, directives := (t.unit n).directives }) ∧
            (s.bound k n = true → s.trusted n = false →
              t.unit n = { s.unit n with headAttempts := 0, directives := (t.unit n).directives })) ∧
      ((∃ n, s.bound k n = true ∧ s.trusted n = true) → live → s.inFits k 5 = false →
        (t.lane k).phase = .faulted ∧ (t.lane k).tag = (s.lane k).tag ∧ t.inQueue k = s.inQueue k ∧
          t.outQueue k = [] ∧
          (t.lane k).alerts =
            ((s.lane k).alerts.set 4 (some (raisedEntry (s.lane k).alerts[4] 7 0))).set 7
              (some (raisedEntry (s.lane k).alerts[7] 4 0))) ∧
      ((∀ n, s.bound k n = true → s.trusted n = false) → (live → s.inFits k 9 = true) →
        (¬live → s.inFits k 4 = true) →
        t.lane k = { closing with phase := .closed, tag := 0, confirms := [] } ∧
          (live → t.inQueue k = s.inQueue k ++ [cancelled, closed]) ∧ (¬live → t.inQueue k = s.inQueue k ++ [closed]) ∧
          t.outQueue k = [] ∧
          ∀ n, (s.staged n = none → t.record n = s.record n) ∧
            ∀ r, s.staged n = some r → s.bound k n = true → r.enabled = false ∨ r.lane = k →
              t.record n = r ∧ t.staged n = none)

/-- CLEAR (R145): the overflow flag is cleared and both queues are flushed, with the penalty flag (R15) and the head
attempt counts (R116); from OPENING, OPEN and FAULTED the lane then closes as by CLOSE. -/
def Obligations.ClearFlushesThenCloses : Prop :=
  ∀ (s : State) (k : LaneNo) (rest : List Byte),
    s.link.state = .live →
    let flushed (phase : LanePhase) : State :=
      { s with
        lanes := s.lanes.set k { s.lane k with overflow := false, phase := phase }
        inbound := s.inbound.set k []
        outbound := s.outbound.set k []
        units := Vector.ofFn fun n => if s.bound k n then { s.unit n with headAttempts := 0 } else s.unit n
        link := { s.link with penalty := s.link.penalty.set k false } }
    ((s.lane k).phase = .closed ∨ (s.lane k).phase = .closing →
      exec (.clearLane k rest) s =
        .next (State.selectByRank
          (State.parseBody (State.framed (flushed (s.lane k).phase)) k rest.length 2 false rest))) ∧
    ((s.lane k).phase = .opening ∨ (s.lane k).phase = .opened ∨ (s.lane k).phase = .faulted →
      exec (.clearLane k rest) s = exec (.closeLane k rest) (flushed .opened))

/-- DECIDE in OPEN and the expiry of the decision timer (R177, R178): the decision is removed, KEEP or EJECT is set for
its reader slot, and DECIDED is written, with cause COMMAND or TIMER; where it does not fit, it is lost, IN_OVERRUN is
raised, and then the lane is FAULTED (R147; log entry 10), the directive staying set. A DECIDE that finds no decision
raises DECISION_LATE, and an expiry that finds none does nothing. -/
def Obligations.DecisionsAreResolved : Prop :=
  ∀ (s : State) (k : LaneNo) (choice : Byte) (rest : List Byte),
    (choice = 1 ∨ choice = 2) →
    let record (choice cause : Byte) : List Byte :=
      [6, 0x0C, hiByte (s.lane k).tag, loByte (s.lane k).tag, choice, cause]
    let directed (u : UnitRun) (keep : Bool) : UnitRun :=
      if u.presence = .disabled then u
      else if keep then
        if u.directives.keep.isSome then u
        else { u with directives := { u.directives with keep := some ⟨0, s.serial⟩, eject := none } }
      else if u.directives.eject.isSome then u
      else { u with directives := { u.directives with eject := some ⟨0, s.serial⟩, keep := none } }
    let removed (base : State) (d : CardDecision) (keep : Bool) (serial : Nat) : State :=
      { base with
        lanes := s.lanes.set k { s.lane k with decision := none }
        units := s.units.set d.slot (directed (s.unit d.slot) keep)
        serial := serial }
    let resolved (base : State) (d : CardDecision) (keep : Bool) (cause : Byte) (serial : Nat) : State :=
      { removed base d keep serial with
        inbound := s.inbound.set k (s.inQueue k ++ [record (if keep then 1 else 2) cause]) }
    (s.link.state = .live → (s.lane k).phase = .opened → (s.lane k).overflow = false →
      (∀ d, (s.lane k).decision = some d → s.inFits k 6 = true →
        ∃ serial ≤ s.serial + 1,
          exec (.decideCard k choice rest) s =
            .next (State.selectByRank
              (State.parseBody (resolved s.framed d (choice = 1) 1 serial) k rest.length 2 false rest))) ∧
      (∀ d, (s.lane k).decision = some d → s.inFits k 6 = false →
        ∃ serial ≤ s.serial + 1,
          exec (.decideCard k choice rest) s =
            .next (State.selectByRank
              (State.parseBody (((removed s.framed d (choice = 1) serial).alerted k 4 0x0C 0).faultedFor k 4) k
                rest.length 2 false rest))) ∧
      ((s.lane k).decision = none →
        exec (.decideCard k choice rest) s =
          .next (State.selectByRank
            (State.parseBody
              { s.framed with
                lanes := s.lanes.set k
                  { s.lane k with
                    alerts := (s.lane k).alerts.set 6 (some (raisedEntry (s.lane k).alerts[6] 0 0)) } }
              k rest.length 2 false rest)))) ∧
    (∀ d, (s.lane k).decision = some d → s.inFits k 6 = true →
      ∃ serial ≤ s.serial + 1,
        exec (.decisionTimerExpiry k) s = .next (State.selectNew (resolved s d false 2 serial))) ∧
    (∀ d, (s.lane k).decision = some d → (s.lane k).phase = .opened → s.inFits k 6 = false →
      ∃ serial ≤ s.serial + 1,
        exec (.decisionTimerExpiry k) s =
          .next (State.selectNew
            (State.faultedFor (s.atOnce ((removed s d false serial).alerted k 4 0x0C 0)) k 4))) ∧
    ((s.lane k).decision = none → exec (.decisionTimerExpiry k) s = .next s.selectNew)

/-- A LANE_COMMANDS frame for one lane leaves every other lane, its queues and both drop lines alone, and of the tables it
can change the unit table only, by applying staged records (R27, R134). -/
def Obligations.LaneFramesTouchOneLane : Prop :=
  ∀ (s : State) (j k : LaneNo) (body : List Byte) (f : Frame),
    s.link.tx = .sending f → s.link.state = .live → j ≠ k →
    ∃ t : State, exec (.laneCommands k body) s = .next t ∧
      t.lane j = s.lane j ∧ t.inQueue j = s.inQueue j ∧ t.outQueue j = s.outQueue j ∧ t.engines = s.engines ∧
      t.tables = { s.tables with units := t.tables.units } ∧ t.notices = s.notices ∧ t.reply = s.reply ∧
      t.softPending = s.softPending ∧ t.link = { s.framed.link with penalty := t.link.penalty } ∧
      (∀ n, t.record n = s.record n ∨ some (t.record n) = s.staged n) ∧
      ∀ n, s.bound k n = false → s.staged n = none → (∀ d, (s.lane k).decision = some d → d.slot ≠ n) →
        t.unit n = s.unit n

/-- The silence timer's expiry on a LIVE link (R16, R152): the link is QUIET, and every lane that is OPENING or OPEN goes
into standby: its window is ended, with ENTRY_CANCELLED, reason LINK, where it was live, its decision is removed with
EJECT set for the lane's reader, and STANDBY is set for every bound unit. Where that record does not fit it is lost,
IN_OVERRUN and LANE_FAULT are raised, and the lane is FAULTED (R124, R147). Where the timer does not run nothing expires. -/
def Obligations.SilenceTakesLanesIntoStandby : Prop :=
  ∀ s : State,
    (s.link.state = .quiet ∨ s.link.inForce.silence = 0 → exec .silenceTimerExpiry s = .next s.selectNew) ∧
    (s.link.state = .live → s.link.inForce.silence ≠ 0 →
      ∃ t : State, exec .silenceTimerExpiry s = .next t.selectNew ∧
        t.link = { s.link with state := .quiet, silenceCount := 0 } ∧ t.tables = s.tables ∧
        t.outbound = s.outbound ∧ t.engines = s.engines ∧ t.notices = s.notices ∧
        ∀ k : LaneNo,
          let served : Prop := (s.lane k).phase = .opening ∨ (s.lane k).phase = .opened
          let live : Prop := ∃ w, (s.lane k).window = some w ∧ (w.phase = .collecting ∨ w.phase = .awaitBlock)
          let pinLive : Prop :=
            match (s.lane k).window with
            | some ⟨phase, .pin _ _ _, _, _⟩ => phase ≠ .held
            | _ => False
          (¬served → t.lane k = s.lane k ∧ t.inQueue k = s.inQueue k) ∧
          (served → (live → s.inFits k 5 = true) →
            (∀ shadow, ((s.lane k).pinShadow = true ∨ pinLive ↔ shadow = true) →
              t.lane k = { s.lane k with standby := true, window := none, decision := none, pinShadow := shadow }) ∧
            (¬live → t.inQueue k = s.inQueue k) ∧
            (live →
              t.inQueue k = s.inQueue k ++ [[5, 7, hiByte (s.lane k).tag, loByte (s.lane k).tag, 4]])) ∧
          (served → live → s.inFits k 5 = false →
            t.inQueue k = s.inQueue k ∧
              t.lane k =
                { s.lane k with
                  phase := .faulted, standby := false, wakeMarks := [], confirms := [], window := none
                  assembly := none, decision := none, pinShadow := false
                  alerts :=
                    ((s.lane k).alerts.set 4 (some (raisedEntry (s.lane k).alerts[4] 7 0))).set 7
                      (some (raisedEntry (s.lane k).alerts[7] 4 0)) }) ∧
          (served → (s.lane k).decision ≠ none →
            ∀ n, s.readerOf k = some n → (s.unit n).presence ≠ .disabled →
              (t.unit n).directives.eject.isSome = true) ∧
          (served → ∀ n, s.bound k n = true → (s.unit n).presence ≠ .disabled → (s.unit n).directives.rest = none →
            (t.unit n).directives.standby.isSome = true))

/-! ### Management requests -/

/-- READ_STATUS: its DONE reply carries the eight lane phases and the sixteen presence states of that one moment; with any
argument it is refused with BAD_LENGTH (R37). -/
def Obligations.ReadStatusReportsOneMoment : Prop :=
  ∀ (s : State) (args : List Byte),
    s.Latched (0x0C :: args) →
    let phase (k : LaneNo) : Byte :=
      match (s.lane k).phase with
      | .closed => 0
      | .opening => 1
      | .opened => 2
      | .closing => 3
      | .faulted => 4
    let presence (n : SlotNo) : Byte :=
      match (s.unit n).presence with
      | .disabled => 0
      | .seeking => 1
      | .locked => 2
      | .faltering => 3
      | .lost => 4
    exec .readStatus s =
      .next (State.selectNew
        (if args = [] then s.replied ([0x0C, 0] ++ List.ofFn phase ++ List.ofFn presence)
        else s.replied [0x0C, 3, 2, 0]))

/-- READ_COUNTERS: the counters in scope, high byte first, in the order of R12, R59 and R118; LINK is 0, the lines 1 and 2,
slot n 0x10 + n, ALL 0xFF; every other scope is refused with BAD_INDEX, and reading changes nothing (R38). CLEAR_COUNTERS:
every counter in scope is 0, the reply is DONE with no data, and nothing else changes; it is refused in the same cases
(R39). -/
def Obligations.CountersAreReadAndCleared : Prop :=
  ∀ (s : State) (scope : Byte) (n : SlotNo),
    (let c := s.link.counters
      let link : List Word16 :=
        [c.rxGood, c.rxAbort, c.rxBadEscape, c.rxBadChar, c.rxShort, c.rxLong, c.rxBadCheck, c.rxBadLength,
          c.rxUnknownNode, c.rxUnknownKind, c.rxGlitch, c.reqDropped, c.txFrames]
      let line (e : Engine) : List Word16 :=
        [e.counters.telegrams, e.counters.probes, e.counters.echoConflicts, e.counters.glitches, e.counters.charErrors,
          e.counters.strayChars, e.counters.sweepNoise, e.counters.stuck]
      let slot (n : SlotNo) : List Word16 :=
        let k := (s.unit n).counters
        [k.valid, k.noReply, k.badReply, k.interrupted, k.ignored]
      let bytes (l : List Word16) : List Byte := l.flatMap fun w => [hiByte w, loByte w]
      let reads (l : List Word16) : Host.Outcome State Fault Refusal :=
        .next (State.selectNew (s.replied ([0x0D, 0] ++ bytes l)))
      (s.Latched [0x0D, 0] → exec .readCounters s = reads link) ∧
        (s.Latched [0x0D, 1] → exec .readCounters s = reads (line s.engines.a)) ∧
        (s.Latched [0x0D, 2] → exec .readCounters s = reads (line s.engines.b)) ∧
        (s.Latched [0x0D, byteOf (0x10 + n.val)] → exec .readCounters s = reads (slot n)) ∧
        (s.Latched [0x0D, 0xFF] →
          exec .readCounters s =
            reads (link ++ line s.engines.a ++ line s.engines.b ++ (List.ofFn slot).flatten)) ∧
        (s.Latched [0x0D, scope] → 2 < scope.toNat → scope.toNat < 0x10 ∨ 0x20 ≤ scope.toNat → scope ≠ 0xFF →
          exec .readCounters s = .next (State.selectNew (s.replied [0x0D, 3, 3, scope])))) ∧
    (let t := s.replied [0x0E, 0]
      let done (t : State) : Host.Outcome State Fault Refusal := .next t.selectNew
      (s.Latched [0x0E, 0] →
        exec .clearCounters s = done { t with link := { t.link with counters := {} } }) ∧
      (s.Latched [0x0E, 1] →
        exec .clearCounters s = done { t with engines := ⟨{ s.engines.a with counters := {} }, s.engines.b⟩ }) ∧
      (s.Latched [0x0E, 2] →
        exec .clearCounters s = done { t with engines := ⟨s.engines.a, { s.engines.b with counters := {} }⟩ }) ∧
      (s.Latched [0x0E, byteOf (0x10 + n.val)] →
        exec .clearCounters s = done { t with units := s.units.set n { s.unit n with counters := {} } }) ∧
      (s.Latched [0x0E, 0xFF] →
        exec .clearCounters s =
          done
            { t with
              link := { t.link with counters := {} }
              engines := ⟨{ s.engines.a with counters := {} }, { s.engines.b with counters := {} }⟩
              units := s.units.map fun u => { u with counters := {} } }) ∧
      (s.Latched [0x0E, scope] → 2 < scope.toNat → scope.toNat < 0x10 ∨ 0x20 ≤ scope.toNat → scope ≠ 0xFF →
        exec .clearCounters s = done (s.replied [0x0E, 3, 3, scope])))

/-- LOAD_UNIT of a record that passes every check (R25 to R28): applied where the slot has no current lane or its lane is
CLOSED, staged otherwise. Applying it resets the slot as R28's table has it: the presence of a slot that is enabled,
disabled, moved or retuned, and its counters where line or address changed. -/
def Obligations.LoadUnitAppliesOrStages : Prop :=
  ∀ (s : State) (n : SlotNo) (fields : List Byte) (new : UnitRecord),
    s.Latched (1 :: byteOf n.val :: fields) → UnitRecord.ofBytes fields = .inr new →
    (new.enabled = true → s.currentLane n ≠ some new.lane → (s.lane new.lane).phase = .closed) →
    (∀ m, m ≠ n → sameAddress new (s.effective m) = false ∧ ∀ r ∈ s.bothRecords m, sameRole new r = false) →
    (new.enabled = true → ((s.lineSlots new.line).filter (· ≠ n)).length < 8) →
    let old := s.record n
    let moved : Prop := old.line ≠ new.line ∨ old.address ≠ new.address
    let resets : Prop := old.enabled ≠ new.enabled ∨ (old.enabled = true ∧ (moved ∨ old.tune ≠ new.tune))
    let table (x : SlotEntry) : Tables := { s.tables with units := s.tables.units.set n x }
    ((old.enabled = false ∨ (s.lane old.lane).phase = .closed) →
      ∃ t : State, exec .loadUnit s = .next t.selectNew ∧
        let u := t.unit n
        t =
          { s.replied ([1, if fields = new.bytes then 0 else 1, byteOf n.val] ++ new.bytes) with
            tables := table ⟨new, none⟩, units := s.units.set n u } ∧
        (resets →
          u.presence = (if new.enabled then .seeking else .disabled) ∧ u.confirm = 0 ∧ u.fail = 0 ∧
            u.syncRequest = true ∧ u.baseline = none ∧ u.pendingFlags = none ∧ u.directives = {} ∧ u.headAttempts = 0) ∧
        (¬resets → old.enabled = true → u.presence = (s.unit n).presence ∧ u.directives = (s.unit n).directives ∧
          u.baseline = (s.unit n).baseline ∧ u.syncRequest = (s.unit n).syncRequest ∧ u.confirm = (s.unit n).confirm ∧
          u.fail = (s.unit n).fail ∧ (old.lane = new.lane → u.headAttempts = (s.unit n).headAttempts)) ∧
        (moved → u.counters = {}) ∧ (¬moved → u.counters = (s.unit n).counters) ∧
        u.e = (s.unit n).e ∧ u.c = (s.unit n).c ∧ u.lastAck = (s.unit n).lastAck ∧
        u.pendingAck = (s.unit n).pendingAck ∧ u.doubt = (s.unit n).doubt ∧
        (u.superseded = true ↔ (s.unit n).superseded = true ∨ s.exchangeWith n = true)) ∧
    (old.enabled = true → (s.lane old.lane).phase ≠ .closed →
      exec .loadUnit s =
        .next (State.selectNew
          { s.replied ([1, 2, byteOf n.val] ++ new.bytes) with tables := table ⟨old, some new⟩ }))

/-- LOAD_UNIT's checks on length, index and fields (R23, R25, R185): the first field out of range is named by its position
from 1, and an m of 15 or a W of 0 is no fault; that an enabled byte of 2 or more is a fault of field 1 is log entry 28.
Then it is refused with LANE_BUSY, where the record is enabled and names a
lane other than the slot's that is not CLOSED, and with CONFLICT, where it clashes with other slots or gives its line a
ninth: the detail is the lowest slot it clashes with, or 8 (R26). Where both hold the manual names no order (log entry
16). -/
def Obligations.LoadUnitIsChecked : Prop :=
  ∀ (s : State) (index : Byte) (fields : List Byte) (place : Fin 12),
    (s.Latched (1 :: index :: fields) →
      let inRange (i : Nat) (b : Byte) : Prop :=
        match i with
        | 2 => 1 ≤ b.toNat ∧ b.toNat ≤ 31
        | 5 => b = 7 ∨ b = 8
        | 7 => b = 1 ∨ b = 2
        | i => b.toNat < [2, 2, 0, 3, 8, 0, 4, 0, 8, 16, 16, 4].getD i 0
      let refused (reason detail : Byte) : Host.Outcome State Fault Refusal :=
        .next (s.replied [1, 3, reason, detail]).selectNew
      (fields.length ≠ 12 → exec .loadUnit s = refused 2 0) ∧
        (fields.length = 12 → 15 < index.toNat → exec .loadUnit s = refused 3 index) ∧
        (fields.length = 12 → index.toNat ≤ 15 → ¬inRange place.val (fields.getD place.val 0) →
          (∀ j : Fin 12, j < place → inRange j.val (fields.getD j.val 0)) →
          exec .loadUnit s = refused 4 (byteOf (place.val + 1))) ∧
        (fields.length = 12 → (∀ j : Fin 12, inRange j.val (fields.getD j.val 0)) →
          match UnitRecord.ofBytes fields with
          | .inl _ => False
          | .inr r =>
            r.bytes = (fields.set 9 (if fields.getD 9 0 = 15 then 14 else fields.getD 9 0)).set 10
              (if fields.getD 10 0 = 0 then 1 else fields.getD 10 0))) ∧
    ∀ (n : SlotNo) (new : UnitRecord),
      s.Latched (1 :: byteOf n.val :: fields) → UnitRecord.ofBytes fields = .inr new → new.enabled = true →
          let busy : Prop := s.currentLane n ≠ some new.lane ∧ (s.lane new.lane).phase ≠ .closed
          let clashes (m : SlotNo) : Prop :=
            m ≠ n ∧ (sameAddress new (s.effective m) = true ∨ ∃ r ∈ s.bothRecords m, sameRole new r = true)
          let full : Prop := 8 ≤ ((s.lineSlots new.line).filter (· ≠ n)).length
          (busy → exec .loadUnit s = .next (s.replied [1, 3, 5, byteOf new.lane.val]).selectNew) ∧
            (¬busy → ∀ m, clashes m → (∀ j, clashes j → m ≤ j) → ¬full →
              exec .loadUnit s = .next (s.replied [1, 3, 6, byteOf m.val]).selectNew) ∧
            (¬busy → (∀ m, ¬clashes m) → full → exec .loadUnit s = .next (s.replied [1, 3, 6, 8]).selectNew)

/-- READ_UNIT and READ_LANE report a slot's records, or a lane's settings and phase, and change nothing (R25, R29). LOAD_LANE
of a CLOSED lane, LOAD_KEYMAP, LOAD_POLICY and LOAD_PROMPT store their values as R29 to R32 clamp or replace them; the reply
carries them as stored, CLAMPED where one was changed. -/
def Obligations.LoadsStoreAndReadsReport : Prop :=
  (∀ (s : State) (n : SlotNo) (k : LaneNo) (index : Byte),
      let r := s.laneSettings k
      (s.Latched [2, byteOf n.val] →
        (s.staged n = none → exec .readUnit s = .next (s.replied ([2, 0] ++ (s.record n).bytes ++ [0])).selectNew) ∧
        (∀ staged, s.staged n = some staged →
          exec .readUnit s = .next (s.replied ([2, 0] ++ (s.record n).bytes ++ [1] ++ staged.bytes)).selectNew)) ∧
      (s.Latched [2, index] → 15 < index.toNat → exec .readUnit s = .next (s.replied [2, 3, 3, index]).selectNew) ∧
      (s.Latched [4, byteOf k.val] →
        exec .readLane s =
          .next (State.selectNew (s.replied
            [4, 0, byteOf r.policy.val, if r.cardHold then 1 else 0, byteOf r.timeout.val, byteOf r.standbyPrompt.val,
              byteOf r.closedPrompt.val, (s.lane k).phase.code]))) ∧
      (s.Latched [4, index] → 7 < index.toNat → exec .readLane s = .next (s.replied [4, 3, 3, index]).selectNew)) ∧
    ∀ (s : State) (k : LaneNo) (i : Fin 4) (j p q : Fin 8) (po : Fin 4) (hold : Bool) (time first last mask : Byte)
      (keys text : List Byte),
      let stored (changed : Bool) (data : List Byte) (code : Byte) (t : Tables) : Host.Outcome State Fault Refusal :=
        .next (State.selectNew { s.replied ([code, if changed then 1 else 0] ++ data) with tables := t })
      let seconds : Fin 121 := Fin.ofNat 121 (Nat.max 1 (Nat.min 120 time.toNat))
      (s.Latched [3, byteOf k.val, byteOf po.val, if hold then 1 else 0, time, byteOf p.val, byteOf q.val] →
        (s.lane k).phase = .closed →
        exec .loadLane s =
          stored (seconds.val ≠ time.toNat)
            [byteOf k.val, byteOf po.val, if hold then 1 else 0, byteOf seconds.val, byteOf p.val, byteOf q.val] 3
            { s.tables with lanes := s.tables.lanes.set k ⟨po, hold, seconds, p, q⟩ }) ∧
      (s.Latched (5 :: byteOf i.val :: keys) → keys.length = 32 →
        exec .loadKeymap s =
          stored (keys.any fun b => decide (0x12 < b.toNat))
            (byteOf i.val :: keys.map fun b => if 0x12 < b.toNat then 0x12 else b) 5
            { s.tables with keyMaps := s.tables.keyMaps.set i (keyMapOf keys) } ∧
        (keyMapOf keys).toList.map LogicalKey.code = keys.map fun b => if 0x12 < b.toNat then 0x12 else b) ∧
      (s.Latched [6, byteOf i.val, first, last, mask] → ¬(0x30 ≤ mask.toNat ∧ mask.toNat ≤ 0x39) → mask ≠ 0x3D →
        let kf : Fin 9 := Fin.ofNat 9 (Nat.min 8 first.toNat)
        let kl : Fin 5 := Fin.ofNat 5 (Nat.min 4 last.toNat)
        let m : Byte := if 0x20 ≤ mask.toNat ∧ mask.toNat ≤ 0x7E then mask else 0x2A
        exec .loadPolicy s =
          stored (kf.val ≠ first.toNat ∨ kl.val ≠ last.toNat ∨ m ≠ mask)
            [byteOf i.val, byteOf kf.val, byteOf kl.val, m] 6
            { s.tables with policies := s.tables.policies.set i ⟨kf, kl, m⟩ }) ∧
      (s.Latched (8 :: byteOf j.val :: text) → text.length ≤ 40 →
        let kept := text.map fun c => if 0x20 ≤ c.toNat ∧ c.toNat ≤ 0x7E then c else 0x3F
        exec .loadPrompt s =
          stored (kept ≠ text) (byteOf j.val :: kept) 8
            { s.tables with prompts := s.tables.prompts.set j kept })

/-- LOAD_RING of a ring whose entries all name slots of its line (R33, R90): it replaces the ring, and the line's engine
takes notice as R90 gives, a confirmation run that has a telegram due going on (log entry 15); an entry of another line is
refused with CONFLICT and its position, a count above 12 and an entry above 15 with BAD_VALUE (R185). -/
def Obligations.LoadRingReplacesTheRing : Prop :=
  ∀ (s : State) (l : Line) (ring : List SlotNo) (count : Byte) (entries : List Byte) (place : Nat),
    let line : Byte := match l with | .a => 0 | .b => 1
    let body := ring.map fun n : SlotNo => byteOf n.val
    (s.Latched (7 :: line :: byteOf ring.length :: body) → ring.length ≤ 12 →
      ((∀ n ∈ ring, (s.record n).line = l) →
        let old := s.engine l
        let cut : Engine :=
          { old with
            cut := true
            ringPtr := if old.stage = .sweepStep ∨ old.stage = .tickWait then ring.length else old.ringPtr }
        let atEnd : Prop := old.stage = .ring ∧ old.due = some .entry
        let loaded (e : Engine) (units : Vector UnitRun 16) : Host.Outcome State Fault Refusal :=
          .next (State.selectNew
            { s.replied (7 :: 0 :: line :: byteOf ring.length :: body) with
              tables := { s.tables with rings := s.tables.rings.set l ring }
              engines := s.engines.set l e
              units := units })
        (¬atEnd → exec .loadRing s = loaded cut s.units) ∧
        (atEnd → (s.lineInForce l).sweep = true →
          exec .loadRing s =
            loaded
              { cut with ringPtr := ring.length, stage := .sweepStep, xstate := .paused, due := some .probe } s.units) ∧
        (atEnd → (s.lineInForce l).sweep = false → old.passActive = false →
          exec .loadRing s =
            loaded { cut with ringPtr := ring.length, stage := .tickWait, xstate := .idle, due := none } s.units) ∧
        (atEnd → (s.lineInForce l).sweep = false → old.passActive = true →
          exec .loadRing s = .next (State.selectNew
            (State.beginPass
              { s.replied (7 :: 0 :: line :: byteOf ring.length :: body) with
                tables := { s.tables with rings := s.tables.rings.set l ring } } l)))) ∧
      (∀ n, ring[place]? = some n → (s.record n).line ≠ l → (∀ m ∈ ring.take place, (s.record m).line = l) →
        exec .loadRing s = .next (s.replied [7, 3, 6, byteOf (place + 1)]).selectNew)) ∧
    (s.Latched (7 :: line :: count :: entries) → entries.length = count.toNat →
      (12 < count.toNat → exec .loadRing s = .next (s.replied [7, 3, 4, 1]).selectNew) ∧
      (count.toNat ≤ 12 → ∀ b, entries[place]? = some b → 15 < b.toNat →
        (∀ c ∈ entries.take place, c.toNat ≤ 15) →
        exec .loadRing s = .next (s.replied [7, 3, 4, byteOf (place + 2)]).selectNew))

/-- LOAD_PARTITION (R34): accepted where every size is at least 2, their sum is at most 128, and no size changes of a lane
that is not CLOSED or of a queue that holds a record; refused otherwise, in that order. -/
def Obligations.LoadPartitionChecksItsSizes : Prop :=
  ∀ (s : State) (sizes : Vector Byte 16) (place : Fin 16) (k : LaneNo),
    s.Latched (9 :: sizes.toList) →
    let total := (sizes.toList.map BitVec.toNat).sum
    let busy (k : LaneNo) : Prop :=
      (sizes[inPlace k].toNat ≠ s.tables.partition[inPlace k] ∧ ((s.lane k).phase ≠ .closed ∨ s.inQueue k ≠ [])) ∨
        (sizes[outPlace k].toNat ≠ s.tables.partition[outPlace k] ∧ ((s.lane k).phase ≠ .closed ∨ s.outQueue k ≠ []))
    let refused (reason detail : Byte) : Host.Outcome State Fault Refusal :=
      .next (s.replied [9, 3, reason, detail]).selectNew
    (sizes[place].toNat < 2 → (∀ j : Fin 16, j < place → 2 ≤ sizes[j].toNat) →
      exec .loadPartition s = refused 4 (byteOf (place.val + 1))) ∧
    ((∀ j : Fin 16, 2 ≤ sizes[j].toNat) →
      (128 < total → exec .loadPartition s = refused 4 0) ∧
      (total ≤ 128 → busy k → (∀ j, j < k → ¬busy j) → exec .loadPartition s = refused 5 (byteOf k.val)) ∧
      (total ≤ 128 → (∀ j, ¬busy j) →
        exec .loadPartition s =
          .next (State.selectNew
            { s.replied (9 :: 0 :: sizes.toList) with
              tables := { s.tables with partition := sizes.map BitVec.toNat } })))

/-- SET_LINK and SET_LINE keep their clamped values for later: the link settings until the closing delimiter of this reply's
frame (R19), the line settings until the line's next transmission (R36, R45); nothing in force changes. SOFT_RESET is
answered DONE and marked pending (R40). A request with an unknown code is refused with that code, and one with an empty
body with code 0 (R23). -/
def Obligations.SettingsAndSoftResetWait : Prop :=
  ∀ (s : State) (p : Fin 8) (m time stuck code : Byte) (args : List Byte) (l : Line) (data : DataBits) (parity : Parity)
    (stop : StopBits) (recovery : Recovery) (sweep : Bool),
    (m.toNat ≤ 15 →
      let rate : Fin 15 := Fin.ofNat 15 (Nat.min 14 m.toNat)
      let seconds : Fin 61 := Fin.ofNat 61 (Nat.min 60 time.toNat)
      let limit : Fin 251 := Fin.ofNat 251 (Nat.max 10 (Nat.min 250 stuck.toNat))
      let settings : LineSettings := ⟨⟨data, parity, stop, p, rate⟩, limit, recovery, sweep⟩
      let line : Byte := match l with | .a => 0 | .b => 1
      (s.Latched [0x0A, byteOf p.val, m, time] →
        exec .setLink s =
          .next (State.selectNew
            { s.replied
                [0x0A, if rate.val = m.toNat ∧ seconds.val = time.toNat then 0 else 1, byteOf p.val, byteOf rate.val,
                  byteOf seconds.val] with
              tables := { s.tables with link := ⟨p, rate, seconds⟩ } })) ∧
      (s.Latched
          [0x0B, line, byteOf p.val, m, data.code, parity.code, stop.code, stuck, recovery.code, if sweep then 1 else 0] →
        exec .setLine s =
          .next (State.selectNew
            { s.replied
                [0x0B, if rate.val = m.toNat ∧ limit.val = stuck.toNat then 0 else 1, line, byteOf p.val, byteOf rate.val,
                  data.code, parity.code, stop.code, byteOf limit.val, recovery.code, if sweep then 1 else 0] with
              tables := { s.tables with lines := s.tables.lines.set l ⟨s.lineInForce l, some settings⟩ } }))) ∧
    (s.Latched [0x0F] → exec .softReset s = .next (State.selectNew { s.replied [0x0F, 0] with softPending := true })) ∧
    (s.Latched (0x0F :: args) → args ≠ [] → exec .softReset s = .next (s.replied [0x0F, 3, 2, 0]).selectNew) ∧
    (s.Latched (code :: args) → code.toNat = 0 ∨ 15 < code.toNat →
      exec .unknownRequest s = .next (s.replied [code, 3, 1, 0]).selectNew) ∧
    (s.Latched [] → exec .unknownRequest s = .next (s.replied [0, 3, 2, 0]).selectNew)

/-- Every request that MGU takes is answered, and one it refuses changes nothing but the latch and the reply slot, whatever
its bytes are (R22, R23). While a reply waits or a soft reset is pending, the request stays in the latch. -/
def Obligations.RefusedRequestsChangeNothing : Prop :=
  ∀ (s : State) (c : Instr) (code : Byte) (args : List Byte) (f : Frame),
    (c, code.toNat) ∈
        [(Instr.loadUnit, 1), (.readUnit, 2), (.loadLane, 3), (.readLane, 4), (.loadKeymap, 5), (.loadPolicy, 6),
          (.loadRing, 7), (.loadPrompt, 8), (.loadPartition, 9), (.setLink, 10), (.setLine, 11), (.readStatus, 12),
          (.readCounters, 13), (.clearCounters, 14), (.softReset, 15)] →
    s.link.tx = .sending f → s.link.latch = some (code :: args) →
    (s.reply = none → s.softPending = false →
      ∃ t : State, exec c s = .next t ∧ t.link = { s.link with latch := none, counters := t.link.counters } ∧
        let body := t.reply.getD []
        body.head? = some code ∧ 2 ≤ body.length ∧
          (body.getD 1 0 = 3 → body.length = 4 ∧ t = s.replied body)) ∧
    (s.reply ≠ none ∨ s.softPending = true → exec c s = .next s)

/-- Every layout that a load carries is read back as it was written: unit records, lane settings, line settings, link
settings and policies (R25, R29, R31, R35, R36, section 11.6). -/
def Obligations.LayoutsReadBack : Prop :=
  (∀ r : UnitRecord, r.address ≠ 0 → r.window ≠ 0 → UnitRecord.ofBytes r.bytes = .inr r) ∧
    (∀ r : LaneSettings, r.timeout ≠ 0 → LaneSettings.ofBytes r.bytes = .inr r) ∧
    (∀ r : LineSettings, 10 ≤ r.stuckLimit.val → LineSettings.ofBytes r.bytes = .inr r) ∧
    (∀ r : LinkSettings, LinkSettings.ofBytes r.bytes = .inr r) ∧
    (∀ r : Policy, 0x20 ≤ r.mask.toNat → r.mask.toNat ≤ 0x7E → ¬(0x30 ≤ r.mask.toNat ∧ r.mask.toNat ≤ 0x39) →
      r.mask ≠ 0x3D → Policy.ofBytes r.bytes = .inr r) ∧
    ∀ key : LogicalKey, LogicalKey.ofByte key.code = key

/-! ### Drop lines -/

/-- The receiver of a drop line (R45, R48 to R51, R54, R56): start edges, the end of a break, the end of the chatter
interval and stray characters; a character whose start bit was accepted with the driver high goes to the echo check and
nowhere else, also when it is delivered after the driver is lowered (R51; log entry 22). STRAY_CHARACTER also delivers a
character of a reply period that has ended, which goes nowhere (log entry 6). After each, the receiver is tuned as R45 and
R50 say and a settled line's watchdog counter is 0. -/
def Obligations.LineReceiverFollowsTheLine : Prop :=
  ∀ (s : State) (l : Line) (ch : Sampled) (accepted : Bool),
    let e := s.engine l
    let now (e : Engine) : Host.Outcome State Fault Refusal :=
      .next (State.selectNew (State.refresh { s with engines := s.engines.set l e } l))
    let inReply : Prop := e.xstate = .await ∨ e.xstate = .receiving
    let error := e.tuned.error ch
    let base := (s.lineInForce l).base
    -- what follows at once from any event at the line
    s.refresh l =
      { s with
        engines := s.engines.set l
          { e with
            tuned :=
              match e.rx, e.exchange with
              | .inCharacter _, _ => e.tuned
              | _, none => base
              | _, some x => if e.xstate = .sending ∨ inReply then x.tune else base
            watchdog := if (e.rx = .inBreak ∧ e.driver = false) ∨ e.chatter = true then e.watchdog else 0 } } ∧
    (e.rx = .atRest →
      exec (.startEdge l true) s =
        now
          { e with
            rx := .inCharacter (if e.driver then .echo else if inReply then .reply else .stray)
            xstate := if e.driver = false ∧ e.xstate = .await then .receiving else e.xstate } ∧
      exec (.startEdge l false) s =
        now
          (if e.driver then e
          else { e with counters := { e.counters with glitches := bump e.counters.glitches } })) ∧
    (e.rx ≠ .atRest → exec (.startEdge l accepted) s = .next s.selectNew) ∧
    (e.rx = .inBreak → exec (.breakEnds l) s = now { e with rx := .atRest }) ∧
    (e.rx ≠ .inBreak → exec (.breakEnds l) s = .next s.selectNew) ∧
    (e.chatter = true → exec (.chatterIntervalEnds l) s = now { e with chatter := false }) ∧
    (e.chatter = false → exec (.chatterIntervalEnds l) s = .next s.selectNew) ∧
    (e.rx = .inCharacter .stray ∨ (e.rx = .atRest ∧ e.driver = false ∧ ¬inReply) →
      exec (.strayCharacter l ch) s =
        now
          { e with
            rx := if error = .framing then .inBreak else .atRest
            chatter := true
            counters := { e.counters with
              strayChars := bump e.counters.strayChars
              charErrors := if error = .none then e.counters.charErrors else bump e.counters.charErrors } }) ∧
    (e.rx = .inCharacter .echo ∨ (e.rx = .atRest ∧ e.driver = true) →
      exec (.strayCharacter l ch) s = now { e with rx := if error = .framing then .inBreak else .atRest }) ∧
    (let awaited : Prop := inReply ∧ (e.exchange ≠ none ∨ e.probe ≠ none)
      let reply : Prop := e.rx = .inCharacter .reply ∨ (e.rx = .atRest ∧ e.driver = false ∧ inReply)
      (e.rx = .inBreak ∨ (reply ∧ awaited) → exec (.strayCharacter l ch) s = .next s.selectNew) ∧
      (reply → ¬awaited →
        exec (.strayCharacter l ch) s =
          now
            { e with
              rx := if error = .framing then .inBreak else .atRest
              counters :=
                if error = .none then e.counters
                else { e.counters with charErrors := bump e.counters.charErrors } }))

/-- TELEGRAM on a ready line (R45, R47, R53, R55, R64): what is due is built from the slot's state and its first
transmission begins with the waiting line settings adopted; a telegram that conflicted is sent again unchanged. SWEEP on a
ready line (R45, R91, R92): the probe's range is the top of the stack, or [1,31] where the stack is empty, and its bytes are
those of a SWEEP telegram; a probe that conflicted is sent again unchanged (R53). On a line that is not ready nothing
begins. -/
def Obligations.TransmissionsBeginOnAReadyLine : Prop :=
  ∀ (s : State) (l : Line) (n : SlotNo),
    let e := s.engine l
    let slot := s.record n
    let ready : Prop := e.rx = .atRest ∧ e.chatter = false ∧ e.driver = false
    let adopted : PerLine LineTable :=
      match (s.tables.lines.get l).waiting with
      | none => s.tables.lines
      | some w => s.tables.lines.set l ⟨w, none⟩
    let begun : Host.Outcome State Fault Refusal :=
      .next (State.selectNew (State.refresh
        { s with
          tables := { s.tables with lines := adopted }
          engines := s.engines.set l
            { e with
              xstate := .sending, due := none, exchange := some (s.buildExchange n), conflicts := 0, received := []
              driver := true, passActive := true } } l))
    let range : AddrRange := e.stack.headD ⟨1, 31⟩
    let header : List Byte := [0, 2, 2, byteOf range.lo, byteOf range.hi]
    e.stage ≠ .toBegin →
    (ready → e.xstate = .paused → e.exchange = none → e.probe = none → slot.enabled = true → slot.line = l →
      (e.due = some .entry → (s.ring l)[e.ringPtr]? = some n →
        (s.unit n).presence = .locked ∨ (s.unit n).presence = .faltering → exec (.telegram l) s = begun) ∧
      (∀ r, e.run = some r → e.due = some .run → r.slot = n →
        (s.unit n).presence = .seeking ∨ (r.atEntry = true ∧ (s.unit n).presence = .lost) →
        exec (.telegram l) s = begun)) ∧
    (ready → e.xstate = .paused → e.exchange ≠ none →
      exec (.telegram l) s =
        .next (State.selectNew (State.refresh
          { s with engines := s.engines.set l { e with xstate := .sending, driver := true } } l))) ∧
    (¬ready ∨ e.xstate ≠ .paused → exec (.telegram l) s = .next s.selectNew) ∧
    (ready → e.xstate = .paused → e.exchange = none → e.probe = none → e.due = some .probe →
      exec (.sweep l) s =
        .next (State.selectNew (State.refresh
          { s with
            tables := { s.tables with lines := adopted }
            engines := s.engines.set l
              { e with
                xstate := .sending, due := none, stack := e.stack.tail, conflicts := 0, answers := [], driver := true
                passActive := true
                probe := some ⟨range, header ++ [checkByte (adopted.get l).inForce.base.data header]⟩ } } l))) ∧
    (ready → e.xstate = .paused → e.exchange = none → e.probe ≠ none →
      exec (.sweep l) s =
        .next (State.selectNew (State.refresh
          { s with engines := s.engines.set l { e with xstate := .sending, driver := true } } l))) ∧
    (¬ready ∨ e.xstate ≠ .paused → exec (.sweep l) s = .next s.selectNew)

/-- The telegram that is built for a slot: the list of R79 for a trusted slot, SYNC or POLL for one that is being
confirmed; its bytes as R61, R63, R183 and R186 lay them out; the prompt of a REST or STANDBY as R154 cuts it. A head record
that is not for the slot's role, or whose lane is FAULTED or CLOSING, is not carried: the slot is polled (R79). -/
def Obligations.TelegramsAreChosenInOrder : Prop :=
  ∀ (s : State) (n : SlotNo) (d : Directive) (p : Pending) (r : OutRecord) (more : List OutRecord),
    let u := s.unit n
    let slot := s.record n
    let k := slot.lane
    let x := s.buildExchange n
    let ack : Nat × Bool :=
      match u.pendingAck with
      | .none => (0, false)
      | .given .accept seq => (1, seq)
      | .given .hold seq => (2, seq)
      | .given .refuse seq => (3, seq)
    let control (kind : Nat) : Byte :=
      byteOf (kind + 8 * ack.1 + (if u.c then 32 else 0) + (if ack.2 then 64 else 0))
    let sends (kind : TelegramKind) (item : Option Item) (control : Byte) (payload : List Byte) : Prop :=
      x.kind = kind ∧ x.item = item ∧
        x.bytes = telegramBytes slot.tune.data (byteOf slot.address.val) control payload
    let trusted : Prop := u.presence = .locked ∨ u.presence = .faltering
    let shutting : Prop := slot.kind ≠ .reader ∧ ∃ w, (s.lane k).window = some w ∧ w.phase = .shutting
    let room : Nat := match slot.kind with | .pinpad => 32 | .combo => 40 | .reader => 0
    let command : List Byte :=
      match d with
      | .eject => [8]
      | .keep => [9]
      | .wake => [10]
      | .rest => 11 :: (s.tables.prompts[(s.laneSettings k).closedPrompt]).take room
      | .standby => 12 :: (s.tables.prompts[(s.laneSettings k).standbyPrompt]).take room
    let before : List Directive := [.eject, .keep, .standby, .rest, .wake].takeWhile (· ≠ d)
    let role := (r.bytes.getD 2 0).toNat % 4
    let carried : Prop :=
      s.outQueue k = r :: more ∧ (s.lane k).phase ≠ .faulted ∧ (s.lane k).phase ≠ .closing ∧
        ((role = 1 ∧ slot.kind ≠ .reader) ∨ (role = 2 ∧ slot.kind ≠ .pinpad))
    slot.enabled = true →
    x.slot = n ∧ x.tune = slot.tune ∧ x.window = slot.window ∧
      (u.syncRequest = true → sends .sync none 3 []) ∧
      (u.syncRequest = false →
        (¬trusted → sends .poll none (control 0) []) ∧
        (trusted → shutting → sends .shut none (control 4) []) ∧
        (trusted → ¬shutting →
          (u.doubt ≠ none → sends .poll none (control 0) []) ∧
          (u.doubt = none →
            (u.directives.get d = some p → (∀ b ∈ before, u.directives.get b = none) →
              sends .command (some (.directive d p.serial)) (control 1) command) ∧
            ((∀ b ∈ [Directive.eject, .keep, .standby, .rest, .wake], u.directives.get b = none) →
              (carried →
                sends .command (some (.record k r.serial)) (control 1)
                  (if r.bytes.getD 1 0 = 5 then
                    [5, r.bytes.getD 3 0, if (r.bytes.getD 2 0).getLsbD 3 then 1 else 0]
                  else r.bytes.getD 1 0 :: r.bytes.drop 3)) ∧
              (s.outQueue k = [] ∨ (s.outQueue k = r :: more ∧ ¬carried) → sends .poll none (control 0) [])))))

/-- A transmission completes, or meets an echo conflict (R47, R52, R53): a completed one is counted and the reply period
begins; a conflict lowers the driver and is counted, and below the 4th the same transmission waits to be sent again; the
4th ends a telegram as CONFLICT_LIMIT and pushes a probe's range back. The transmit output carries what is being sent while
the driver is high, and is at mark whenever it is low (R46, R47). -/
def Obligations.TransmissionsCompleteOrConflict : Prop :=
  ∀ (s : State) (l : Line) (index : Nat) (readBack : Option Sampled) (sent : Byte),
    let e := s.engine l
    let now (e : Engine) : Host.Outcome State Fault Refusal :=
      .next (State.selectNew (State.refresh { s with engines := s.engines.set l e } l))
    let counted : LineCounters := { e.counters with echoConflicts := bump e.counters.echoConflicts }
    let passes : Prop :=
      match readBack with
      | none => False
      | some ch => e.tuned.error ch = .none ∧ e.tuned.delivered ch = e.tuned.data.value sent
    let rx : LineRx :=
      match readBack with
      | none => e.rx
      | some ch => if e.tuned.error ch = .framing then .inBreak else .atRest
    (e.driver = false → s.lineOutput l = .mark) ∧
    (e.driver = true →
      (∀ x, e.exchange = some x → e.xstate = .sending →
        s.lineOutput l = .carries (x.bytes.flatMap x.tune.sentBits)) ∧
      (e.exchange = none → ∀ p, e.probe = some p →
        s.lineOutput l = .carries (p.bytes.flatMap (s.lineInForce l).base.sentBits))) ∧
    (e.xstate ≠ .sending →
      exec (.transmissionComplete l) s = .next s.selectNew ∧
        exec (.echoConflict l index readBack) s = .next s.selectNew) ∧
    (e.xstate = .sending →
      let done : Engine := { e with driver := false, xstate := .await, received := [], answers := [] }
      (∀ x, e.exchange = some x →
        exec (.transmissionComplete l) s =
          now { done with counters := { e.counters with telegrams := bump e.counters.telegrams } }) ∧
      (e.exchange = none → ∀ p, e.probe = some p →
        exec (.transmissionComplete l) s =
          now { done with counters := { e.counters with probes := bump e.counters.probes } }) ∧
      (e.sent[index]? = some sent →
        (passes → exec (.echoConflict l index readBack) s = .next s.selectNew) ∧
        (¬passes → e.conflicts + 1 < 4 →
          exec (.echoConflict l index readBack) s =
            now
              { e with
                driver := false, rx := rx, conflicts := e.conflicts + 1, xstate := .paused, counters := counted }) ∧
        (¬passes → 4 ≤ e.conflicts + 1 → e.exchange = none ∨ e.probe = none →
          ∃ t : State, exec (.echoConflict l index readBack) s = .next t.selectNew ∧
            (t.engine l).driver = false ∧ (t.engine l).exchange = none ∧ (t.engine l).probe = none ∧
            (t.engine l).conflicts = 0 ∧ (t.engine l).counters = counted ∧ (t.engine l).xstate ≠ .sending ∧
            (∀ x, e.exchange = some x → (t.engine l).stack = e.stack) ∧
            (∀ x, e.exchange = some x → (s.unit x.slot).superseded = false → s.RecordStays x.slot →
              (t.unit x.slot).counters =
                { (s.unit x.slot).counters with interrupted := bump (s.unit x.slot).counters.interrupted }) ∧
            (e.exchange = none → ∀ p, e.probe = some p → (t.engine l).stack = p.range :: e.stack))))

/-- An exchange that fails without a complete reply: NO_REPLY where the reply window runs out, TRUNCATED where the gap limit
does (R66, R68, R70). It is counted, the slot's presence moves as R105 and R107 to R109 say, a command item that is still
pending has one attempt more and is in doubt (R81, R82), the run in progress ends (R96), and the guard begins. The third
failure in a row makes the slot LOST: UNIT_LOST is raised, and then a lane in OPENING or OPEN is FAULTED, and in CLOSING the
slot's confirmation is waived, which ends the closing where no other waits (R108, R143, R144; log entry 10). Where a record
was applied during the exchange nothing of this happens to the slot (R28). -/
def Obligations.FailedExchangesMovePresence : Prop :=
  ∀ (s : State) (l : Line) (x : Exchange),
    let e := s.engine l
    let n := x.slot
    let u := s.unit n
    let moves : Bool := match e.run with | none => decide (e.stage = .ring) | some r => r.atEntry
    let guarding : Engine :=
      { e with
        exchange := none, received := [], conflicts := 0, xstate := .guarding, run := none
        due := if e.run = none then e.due else none
        ringPtr := if moves then (if e.cut then (s.ring l).length else e.ringPtr + 1) else e.ringPtr }
    let after (u : UnitRun) : Host.Outcome State Fault Refusal :=
      .next (State.selectNew (State.refresh
        { s with units := s.units.set n u, engines := s.engines.set l guarding } l))
    let moved (counters : SlotCounters) : UnitRun :=
      match u.presence with
      | .locked => { u with counters := counters, presence := .faltering, fail := 1 }
      | .faltering => { u with counters := counters, fail := u.fail + 1 }
      | .seeking => { u with counters := counters, confirm := 0 }
      | .lost => { u with counters := counters }
      | .disabled => { u with counters := counters }
    let tried (u : UnitRun) : UnitRun :=
      match x.kind, x.item with
      | .command, some (.directive d serial) =>
        match u.directives.get d with
        | some p =>
          if p.serial = serial then
            { u with
              directives := u.directives.put d (some ⟨p.attempts + 1, serial⟩), doubt := some (.directive d serial) }
          else { u with doubt := some (.directive d serial) }
        | none => { u with doubt := some (.directive d serial) }
      | .command, some (.record k serial) =>
        if ((s.outQueue k).head?.map OutRecord.serial) = some serial then
          { u with headAttempts := u.headAttempts + 1, doubt := some (.record k serial) }
        else { u with doubt := some (.record k serial) }
      | _, _ => u
    let eighth : Prop :=
      match x.kind, x.item with
      | .command, some it => s.itemPending n it = true ∧ 7 ≤ u.attempts it
      | _, _ => False
    let noReply : SlotCounters := { u.counters with noReply := bump u.counters.noReply }
    let badReply : SlotCounters := { u.counters with badReply := bump u.counters.badReply }
    e.exchange = some x →
    (e.xstate ≠ .await → exec (.noReply l) s = .next s.selectNew) ∧
    (e.xstate ≠ .receiving ∨ (∃ o, e.rx = .inCharacter o) → exec (.truncated l) s = .next s.selectNew) ∧
    (u.superseded = true → e.xstate = .await → exec (.noReply l) s = after { u with superseded := false }) ∧
    (u.superseded = false → ¬(u.presence = .faltering ∧ 2 ≤ u.fail) → ¬eighth →
      (e.xstate = .await → exec (.noReply l) s = after (tried (moved noReply))) ∧
      (e.xstate = .receiving → (∀ o, e.rx ≠ .inCharacter o) →
        exec (.truncated l) s = after (tried (moved badReply)))) ∧
    (u.superseded = false → u.presence = .faltering → 2 ≤ u.fail → ¬eighth →
      let third (counters : SlotCounters) (failed : Host.Outcome State Fault Refusal) : Prop :=
        let lost : UnitRun := tried { u with presence := .lost, fail := 0, returning := true, counters := counters }
        let gone : State := { s with units := s.units.set n lost, engines := s.engines.set l guarding }
        let ends (t : State) : Prop := failed = .next (State.selectNew (State.refresh t l))
        ((s.record n).enabled = false → ends gone) ∧
        ((s.record n).enabled = true →
          let k := (s.record n).lane
          let role : Byte := match (s.record n).kind with | .pinpad => 1 | .reader => 2 | .combo => 3
          -- UNIT_LOST is raised first, and is selected before the rest where the transmitter is IDLE
          let told : State := s.atOnce (gone.alerted k 0 role 0)
          ((s.lane k).phase = .closed ∨ (s.lane k).phase = .faulted → ends told) ∧
          ((s.lane k).phase = .opening ∨ (s.lane k).phase = .opened →
            ((s.lane k).decision = none ∨ s.readerOf k = none → ends (told.faultedFor k 1)) ∧
            ((s.lane k).decision ≠ none →
              ∀ m, s.readerOf k = some m →
                ends ((if told.trusted m then told.setDirective m .eject else told).faultedFor k 1))) ∧
          ((s.lane k).phase = .closing →
            ((s.lane k).WaitsForOther n → ends (told.waivedFor k n)) ∧
            (¬(s.lane k).WaitsForOther n → s.NoneStaged → s.inFits k 4 = true → ends (told.closedFor k))))
      (e.xstate = .await → third noReply (exec (.noReply l) s)) ∧
      (e.xstate = .receiving → (∀ o, e.rx ≠ .inCharacter o) → third badReply (exec (.truncated l) s)))

/-- The characters of a reply (R51, R67, R69): each good one is stored; an error, a LENGTH above 48 or a failed check ends the
exchange as a bad reply does, exactly as a gap that runs out at that moment would. -/
def Obligations.ReplyCharactersAreStoredOrFail : Prop :=
  ∀ (s : State) (l : Line) (x : Exchange) (ch : Sampled),
    let e := s.engine l
    let error := e.tuned.error ch
    let value := e.tuned.delivered ch
    let bytes := e.received ++ [value]
    let taken : Engine :=
      { e with
        rx := if error = .framing then .inBreak else .atRest
        xstate := .receiving
        counters :=
          if error = .none then e.counters
          else { e.counters with charErrors := bump e.counters.charErrors } }
    let complete : Prop := 4 + (bytes.getD 2 0).toNat ≤ bytes.length
    e.exchange = some x → e.xstate = .await ∨ e.xstate = .receiving →
    e.rx = .inCharacter .reply ∨ (e.rx = .atRest ∧ e.driver = false) →
    (error = .none → ¬(bytes.length = 3 ∧ 48 < value.toNat) → ¬complete →
      exec (.replyCharacter l ch) s =
        .next (State.selectNew (State.refresh
          { s with engines := s.engines.set l { taken with received := bytes } } l))) ∧
    (error ≠ .none ∨ (bytes.length = 3 ∧ 48 < value.toNat) ∨
        (complete ∧ (judgeReply x.tune.data (x.bytes.headD 0) bytes).isValid = false) →
      exec (.replyCharacter l ch) s = exec (.truncated l) { s with engines := s.engines.set l taken }) ∧
    (exec (.reply l [ch]) s = exec (.replyCharacter l ch) s)

/-- A whole reply to a POLL of a trusted slot that has no doubt, sent without disturbance (R67, R71, R74, R75, R107): an IDLE
reply leaves the acknowledgement NONE; a data reply whose sequence bit is not e is a repeat, which gives the last
acknowledgement again and changes no lane; a new one is taken by the lane, and the verdict is the acknowledgement, stored as
last, with e flipped unless it is HOLD; KEYS that an OPEN lane without a window takes become one KEYS record, or are held
where it does not fit (R124, R156). -/
def Obligations.WholeRepliesAreApplied : Prop :=
  ∀ (s : State) (l : Line) (x : Exchange) (kind : ReplyKind) (seq : Bool) (payload : List Byte),
    let e := s.engine l
    let n := x.slot
    let u := s.unit n
    let k := (s.record n).lane
    let code : Nat := match kind with | .idle => 0 | .keys => 1 | .card => 2 | .status => 3 | .pinBlock => 4
    let bytes := telegramBytes x.tune.data (x.bytes.headD 0) (byteOf (code + if seq then 8 else 0)) payload
    let answered := exec (.reply l (bytes.map x.tune.undisturbed)) s
    let valid : UnitRun :=
      { u with presence := .locked, fail := 0, counters := { u.counters with valid := bump u.counters.valid } }
    let guarding : Engine :=
      { e with
        exchange := none, received := [], conflicts := 0, xstate := .guarding, rx := .atRest
        ringPtr :=
          if e.stage = .ring then (if e.cut then (s.ring l).length else e.ringPtr + 1) else e.ringPtr }
    let after (s : State) (u : UnitRun) : Host.Outcome State Fault Refusal :=
      .next (State.selectNew (State.refresh
        { s with units := s.units.set n u, engines := s.engines.set l guarding } l))
    let keys := (payload.map (translate s.tables.keyMaps[(s.record n).keyMap])).filter (· ≠ .none)
    let record : List Byte :=
      byteOf (4 + keys.length) :: 4 :: hiByte (s.lane k).tag :: loByte (s.lane k).tag :: keys.map LogicalKey.code
    e.exchange = some x → e.xstate = .await → e.rx = .atRest → e.driver = false → e.received = [] → e.run = none →
    e.tuned = x.tune → x.kind = .poll → u.superseded = false → u.presence = .locked ∨ u.presence = .faltering →
    u.doubt = none →
    (s.record n).enabled = true → (s.lane k).phase ≠ .closing →
    (x.bytes.headD 0).toNat < 32 → (∀ b ∈ payload, b.toNat < x.tune.data.modulus) →
    (kind = .idle → payload = [] → answered = after s { valid with pendingAck := .none }) ∧
    (kind ≠ .idle → kind.admits payload.length = true →
      let took := State.takeData { s with units := s.units.set n valid } k n ⟨kind, seq, false, false, payload⟩
      let ack : Ack := .given took.verdict seq
      (seq ≠ u.e → answered = after s { valid with pendingAck := u.lastAck }) ∧
      (seq = u.e →
        answered =
          after took.after
            { took.after.unit n with
              lastAck := ack, pendingAck := ack, e := if took.verdict = .hold then u.e else !u.e })) ∧
    (kind = .keys → kind.admits payload.length = true → seq = u.e → (s.lane k).phase = .opened →
      (s.lane k).standby = false → (s.lane k).window = none → (s.lane k).pinShadow = false →
      (s.record n).kind ≠ .reader → keys ≠ [] →
      (s.inFits k record.length = true →
        answered =
          after { s with inbound := s.inbound.set k (s.inQueue k ++ [record]) }
            { valid with lastAck := .given .accept u.e, pendingAck := .given .accept u.e, e := !u.e }) ∧
      (s.inFits k record.length = false →
        answered = after s { valid with lastAck := .given .hold u.e, pendingAck := .given .hold u.e }))

/-- A VALID reply of any kind outside the sequencing (R73, R77, R78, R105, R106, R109): a VALID SYNC resets the sequencing of a
trusted slot, which is LOCKED after it; in a confirmation run the first VALID exchange of a SEEKING slot raises its confirm
count, the second locks it, with UNIT_BACK where it was LOST before, and ends the run; a VALID SYNC makes a LOST slot SEEKING
with its confirm count at 1. What the reply carries is applied to no lane. -/
def Obligations.ConfirmationsLockUnits : Prop :=
  ∀ (s : State) (l : Line) (x : Exchange) (control : Byte) (payload : List Byte) (atEntry : Bool),
    let e := s.engine l
    let n := x.slot
    let u := s.unit n
    let k := (s.record n).lane
    let bytes := telegramBytes x.tune.data (x.bytes.headD 0) control payload
    let counted : UnitRun := { u with counters := { u.counters with valid := bump u.counters.valid } }
    let valid : UnitRun :=
      if x.kind = .sync then
        { counted with e := false, lastAck := .none, pendingAck := .none, c := false, doubt := none, syncRequest := false }
      else counted
    let passed : Nat := if e.cut then (s.ring l).length else e.ringPtr + 1
    let guarding : Engine :=
      { e with exchange := none, received := [], conflicts := 0, xstate := .guarding, rx := .atRest }
    let after (u : UnitRun) (e : Engine) (lane : LaneRecord) : Host.Outcome State Fault Refusal :=
      .next (State.selectNew (State.refresh
        { s with units := s.units.set n u, engines := s.engines.set l e, lanes := s.lanes.set k lane } l))
    let role : Byte := match (s.record n).kind with | .pinpad => 1 | .reader => 2 | .combo => 3
    let back : LaneRecord :=
      { s.lane k with alerts := (s.lane k).alerts.set 1 (some (raisedEntry (s.lane k).alerts[1] role 0)) }
    let run (answered : Host.Outcome State Fault Refusal) : Prop :=
      exec (.reply l (bytes.map x.tune.undisturbed)) s = answered
    e.exchange = some x → e.xstate = .await → e.rx = .atRest → e.driver = false → e.received = [] →
    e.tuned = x.tune → u.superseded = false → (s.record n).enabled = true → (x.bytes.headD 0).toNat < 32 →
    payload.length ≤ 48 → (∀ b ∈ payload, b.toNat < x.tune.data.modulus) →
    (judgeReply x.tune.data (x.bytes.headD 0) bytes).isValid = true →
    (x.kind = .sync → e.run = none → u.presence = .locked ∨ u.presence = .faltering →
      run (after { valid with presence := .locked, fail := 0 }
        { guarding with ringPtr := if e.stage = .ring then passed else e.ringPtr } (s.lane k))) ∧
    (x.kind = .sync ∨ x.kind = .poll → e.run = some ⟨n, atEntry⟩ →
      (u.presence = .seeking → u.confirm = 0 →
        run (after { valid with confirm := 1 } guarding (s.lane k))) ∧
      (u.presence = .seeking → u.confirm = 1 →
        run (after
          { valid with
            presence := .locked, e := false, c := false, lastAck := .none, pendingAck := .none, doubt := none
            fail := 0, confirm := 0, baseline := none, pendingFlags := none, returning := false }
          { guarding with run := none, due := none, ringPtr := if atEntry then passed else e.ringPtr }
          (if u.returning then back else s.lane k))) ∧
      (u.presence = .lost → x.kind = .sync →
        run (after { valid with presence := .seeking, confirm := 1 } guarding (s.lane k))))

/-- A command item that its unit reports TAKEN, in an IDLE reply that ends a COMMAND exchange or settles a doubt, at a trusted
slot (R80, R82, R107, R151): c flips and a doubt settled is gone; an item that has left pending does nothing more. A directive
leaves the set with its count: the last WAKE of an OPENING lane opens it with an OPENED record (R141), and a REST in CLOSING
starts the unit's count, with that reply as its first IDLE (R143). A record leaves the outbound queue and the head attempt
counts become 0; a BEGIN opens its window in an OPEN lane, after ENTRY_CANCELLED for one that it replaces, or none in standby
(R153, R157, R158, R159), an UNLOCK ends a HELD one (R166), and DELIVERED follows where it was asked for (R13, R151; log
entry 10). What the keypad takes clears the PIN shadow (R168). -/
def Obligations.TakenItemsMoveTheLane : Prop :=
  ∀ (s : State) (l : Line) (x : Exchange) (it : Item) (d : Directive) (p : Pending) (r : OutRecord)
    (more : List OutRecord),
    let e := s.engine l
    let n := x.slot
    let u := s.unit n
    let k := (s.record n).lane
    let lane := s.lane k
    let answer := (telegramBytes x.tune.data (x.bytes.headD 0) 0x10 []).map x.tune.undisturbed
    let valid : UnitRun :=
      { u with
        presence := .locked, fail := 0, counters := { u.counters with valid := bump u.counters.valid }
        pendingAck := .none, c := !u.c
        doubt := if x.kind = .poll then none else u.doubt }
    let guarding : Engine :=
      { e with
        exchange := none, received := [], conflicts := 0, xstate := .guarding, rx := .atRest
        ringPtr :=
          if e.stage = .ring then (if e.cut then (s.ring l).length else e.ringPtr + 1) else e.ringPtr }
    let after (t : State) (lane : LaneRecord) (records : List (List Byte)) (u : UnitRun) :
        Host.Outcome State Fault Refusal :=
      .next (State.selectNew (State.refresh
        { t with
          lanes := s.lanes.set k lane
          inbound := t.inbound.set k (t.inQueue k ++ records)
          units := t.units.set n u
          engines := s.engines.set l guarding } l))
    let kept : LaneRecord := if (s.record n).kind = .reader then lane else { lane with pinShadow := false }
    e.exchange = some x → e.xstate = .await → e.rx = .atRest → e.driver = false → e.received = [] → e.run = none →
    e.tuned = x.tune → u.superseded = false → u.presence = .locked ∨ u.presence = .faltering → (s.record n).enabled = true →
    (x.bytes.headD 0).toNat < 32 →
    (x.kind = .command ∧ x.item = some it) ∨ (x.kind = .poll ∧ u.doubt = some it) →
    (s.itemPending n it = false → lane.phase ≠ .closing →
      exec (.reply l answer) s = after s lane [] valid) ∧
    (it = .directive d p.serial → u.directives.get d = some p →
      let left : UnitRun := { valid with directives := u.directives.put d none }
      let woken := lane.wakeMarks.map fun m => if m.1 = n then (n, true) else m
      (lane.phase ≠ .closing → d ≠ .wake ∨ lane.phase ≠ .opening →
        exec (.reply l answer) s = after s kept [] left) ∧
      (d = .wake → lane.phase = .opening →
        ((∃ m ∈ woken, m.2 = false) →
          exec (.reply l answer) s = after s { kept with wakeMarks := woken } [] left) ∧
        ((∀ m ∈ woken, m.2 = true) → s.inFits k 4 = true →
          exec (.reply l answer) s =
            after s { kept with phase := .opened, wakeMarks := [] } [[4, 1, hiByte lane.tag, loByte lane.tag]] left)) ∧
      (d = .rest → lane.phase = .closing → (∃ m ∈ lane.confirms, m.1 = n) →
        (∀ m ∈ lane.confirms, m.1 = n → m.2 = .restDue) →
        exec (.reply l answer) s =
          after s
            { kept with confirms := lane.confirms.map fun m => if m.1 = n then (n, .counting 1) else m } [] left)) ∧
    (it = .record k r.serial → s.outQueue k = r :: more → lane.phase ≠ .closing →
      let code := r.bytes.getD 1 0
      let flags := r.bytes.getD 2 0
      let first := r.bytes.getD 3 0
      let begins : Prop := lane.phase = .opened ∧ (code = 5 ∨ code = 6)
      let live : Bool :=
        match lane.window with
        | none => false
        | some w => decide (w.phase = .collecting ∨ w.phase = .awaitBlock)
      let held : Bool :=
        match lane.window with
        | none => false
        | some w => decide (w.phase = .held)
      let fresh : Window :=
        ⟨.collecting,
          if code = 5 then .amount first.toNat first.toNat [] (flags.getLsbD 3) (flags.getLsbD 4)
          else .pin first.toNat (r.bytes.getD 4 0).toNat 0,
          flags.getLsbD 5,
          match u.lastAck with
          | .given .hold seq => some seq
          | _ => none⟩
      let cancelled (reason : Byte) : List (List Byte) := [[5, 7, hiByte lane.tag, loByte lane.tag, reason]]
      let first : List (List Byte) :=
        if begins ∧ lane.standby = true then cancelled 4 else if begins ∧ live = true then cancelled 2 else []
      let delivered : List (List Byte) :=
        if flags.getLsbD 2 then
          [[8, 0x0E, hiByte lane.tag, loByte lane.tag, code, flags &&& 3, byteOf n.val, byteOf u.headAttempts]]
        else []
      s.inFits k (first ++ delivered).flatten.length = true →
      -- ENTRY_CANCELLED is written first, and is selected before DELIVERED where the transmitter is IDLE
      let base : State := s.atOnce { s with inbound := s.inbound.set k (s.inQueue k ++ first) }
      exec (.reply l answer) s =
        after
          { base with
            outbound := s.outbound.set k more
            units := Vector.ofFn fun m =>
              if s.bound k m then { s.unit m with headAttempts := 0 } else s.unit m }
          { kept with
            window :=
              if begins then (if lane.standby then lane.window else some fresh)
              else if code = 7 ∧ held = true then none
              else lane.window
            pinShadow := kept.pinShadow || decide (begins ∧ lane.standby = true ∧ code = 6) }
          delivered { valid with headAttempts := 0 })

/-- A command item that its unit does not report TAKEN, in an IDLE reply at a trusted slot, with BUSY or with neither flag
(R81, R82): after a POLL the doubt is gone and c stays; after a COMMAND an item still pending has one attempt more, and the
eighth gives it up with UNDELIVERED: the directive or the record leaves, and then for the lane a WAKE in OPENING is a fault
with reason WAKE_FAILED (log entry 10), and a REST in CLOSING counts its unit as confirmed (R141, R143, R151). -/
def Obligations.UntakenItemsAreAttemptedEightTimes : Prop :=
  ∀ (s : State) (l : Line) (x : Exchange) (it : Item) (d : Directive) (p : Pending) (r : OutRecord)
    (more : List OutRecord) (busy : Bool),
    let e := s.engine l
    let n := x.slot
    let u := s.unit n
    let k := (s.record n).lane
    let lane := s.lane k
    let answer :=
      (telegramBytes x.tune.data (x.bytes.headD 0) (if busy then 0x20 else 0) []).map x.tune.undisturbed
    let valid : UnitRun :=
      { u with
        presence := .locked, fail := 0, counters := { u.counters with valid := bump u.counters.valid }
        pendingAck := .none }
    let guarding : Engine :=
      { e with
        exchange := none, received := [], conflicts := 0, xstate := .guarding, rx := .atRest
        ringPtr :=
          if e.stage = .ring then (if e.cut then (s.ring l).length else e.ringPtr + 1) else e.ringPtr }
    let after (t : State) (lane : LaneRecord) (u : UnitRun) : Host.Outcome State Fault Refusal :=
      .next (State.selectNew (State.refresh
        { t with
          lanes := s.lanes.set k lane
          units := t.units.set n u
          engines := s.engines.set l guarding } l))
    let undelivered (code : Byte) : LaneRecord :=
      { lane with alerts := lane.alerts.set 2 (some (raisedEntry lane.alerts[2] code 0)) }
    e.exchange = some x → e.xstate = .await → e.rx = .atRest → e.driver = false → e.received = [] → e.run = none →
    e.tuned = x.tune → u.superseded = false → u.presence = .locked ∨ u.presence = .faltering → (s.record n).enabled = true →
    (x.bytes.headD 0).toNat < 32 →
    (x.kind = .poll → u.doubt = some it → lane.phase ≠ .closing →
      exec (.reply l answer) s = after s lane { valid with doubt := none }) ∧
    (x.kind = .command → x.item = some it →
      (s.itemPending n it = false → lane.phase ≠ .closing → exec (.reply l answer) s = after s lane valid) ∧
      (it = .directive d p.serial → u.directives.get d = some p →
        let code : Byte := match d with | .eject => 8 | .keep => 9 | .wake => 10 | .rest => 11 | .standby => 12
        let left : UnitRun := { valid with directives := u.directives.put d none }
        (p.attempts < 7 → lane.phase ≠ .closing →
          exec (.reply l answer) s =
            after s lane { valid with directives := u.directives.put d (some ⟨p.attempts + 1, p.serial⟩) }) ∧
        (7 ≤ p.attempts →
          (lane.phase ≠ .closing → d ≠ .wake ∨ lane.phase ≠ .opening →
            exec (.reply l answer) s = after s (undelivered code) left) ∧
          (d = .wake → lane.phase = .opening → lane.decision = none →
            -- UNDELIVERED is raised first, and is selected before the fault where the transmitter is IDLE
            let told : State := (s.atOnce (s.alerted k 2 code 0)).faultedFor k 3
            exec (.reply l answer) s =
              .next (State.selectNew (State.refresh
                { told with units := s.units.set n left, engines := s.engines.set l guarding } l))) ∧
          (d = .rest → lane.phase = .closing → (∀ m ∈ lane.confirms, m.1 = n → m.2 = .restDue) →
            (∃ m ∈ lane.confirms, m.1 ≠ n ∧ m.2 ≠ .confirmed ∧ m.2 ≠ .waived) →
            exec (.reply l answer) s =
              after s
                { undelivered code with
                  confirms := lane.confirms.map fun m => if m.1 = n then (n, .confirmed) else m }
                left))) ∧
      (it = .record k r.serial → s.outQueue k = r :: more → lane.phase ≠ .closing →
        (u.headAttempts < 7 →
          exec (.reply l answer) s = after s lane { valid with headAttempts := u.headAttempts + 1 }) ∧
        (7 ≤ u.headAttempts →
          exec (.reply l answer) s =
            after
              { s with
                outbound := s.outbound.set k more
                units := Vector.ofFn fun m =>
                  if s.bound k m then { s.unit m with headAttempts := 0 } else s.unit m }
              (undelivered (r.bytes.getD 1 0)) { valid with headAttempts := 0 })))

/-- What follows when the guard has run out in the ring, and when a pass begins at a tick (R70, R86, R87, R89): the first
entry from the pointer on that is not skipped becomes the one whose telegram is due, served or, without a sweep, confirmed;
where every entry is skipped, or the cut mark is set (R90), the pass ends: with a probe due where sweep is enabled, with the
next pass at once where something was sent, with a wait for the tick where nothing was. The sweep step ends in the next
pass. A confirmation run goes on while its slot can be served, and ends otherwise (R96, R99). After a reset, of the part or
of the line, the first pass begins at PASS_BEGINS on a ready line, at entry 0 (R58, R101; log entry 13); a guard that a line
reset left running ends in IDLE (log entry 27). What is due makes the engine PAUSED, on a ready line too (log entry 30). -/
def Obligations.EntriesAreReachedInRingOrder : Prop :=
  ∀ (s : State) (l : Line) (place : Nat) (n : SlotNo),
    let e := s.engine l
    let sweep : Prop := (s.lineInForce l).sweep = true
    let here (n : SlotNo) : Prop := (s.record n).enabled = true ∧ (s.record n).line = l
    let served (n : SlotNo) : Prop :=
      here n ∧ ((s.unit n).presence = .locked ∨ (s.unit n).presence = .faltering)
    let confirmed (n : SlotNo) : Prop :=
      here n ∧ ¬sweep ∧ ((s.unit n).presence = .seeking ∨ (s.unit n).presence = .lost)
    let skipped (from_ : Nat) (entries : List SlotNo) : Prop :=
      ∀ m ∈ entries.drop from_, ¬served m ∧ ¬confirmed m
    let now (units : Vector UnitRun 16) (e : Engine) : Host.Outcome State Fault Refusal :=
      .next (State.selectNew (State.refresh { s with units := units, engines := s.engines.set l e } l))
    let running : Vector UnitRun 16 := s.units.set n { s.unit n with confirm := 0, syncRequest := true }
    let ring := s.ring l
    let nextPass : Prop :=
      exec (.guardRunsOut l) s =
        exec (.passBegins l) { s with engines := s.engines.set l { e with stage := .tickWait } }
    let passEnds : Prop :=
      (sweep →
        exec (.guardRunsOut l) s =
          now s.units
            { e with xstate := .paused, due := some .probe, ringPtr := ring.length, stage := .sweepStep }) ∧
      (¬sweep → e.passActive = true → nextPass) ∧
      (¬sweep → e.passActive = false →
        exec (.guardRunsOut l) s =
          now s.units { e with xstate := .idle, due := none, ringPtr := ring.length, stage := .tickWait })
    (e.xstate ≠ .guarding → exec (.guardRunsOut l) s = .next s.selectNew) ∧
    (e.xstate = .guarding → e.stage = .ring → e.run = none → e.cut = false →
      (e.ringPtr ≤ place → ring[place]? = some n → skipped e.ringPtr (ring.take place) →
        (served n →
          exec (.guardRunsOut l) s =
            now s.units { e with xstate := .paused, due := some .entry, ringPtr := place }) ∧
        (confirmed n →
          exec (.guardRunsOut l) s =
            now running
              { e with xstate := .paused, due := some .run, ringPtr := place, run := some ⟨n, true⟩ })) ∧
      (skipped e.ringPtr ring → passEnds)) ∧
    (e.xstate = .guarding → e.stage = .ring → e.run = none → e.cut = true → passEnds) ∧
    (e.xstate = .guarding → e.stage = .sweepStep → e.run = none → nextPass) ∧
    (e.xstate = .guarding → e.stage = .toBegin → e.run = none →
      exec (.guardRunsOut l) s = now s.units { e with xstate := .idle }) ∧
    (e.xstate = .guarding → ∀ r, e.run = some r →
      let goesOn : Prop :=
        here r.slot ∧
          ((s.unit r.slot).presence = .seeking ∨ (r.atEntry = true ∧ (s.unit r.slot).presence = .lost))
      (goesOn → exec (.guardRunsOut l) s = now s.units { e with xstate := .paused, due := some .run }) ∧
      (¬goesOn →
        exec (.guardRunsOut l) s =
          exec (.guardRunsOut l)
            { s with
              engines := s.engines.set l
                { e with
                  run := none, due := none
                  ringPtr :=
                    if r.atEntry then (if e.cut then ring.length else e.ringPtr + 1) else e.ringPtr } })) ∧
    (e.stage = .tickWait →
      let fresh : Engine := { e with passActive := false, cut := false }
      (ring[place]? = some n → skipped 0 (ring.take place) →
        (served n →
          exec (.passBegins l) s =
            now s.units { fresh with xstate := .paused, due := some .entry, ringPtr := place, stage := .ring }) ∧
        (confirmed n →
          exec (.passBegins l) s =
            now running
              { fresh with
                xstate := .paused, due := some .run, ringPtr := place, stage := .ring, run := some ⟨n, true⟩ })) ∧
      (skipped 0 ring →
        exec (.passBegins l) s =
          now s.units
            (if (s.lineInForce l).sweep then
              { fresh with xstate := .paused, due := some .probe, ringPtr := ring.length, stage := .sweepStep }
            else { fresh with xstate := .idle, due := none, ringPtr := ring.length }))) ∧
    (e.stage = .toBegin →
      let ready : Prop := e.rx = .atRest ∧ e.chatter = false ∧ e.driver = false ∧ e.xstate ≠ .guarding
      (ready →
        exec (.passBegins l) s =
          exec (.passBegins l) { s with engines := s.engines.set l { e with stage := .tickWait } }) ∧
      (¬ready → exec (.passBegins l) s = .next s.selectNew)) ∧
    (e.stage ≠ .tickWait → e.stage ≠ .toBegin → exec (.passBegins l) s = .next s.selectNew)

/-- The answer to a probe (R85, R93 to R95, R98): silence drops the range; one or two characters are collected; a third, or a
gap, ends the reply period, and what was collected is judged. Garble splits the range, or counts sweep_noise for a single
address; a clean answer starts a confirmation run for a SEEKING or LOST slot, detects a restart of a trusted one, and is a
stray unit where no enabled slot of the line has the address. A restart asks for a SYNC, faults a lane in OPENING or OPEN
with reason UNIT_RESTART, and waives the slot's confirmation in CLOSING (R112, R143). -/
def Obligations.SweepAnswersAreJudged : Prop :=
  ∀ (s : State) (l : Line) (p : Probe) (ch : Sampled) (a b : Byte) (n : SlotNo),
    let e := s.engine l
    let error := e.tuned.error ch
    let value := e.tuned.delivered ch
    let ended : Engine := { e with probe := none, answers := [], conflicts := 0, xstate := .guarding }
    let now (t : State) (e : Engine) : Host.Outcome State Fault Refusal :=
      .next (State.selectNew (State.refresh { t with engines := s.engines.set l e } l))
    let heard : Engine :=
      { e with
        rx := if error = .framing then .inBreak else .atRest
        counters :=
          if error = .none then e.counters
          else { e.counters with charErrors := bump e.counters.charErrors } }
    let garbled (e : Engine) : Engine :=
      if p.range.lo < p.range.hi then
        { e with
          stack :=
            ⟨p.range.lo, (p.range.lo + p.range.hi) / 2⟩ :: ⟨(p.range.lo + p.range.hi) / 2 + 1, p.range.hi⟩ :: e.stack }
      else { e with counters := { e.counters with sweepNoise := bump e.counters.sweepNoise } }
    let rest : Prop := ∀ o, e.rx ≠ .inCharacter o
    let matching (m : SlotNo) : Prop :=
      (s.record m).enabled = true ∧ (s.record m).line = l ∧ (s.record m).address.val = a.toNat
    e.exchange = none → e.probe = some p →
    (e.xstate = .await → exec (.sweepReplyWindow l) s = now s ended) ∧
    (e.xstate ≠ .await → exec (.sweepReplyWindow l) s = .next s.selectNew) ∧
    (e.xstate = .await ∨ e.xstate = .receiving → e.rx = .inCharacter .reply ∨ (e.rx = .atRest ∧ e.driver = false) →
      (e.answers.length < 2 →
        exec (.sweepAnswerCharacter l ch) s =
          now s { heard with answers := e.answers ++ [(value, decide (error ≠ .none))], xstate := .receiving }) ∧
      (e.answers.length = 2 →
        exec (.sweepAnswerCharacter l ch) s =
          now s
            (garbled { heard with probe := none, answers := [], conflicts := 0, xstate := .guarding }))) ∧
    (e.xstate = .receiving → rest →
      (e.answers.length = 1 ∨ e.answers.any (fun c => c.2) = true →
        exec (.sweepGap l) s = now s (garbled ended)) ∧
      (e.answers = [(a, false), (b, false)] →
        let clean : Prop := b = a ^^^ 0x7F ∧ p.range.lo ≤ a.toNat ∧ a.toNat ≤ p.range.hi
        (¬clean → exec (.sweepGap l) s = now s (garbled ended)) ∧
        (clean → (∀ m, ¬matching m) →
          exec (.sweepGap l) s =
            now
              { s with
                notices := s.notices.set 2 (some (raisedEntry s.notices[2] (match l with | .a => 0 | .b => 1) a)) }
              ended) ∧
        (clean → matching n → (∀ m, matching m → n ≤ m) →
          ((s.unit n).presence = .seeking ∨ (s.unit n).presence = .lost →
            exec (.sweepGap l) s =
              now
                { s with
                  units := s.units.set n
                    { s.unit n with presence := .seeking, confirm := 0, syncRequest := true } }
                { ended with run := some ⟨n, false⟩ }) ∧
          ((s.unit n).presence = .locked ∨ (s.unit n).presence = .faltering →
            let k := (s.record n).lane
            let again : State :=
              { s with
                units := s.units.set n
                  { s.unit n with syncRequest := true, baseline := none, pendingFlags := none } }
            ((s.lane k).phase = .closed ∨ (s.lane k).phase = .faulted → exec (.sweepGap l) s = now again ended) ∧
            ((s.lane k).phase = .opening ∨ (s.lane k).phase = .opened → (s.lane k).decision = none →
              exec (.sweepGap l) s = now (again.faultedFor k 2) ended) ∧
            ((s.lane k).phase = .closing →
              ((s.lane k).WaitsForOther n → exec (.sweepGap l) s = now (again.waivedFor k n) ended) ∧
              (¬(s.lane k).WaitsForOther n → s.NoneStaged → s.inFits k 4 = true →
                exec (.sweepGap l) s = now (again.closedFor k) ended)))))) ∧
    (e.xstate ≠ .receiving → exec (.sweepGap l) s = .next s.selectNew)

/-- The line watchdog expires on an unsettled line (R57, R58): it is counted and LINE_STUCK raised with the line's flag,
and under RESET the line is reset: an exchange in progress ends ABORTED, the stack is emptied, the pointer returns to
entry 0, and the receiver stays as it is. A guard goes on to its end (log entry 27). LINE_STUCK is raised, and selected
where the transmitter is IDLE, before the exchange ends (R13; log entry 10). What ABORTED does to a slot is said where
its record stays as it is. Where both watchdogs expire at one tick (log entries 2 and 3), LINE_STUCK has both lines'
flags and a count that rose by 2, in the set or in the one NOTICE frame that an IDLE transmitter selects, and each line
recovers by its own mode (R57; log entry 33). -/
def Obligations.WatchdogExpiryResetsTheLine : Prop :=
  ∀ (s : State) (l : Line),
    let e := s.engine l
    let flag : Byte := match l with | .a => 1 | .b => 2
    let held : Byte := match s.notices[1] with | none => 0 | some x => x.d1
    let told : NoticeSet := s.notices.set 1 (some (raisedEntry s.notices[1] (held ||| flag) 0))
    let counted : Engine := { e with counters := { e.counters with stuck := bump e.counters.stuck }, watchdog := 0 }
    let unsettled : Prop := (e.rx = .inBreak ∧ e.driver = false) ∨ e.chatter = true
    let wiped : Engine :=
      { counted with
        xstate := if e.xstate = .guarding then .guarding else .idle
        due := none, exchange := none, probe := none, conflicts := 0, received := [], answers := [], driver := false
        chatter := false, ringPtr := 0, cut := false, stack := [], run := none, passActive := false, stage := .toBegin }
    let now (e : Engine) : Host.Outcome State Fault Refusal :=
      .next (State.selectNew (State.refresh { s with notices := told, engines := s.engines.set l e } l))
    (¬unsettled → exec (.lineWatchdog l) s = .next s.selectNew) ∧
    (unsettled → (s.lineInForce l).recovery = .flag → exec (.lineWatchdog l) s = now counted) ∧
    (unsettled → (s.lineInForce l).recovery = .reset →
      (e.exchange = none → exec (.lineWatchdog l) s = now wiped) ∧
      (∀ x, e.exchange = some x →
        ∃ t : State, exec (.lineWatchdog l) s = .next t.selectNew ∧
          t.engine l = { wiped with tuned := (t.engine l).tuned } ∧ t.lineOutput l = .mark ∧
          t.notices = (s.atOnce { s with notices := told }).notices ∧
          ((s.unit x.slot).superseded = false → s.RecordStays x.slot →
            (t.unit x.slot).counters =
                { (s.unit x.slot).counters with interrupted := bump (s.unit x.slot).counters.interrupted } ∧
              (t.unit x.slot).pendingAck = (s.unit x.slot).pendingAck ∧
              ((s.unit x.slot).presence = .locked →
                (t.unit x.slot).presence = .faltering ∧ (t.unit x.slot).fail = 1) ∧
              ((s.unit x.slot).presence = .faltering → 2 ≤ (s.unit x.slot).fail →
                (t.unit x.slot).presence = .lost ∧ (t.unit x.slot).returning = true)))) ∧
    (s.pending = [] → tickEvents.filter s.countTick.comes = [.watchdog .a, .watchdog .b] →
      let both : NoticeSet :=
        s.notices.set 1 (some (raisedEntry (some (raisedEntry s.notices[1] (held ||| 3) 0)) (held ||| 3) 0))
      ∃ t : State, step s = .next t ∧
        (s.link.tx ≠ .idle → t.notices = both ∧ t.link.tx = s.link.tx) ∧
        (s.link.tx = .idle → s.candidates = [] →
          t.link.tx = .sending ⟨0x0F, .notice, entryBytes 1 both.toList⟩ ∧ t.notices = Vector.replicate 5 none) ∧
        ((s.lineInForce l).recovery = .flag → t.engine l = { counted with tuned := (t.engine l).tuned }) ∧
        ((s.lineInForce l).recovery = .reset → t.engine l = { wiped with tuned := (t.engine l).tuned }))

/-- What happens at one drop line leaves the other line's engine and settings, the Link Port and the tables alone, but for
the unit table, where a closing that ends applies staged records (R27, R58). -/
def Obligations.LinesAreApart : Prop :=
  ∀ (s : State) (c : Instr) (l other : Line) (f : Frame) (ch : Sampled) (chars : List Sampled) (index : Nat)
    (readBack : Option Sampled) (accepted : Bool),
    s.link.tx = .sending f → l ≠ other →
    c ∈
      [Instr.telegram l, .sweep l, .transmissionComplete l, .echoConflict l index readBack, .noReply l,
        .replyCharacter l ch, .reply l chars, .truncated l, .guardRunsOut l, .passBegins l, .sweepReplyWindow l,
        .sweepAnswerCharacter l ch, .sweepGap l, .strayCharacter l ch, .chatterIntervalEnds l, .breakEnds l,
        .lineWatchdog l, .startEdge l accepted] →
    ∃ t : State, exec c s = .next t ∧
      t.engine other = s.engine other ∧ t.tables.lines.get other = s.tables.lines.get other ∧
      t.tables = { s.tables with units := t.tables.units, lines := t.tables.lines } ∧ t.link = s.link ∧
      t.reply = s.reply ∧ t.softPending = s.softPending

/-- The characters of a drop line (R44, R46, R49): the bits sent for a byte, the parity they make, and what the receiver of
the same format delivers of them; one data bit sampled wrong breaks an EVEN or ODD parity, and a stop bit at space is a
framing error whatever else is wrong. Telegrams and replies carry their bytes safely (R61, R62, R63, R69): the bytes with
their CHECK sum to 0 modulo M, and a reply of every kind is read back with its sequence bit, its flags and its payload; the
checks are made in R69's order. -/
def Obligations.CharactersAndRepliesReadBack : Prop :=
  (∀ (t : Tune) (b : Byte) (parity : Bool) (i : Nat),
      let d := t.data.count
      let bits := t.sentBits b
      let ones := ((bits.drop 1).take (d + 1)).count true
      bits.length = t.charBits ∧ bits.head? = some false ∧ 9 ≤ t.charBits ∧ t.charBits ≤ 12 ∧
        (i < d → bits[1 + i]? = some (b.getLsbD i)) ∧
        (t.parity = .even → ones % 2 = 0) ∧ (t.parity = .odd → ones % 2 = 1) ∧
        (t.parity = .zero → bits[1 + d]? = some false) ∧
        (∀ j < t.stop.count, bits[t.charBits - 1 - j]? = some true) ∧
        t.error (t.undisturbed b) = .none ∧
        (t.delivered (t.undisturbed b)).toNat = b.toNat % 2 ^ d ∧
        (t.parity = .even ∨ t.parity = .odd → i < d →
          t.error { t.undisturbed b with data := (t.undisturbed b).data ^^^ (1 <<< i) } = .parity) ∧
        t.error ⟨b, parity, false⟩ = .framing) ∧
    ∀ (d : DataBits) (address control other : Byte) (payload : List Byte) (kind : ReplyKind) (seq taken busy : Bool)
      (bytes : List Byte),
      let code : Nat := match kind with | .idle => 0 | .keys => 1 | .card => 2 | .status => 3 | .pinBlock => 4
      let replyControl : Byte :=
        byteOf (code + (if seq then 8 else 0) + (if taken then 16 else 0) + (if busy then 32 else 0))
      payload.length ≤ 48 →
      ((telegramBytes d address control payload).map BitVec.toNat).sum % d.modulus = 0 ∧
        (telegramBytes d address control payload).length = 4 + payload.length ∧
        (kind.admits payload.length = true → (taken = false ∨ busy = false) →
          judgeReply d address (telegramBytes d address replyControl payload) =
            .valid ⟨kind, seq, taken, busy, payload⟩) ∧
        (taken = true ∧ busy = true ∨ kind.admits payload.length = false →
          judgeReply d address (telegramBytes d address replyControl payload) = .badFormat) ∧
        (other ≠ address → judgeReply d other (telegramBytes d address control payload) = .wrongAddress) ∧
        ((bytes.map BitVec.toNat).sum % d.modulus ≠ 0 → judgeReply d address bytes = .badCheck)

/-! ### Keys, cards and data replies -/

/-- No digit of a PIN leaves the concentrator, or is kept in it (R162, R163): in a PIN window that is COLLECTING, two KEYS
replies that differ only in which digits were pressed have one and the same effect on the whole part. -/
def Obligations.PinDigitsStayHidden : Prop :=
  ∀ (s : State) (k : LaneNo) (n : SlotNo) (marked : Bool) (w : Window) (min max count : Nat) (raws others : List Byte),
    (s.lane k).phase = .opened → (s.lane k).window = some w → w.what = .pin min max count → w.phase = .collecting →
    (s.record n).kind ≠ .reader →
    let blurred (raws : List Byte) : List LogicalKey :=
      (s.keysOf n raws).map fun key => match key with | .digit _ => .digit 0 | key => key
    blurred raws = blurred others →
    s.takeKeys k n marked raws = s.takeKeys k n marked others ∧
      ∀ (l : Line) (x : Exchange) (control : Byte),
        let e := s.engine l
        let replied (raws : List Byte) : Host.Outcome State Fault Refusal :=
          exec
            (.reply l
              ((telegramBytes x.tune.data (x.bytes.headD 0) control raws).map x.tune.undisturbed)) s
        e.exchange = some x → e.xstate = .await → e.rx = .atRest → e.driver = false → e.received = [] →
        e.tuned = x.tune → x.slot = n → x.kind = .poll → (s.unit n).doubt = none → s.currentLane n = some k →
        (x.bytes.headD 0).toNat < 32 → control = 1 ∨ control = 9 → 1 ≤ raws.length → raws.length ≤ 8 →
        1 ≤ others.length → others.length ≤ 8 →
        (∀ b ∈ raws ++ others, b.toNat < x.tune.data.modulus) →
        replied raws = replied others

/-- One key in a PIN window that is COLLECTING, by the table of R162, and in an amount window, by that of R160; once
collection has ended every later key is discarded and counted as ignored. Through any run of keys, the characters collected
in an amount window and its remaining count make the initial count, at most one '.' is collected, and collection that ends
as done has a character (R160). The keys of a new reply to an OPEN lane, translated by the slot's map and without NONE
(R155): in a COLLECTING window they give one record at most, ENTRY_DONE, ENTRY_CANCELLED with reason KEY, ENTRY_PROGRESS,
PIN_SHORT or MASKED_DIGITS, and the window's next phase, or the reply is held with nothing changed where the record does not
fit (R161, R163, R167); without a window they are one KEYS record (R156). In standby, under a carry-over mark, in
AWAIT_BLOCK, SHUTTING and HELD, and under the PIN shadow they are discarded and counted (R153, R159, R164 to R166, R168), as
they are, by raw codes, from a unit that is no keypad (log entry 17). The mark is gone after the reply (R159; log entry
20). -/
def Obligations.EntryWindowsTakeKeys : Prop :=
  ∀ (min max initial remaining : Nat) (w : PinWork) (a : AmountWork) (key : LogicalKey) (chars : List Byte)
    (dotAllowed : Bool) (keys : List LogicalKey) (s : State) (k : LaneNo) (n : SlotNo) (seq taken busy : Bool)
    (raws : List Byte) (code : Byte),
    (w.ended = .no →
      PinWork.key min max w key =
        match key with
        | .digit _ => if w.count < max then { w with count := w.count + 1 } else { w with ignored := w.ignored + 1 }
        | .clear => { w with count := 0 }
        | .enter => if min ≤ w.count then { w with ended := .entered } else { w with short := true }
        | .cancel => { w with ended := .cancelled }
        | .dot => { w with ignored := w.ignored + 1 }
        | .func _ => { w with ignored := w.ignored + 1 }
        | .none => w) ∧
    (w.ended ≠ .no → key ≠ .none → PinWork.key min max w key = { w with ignored := w.ignored + 1 }) ∧
    (let appended (b : Byte) : AmountWork :=
        { a with
          chars := a.chars ++ [b], remaining := a.remaining - 1, ended := if a.remaining ≤ 1 then .done else .no }
      let ignored : AmountWork := { a with ignored := a.ignored + 1 }
      (a.ended = .no →
        AmountWork.key initial dotAllowed a key =
          match key with
          | .digit d => appended (byteOf (0x30 + d.val))
          | .dot => if dotAllowed = true ∧ a.chars.count 0x2E = 0 then appended 0x2E else ignored
          | .clear => { a with chars := [], remaining := initial }
          | .enter => if a.chars = [] then ignored else { a with ended := .done }
          | .cancel => { a with ended := .cancelled }
          | .func _ => ignored
          | .none => a) ∧
      (a.ended ≠ .no → AmountWork.key initial dotAllowed a key = ignored)) ∧
    (chars.length + remaining = initial → 1 ≤ remaining → chars.count 0x2E ≤ 1 →
      (∀ c ∈ chars, isDigit c = true ∨ c = 0x2E) →
      let r := amountKeys initial remaining chars dotAllowed keys
      r.chars.length + r.remaining = initial ∧ r.chars.count 0x2E ≤ 1 ∧
        (∀ c ∈ r.chars, isDigit c = true ∨ c = 0x2E) ∧ (r.ended = .no → 1 ≤ r.remaining) ∧
        (r.ended = .done → r.chars ≠ []) ∧
        (dotAllowed = false → r.chars.count 0x2E ≤ chars.count 0x2E) ∧ r.ignored ≤ keys.length) ∧
    (let lane := s.lane k
      let map := s.tables.keyMaps[(s.record n).keyMap]
      let pressed := (raws.map (translate map)).filter (· ≠ .none)
      let took := s.takeData k n ⟨.keys, seq, taken, busy, raws⟩
      let unmarked (w : Window) : Window := { w with carryOver := none }
      let base : State := { s with lanes := s.lanes.set k { lane with window := lane.window.map unmarked } }
      let counted (t : State) (count : Nat) : State :=
        { t with
          units := s.units.set n
            { s.unit n with
              counters := { (s.unit n).counters with ignored := bumpBy (s.unit n).counters.ignored count } } }
      let marked : Prop := ∃ w, lane.window = some w ∧ w.carryOver = some seq
      let record (code : Byte) (content : List Byte) : List Byte :=
        byteOf (4 + content.length) :: code :: hiByte lane.tag :: loByte lane.tag :: content
      let gives (written : Option (List Byte)) (after : State) : Prop :=
        match written with
        | none => took = ⟨.accept, after⟩
        | some r =>
          took =
            if s.inFits k r.length then
              ⟨.accept, { after with inbound := s.inbound.set k (s.inQueue k ++ [r]) }⟩
            else ⟨.hold, base⟩
      let window (w : Window) (phase : WindowPhase) (what : Collected) : State :=
        { base with
          lanes := s.lanes.set k { lane with window := some { w with phase := phase, what := what, carryOver := none } } }
      lane.phase = .opened →
      translate map code = (if h : code.toNat < 32 then map[code.toNat] else .none) ∧
      ((s.record n).kind = .reader → took = ⟨.accept, counted s raws.length⟩) ∧
      ((s.record n).kind ≠ .reader →
        (lane.standby = true ∨ marked → took = ⟨.accept, counted base pressed.length⟩) ∧
        (lane.standby = false → ¬marked → pressed = [] → took = ⟨.accept, base⟩) ∧
        (lane.standby = false → ¬marked → pressed ≠ [] →
          (lane.window = none →
            (lane.pinShadow = true → took = ⟨.accept, counted s pressed.length⟩) ∧
            (lane.pinShadow = false → gives (some (record 4 (pressed.map LogicalKey.code))) s)) ∧
          (∀ w, lane.window = some w →
            (w.phase ≠ .collecting → took = ⟨.accept, counted base pressed.length⟩) ∧
            (w.phase = .collecting →
              match w.what with
              | .amount initial remaining chars dotAllowed echo =>
                let r := amountKeys initial remaining chars dotAllowed pressed
                gives
                  (match r.ended with
                  | .done => some (record 6 r.chars)
                  | .cancelled => some (record 7 [1])
                  | .no => if echo = true ∧ r.chars ≠ chars then some (record 5 r.chars) else none)
                  (counted
                    (window w (if r.ended = .no then .collecting else .shutting)
                      (.amount initial r.remaining r.chars dotAllowed echo))
                    r.ignored)
              | .pin min max count =>
                let r := pinKeys min max count pressed
                gives
                  (match r.ended with
                  | .cancelled => some (record 7 [1])
                  | .no =>
                    if r.short then some (record 9 [byteOf r.count])
                    else if r.count ≠ count then some (record 8 [byteOf r.count])
                    else none
                  | .entered => if r.count ≠ count then some (record 8 [byteOf r.count]) else none)
                  (counted
                    (window w
                      (match r.ended with
                      | .no => .collecting
                      | .entered => .awaitBlock
                      | .cancelled => .shutting)
                      (.pin min max r.count))
                    r.ignored))))))

/-- A CARD reply taken by an OPEN lane (R170 to R176): held in standby and while a decision exists; from a slot that reads no
cards, or with no assembly and no FIRST, ignored; a fragment is applied character by character and waits, or ends the read
in one CARD record, with the account masked, a decision where a GOOD read is to be held, and no assembly left; a read whose
record does not fit is held with nothing changed. The account never exceeds 19 digits and the rest 20 characters (R172), and
the masked account, as long as the account, shows only what the policy keeps and hides at least 4 digits, or all of a
shorter one (R174). -/
def Obligations.CardReadsBecomeOneRecord : Prop :=
  ∀ (s : State) (k : LaneNo) (n : SlotNo) (seq taken busy : Bool) (flags b : Byte) (chars digits : List Byte)
    (a : Assembly) (p : Policy),
    let lane := s.lane k
    let took := s.takeData k n ⟨.card, seq, taken, busy, flags :: chars⟩
    let ignored : Vector UnitRun 16 :=
      s.units.set n
        { s.unit n with
          counters := { (s.unit n).counters with ignored := bump (s.unit n).counters.ignored } }
    let started : Option Assembly := if flags.getLsbD 0 then some {} else lane.assembly
    let units : Vector UnitRun 16 := if flags.getLsbD 0 = true ∧ lane.assembly ≠ none then ignored else s.units
    let settings := s.laneSettings k
    (lane.phase = .opened → (∀ w, lane.window = some w → w.carryOver = none) →
      (lane.standby = true ∨ lane.decision ≠ none → took = ⟨.hold, s⟩) ∧
      (lane.standby = false → lane.decision = none →
        ((s.record n).kind = .pinpad ∨ started = none → took = ⟨.accept, { s with units := ignored }⟩) ∧
        ((s.record n).kind ≠ .pinpad → ∀ begun, started = some begun →
          let applied := chars.foldl Assembly.char begun
          (flags.getLsbD 1 = false → flags.getLsbD 2 = false →
            took =
              ⟨.accept,
                { s with lanes := s.lanes.set k { lane with assembly := some applied }, units := units }⟩) ∧
          (flags.getLsbD 1 = true ∨ flags.getLsbD 2 = true →
            let read : Assembly := if flags.getLsbD 2 then {} else applied
            let status : Byte :=
              if flags.getLsbD 2 then 2 else if read.malformed = true ∨ read.account = [] then 1 else 0
            let hold : Bool := settings.cardHold && decide (status = 0)
            let shown := maskAccount s.tables.policies[settings.policy] read.account
            let record : List Byte :=
              [byteOf (9 + shown.length + read.rest.length), 0x0B, hiByte lane.tag, loByte lane.tag, status,
                if hold then 1 else 0, byteOf shown.length] ++ shown ++ [byteOf read.rest.length] ++ read.rest ++
                [if read.truncated then 1 else 0]
            (s.inFits k (9 + shown.length + read.rest.length) = true →
              took =
                ⟨.accept,
                  { s with
                    lanes := s.lanes.set k
                      { lane with
                        assembly := none
                        decision := if hold then some ⟨settings.timeout.val * 1000, n⟩ else none }
                    inbound := s.inbound.set k (s.inQueue k ++ [record])
                    units := units }⟩) ∧
            (s.inFits k (9 + shown.length + read.rest.length) = false → took = ⟨.hold, s⟩))))) ∧
    (Assembly.char a b =
        if a.inRest = false then
          if 0x30 ≤ b.toNat ∧ b.toNat ≤ 0x39 then
            if a.account.length < 19 then { a with account := a.account ++ [b] } else { a with malformed := true }
          else if b = 0x3D then { a with inRest := true }
          else { a with malformed := true }
        else if (0x30 ≤ b.toNat ∧ b.toNat ≤ 0x39) ∨ b = 0x3D then
          if a.rest.length < 20 then { a with rest := a.rest ++ [b] } else { a with truncated := true }
        else { a with malformed := true }) ∧
    (a.account.length ≤ 19 → a.rest.length ≤ 20 →
      (chars.foldl Assembly.char a).account.length ≤ 19 ∧ (chars.foldl Assembly.char a).rest.length ≤ 20) ∧
    (let n := digits.length
      let kl := Nat.min p.keepLast.val (n - 4)
      let kf := Nat.min p.keepFirst.val (n - 4 - kl)
      let m := maskAccount p digits
      m.length = n ∧ m.take kf = digits.take kf ∧ m.drop (n - kl) = digits.drop (n - kl) ∧
        (m.drop kf).take (n - kf - kl) = List.replicate (n - kf - kl) p.mask ∧ Nat.min 4 n ≤ n - kf - kl)

/-- A STATUS reply that is not held (R110, R111, R112, R150): the first becomes the baseline, whatever it reports; after
that one that carries FRESH is a restart, which asks for a SYNC, forgets the baseline, faults a lane in service with
reason UNIT_RESTART and waives the slot's confirmation in CLOSING (R143); one equal to the baseline clears the pending
flags; one equal to the pending flags is adopted, with a STATUS_CHANGE record in CLOSED, OPENING and OPEN, without one
in CLOSING, and though refused in FAULTED; any other becomes the pending flags. Where the record does not fit the reply
is held and nothing changes. -/
def Obligations.StatusChangesAreAdopted : Prop :=
  ∀ (s : State) (k : LaneNo) (n : SlotNo) (seq taken busy : Bool) (b : Byte),
    let lane := s.lane k
    let u := s.unit n
    let took := s.takeData k n ⟨.status, seq, taken, busy, [b]⟩
    let verdict : Verdict := if lane.phase = .faulted then .refuse else .accept
    let now (u : UnitRun) : Taking := ⟨verdict, { s with units := s.units.set n u }⟩
    let reported : StatusFlags := ⟨b.getLsbD 0, b.getLsbD 1, b.getLsbD 2⟩
    let role : Byte := match (s.record n).kind with | .pinpad => 1 | .reader => 2 | .combo => 3
    let byte (f : StatusFlags) : Byte :=
      byteOf ((if f.cardPresent then 1 else 0) + (if f.keyStuck then 2 else 0) + (if f.displayFault then 4 else 0))
    (s.record n).kind = .reader ∨ (∀ w, lane.window = some w → w.carryOver = none) →
    (u.baseline = none → took = now { u with baseline := some reported }) ∧
    (∀ old, u.baseline = some old →
      (b.getLsbD 3 = true →
        let again : UnitRun := { u with syncRequest := true, baseline := none, pendingFlags := none }
        let restarted : State := { s with units := s.units.set n again }
        s.currentLane n = some k →
        (lane.phase = .closed ∨ lane.phase = .faulted → took = now again) ∧
        (lane.phase = .opening ∨ lane.phase = .opened → lane.decision = none →
          took = ⟨.accept, restarted.faultedFor k 2⟩) ∧
        (lane.phase = .closing →
          (lane.WaitsForOther n → took = ⟨.accept, restarted.waivedFor k n⟩) ∧
          (¬lane.WaitsForOther n → s.NoneStaged → s.inFits k 4 = true →
            took = ⟨.accept, restarted.closedFor k⟩))) ∧
      (b.getLsbD 3 = false →
        (reported = old → took = now { u with pendingFlags := none }) ∧
        (reported ≠ old → u.pendingFlags ≠ some reported → took = now { u with pendingFlags := some reported }) ∧
        (reported ≠ old → u.pendingFlags = some reported →
          let adopted : UnitRun := { u with baseline := some reported, pendingFlags := none }
          (lane.phase = .closing ∨ lane.phase = .faulted → took = now adopted) ∧
          (lane.phase = .closed ∨ lane.phase = .opening ∨ lane.phase = .opened →
            (s.inFits k 7 = true →
              took =
                ⟨.accept,
                  { s with
                    units := s.units.set n adopted
                    inbound := s.inbound.set k
                      (s.inQueue k ++
                        [[7, 0x0D, hiByte lane.tag, loByte lane.tag, byte old, byte reported, role]]) }⟩) ∧
            (s.inFits k 7 = false → took = ⟨.hold, s⟩)))))

/-- Data replies outside an entry (R148, R149, R164): in CLOSED the first KEYS or CARD reply writes LANE_CALL and sets the call
latch, or is held where it does not fit, and later ones are discarded; in OPENING keys and fragments are ignored; a PINBLOCK
is taken from the keypad in AWAIT_BLOCK alone, as PIN_DONE with the window SHUTTING, or held, and is refused elsewhere. A
VALID SHUT ends a SHUTTING window, which is HELD where it chains (R165). That keys in OPENING are counted by raw codes is log
entry 17; that a PINBLOCK refused in FAULTED is not counted is log entry 29. -/
def Obligations.CallsBlocksAndShuts : Prop :=
  ∀ (s : State) (k : LaneNo) (n : SlotNo) (seq taken busy card : Bool) (payload : List Byte) (l : Line) (x : Exchange),
    let lane := s.lane k
    let took (kind : ReplyKind) : Taking := s.takeData k n ⟨kind, seq, taken, busy, payload⟩
    let kind : ReplyKind := if card then .card else .keys
    let ignored (count : Nat) : State :=
      { s with
        units := s.units.set n
          { s.unit n with
            counters := { (s.unit n).counters with ignored := bumpBy (s.unit n).counters.ignored count } } }
    (lane.phase ≠ .opened → lane.window = none →
      (lane.phase = .closed →
        (lane.callLatch = true → took kind = ⟨.accept, s⟩) ∧
        (lane.callLatch = false →
          (s.inFits k 5 = true →
            took kind =
              ⟨.accept,
                { s with
                  lanes := s.lanes.set k { lane with callLatch := true }
                  inbound := s.inbound.set k
                    (s.inQueue k ++ [[5, 3, hiByte lane.tag, loByte lane.tag, if card then 2 else 1]]) }⟩) ∧
          (s.inFits k 5 = false → took kind = ⟨.hold, s⟩))) ∧
      (lane.phase = .opening →
        took .keys = ⟨.accept, ignored payload.length⟩ ∧
          (lane.standby = false → took .card = ⟨.accept, ignored 1⟩) ∧
          (lane.standby = true → took .card = ⟨.hold, s⟩)) ∧
      (lane.phase = .closed ∨ lane.phase = .opening → took .pinBlock = ⟨.refuse, ignored 1⟩) ∧
      (lane.phase = .closing →
        took .keys = ⟨.accept, s⟩ ∧ took .card = ⟨.accept, s⟩ ∧ took .pinBlock = ⟨.accept, s⟩) ∧
      (lane.phase = .faulted →
        took .keys = ⟨.refuse, s⟩ ∧ took .card = ⟨.refuse, s⟩ ∧ took .pinBlock = ⟨.refuse, s⟩)) ∧
    (lane.phase = .opened →
      (lane.window = none → took .pinBlock = ⟨.refuse, ignored 1⟩) ∧
      (∀ w, lane.window = some w → w.carryOver = none →
        let awaited : Prop := w.phase = .awaitBlock ∧ (s.record n).kind ≠ .reader ∧
          match w.what with
          | .pin _ _ _ => True
          | .amount _ _ _ _ _ => False
        (¬awaited → took .pinBlock = ⟨.refuse, ignored 1⟩) ∧
        (awaited →
          (s.inFits k (4 + payload.length) = true →
            took .pinBlock =
              ⟨.accept,
                { s with
                  lanes := s.lanes.set k { lane with window := some { w with phase := .shutting } }
                  inbound := s.inbound.set k
                    (s.inQueue k ++
                      [byteOf (4 + payload.length) :: 0x0A :: hiByte lane.tag :: loByte lane.tag :: payload]) }⟩) ∧
          (s.inFits k (4 + payload.length) = false → took .pinBlock = ⟨.hold, s⟩)))) ∧
    (let e := s.engine l
      let u := s.unit x.slot
      let k := (s.record x.slot).lane
      let lane := s.lane k
      let answer := (telegramBytes x.tune.data (x.bytes.headD 0) 0 []).map x.tune.undisturbed
      e.exchange = some x → e.xstate = .await → e.rx = .atRest → e.driver = false → e.received = [] → e.run = none →
      e.tuned = x.tune → x.kind = .shut → u.superseded = false → u.presence = .locked ∨ u.presence = .faltering → u.doubt = none →
      (s.record x.slot).enabled = true → lane.phase ≠ .closing → (x.bytes.headD 0).toNat < 32 →
      exec (.reply l answer) s =
        .next (State.selectNew (State.refresh
          { s with
            units := s.units.set x.slot
              { u with
                presence := .locked, fail := 0, counters := { u.counters with valid := bump u.counters.valid }
                pendingAck := .none }
            lanes := s.lanes.set k
              { lane with
                window :=
                  match lane.window with
                  | none => none
                  | some w =>
                    if w.phase ≠ .shutting then some w else if w.chain then some { w with phase := .held } else none }
            engines := s.engines.set l
              { e with
                exchange := none, received := [], conflicts := 0, xstate := .guarding
                ringPtr :=
                  if e.stage = .ring then (if e.cut then (s.ring l).length else e.ringPtr + 1) else e.ringPtr } }
          l)))

/-- A data reply that the lane holds or refuses leaves the lane, but for a carry-over mark (R159), its queues and its alert
set as they were; one that it accepts gives at most one event record, and never one that does not fit (R76, R124, R167). -/
def Obligations.RepliesAreTakenWholeOrNotAtAll : Prop :=
  ∀ (s : State) (k : LaneNo) (n : SlotNo) (r : Reply),
    r.kind ≠ .idle → r.kind ≠ .status →
    let t := s.takeData k n r
    t.after.outbound = s.outbound ∧ t.after.engines = s.engines ∧ t.after.tables = s.tables ∧
      t.after.link = s.link ∧ (∀ j, j ≠ k → t.after.lane j = s.lane j ∧ t.after.inQueue j = s.inQueue j) ∧
      (t.after.lane k).alerts = (s.lane k).alerts ∧
      (t.verdict ≠ .accept →
        t.after.inQueue k = s.inQueue k ∧
          t.after.lane k =
            { s.lane k with
              window := (s.lane k).window.map fun w =>
                if (s.record n).kind = .reader then w else { w with carryOver := none } }) ∧
      (t.verdict = .accept →
        t.after.inQueue k = s.inQueue k ∨
          ((t.after.inQueue k).dropLast = s.inQueue k ∧
            s.inFits k ((t.after.inQueue k).getLastD []).length = true)) ∧
      ((s.lane k).phase = .faulted → t.verdict = .refuse) ∧ ((s.lane k).phase = .closing → t.verdict = .accept)

end
end

