-- ==== Sys2Proof/Laws/State.lean ====
section
/-! SUPPORT. One lemma for each field of the state under each update, and what each reader gives after each update. -/

namespace Sys2Proof.Machine

variable (s : State)

/-! ### Fields under updates -/

@[simp] theorem State.setLane_link (k : LaneNo) (r : LaneRecord) : (s.setLane k r).link = s.link := rfl
@[simp] theorem State.setLane_tables (k : LaneNo) (r : LaneRecord) : (s.setLane k r).tables = s.tables := rfl
@[simp] theorem State.setLane_reply (k : LaneNo) (r : LaneRecord) : (s.setLane k r).reply = s.reply := rfl
@[simp] theorem State.setLane_softPending (k : LaneNo) (r : LaneRecord) : (s.setLane k r).softPending = s.softPending := rfl
@[simp] theorem State.setLane_notices (k : LaneNo) (r : LaneRecord) : (s.setLane k r).notices = s.notices := rfl
@[simp] theorem State.setLane_inbound (k : LaneNo) (r : LaneRecord) : (s.setLane k r).inbound = s.inbound := rfl
@[simp] theorem State.setLane_outbound (k : LaneNo) (r : LaneRecord) : (s.setLane k r).outbound = s.outbound := rfl
@[simp] theorem State.setLane_lanes (k : LaneNo) (r : LaneRecord) : (s.setLane k r).lanes = s.lanes.set k r := rfl
@[simp] theorem State.setLane_units (k : LaneNo) (r : LaneRecord) : (s.setLane k r).units = s.units := rfl
@[simp] theorem State.setLane_engines (k : LaneNo) (r : LaneRecord) : (s.setLane k r).engines = s.engines := rfl
@[simp] theorem State.setLane_serial (k : LaneNo) (r : LaneRecord) : (s.setLane k r).serial = s.serial := rfl
@[simp] theorem State.setLane_choices (k : LaneNo) (r : LaneRecord) : (s.setLane k r).choices = s.choices := rfl
@[simp] theorem State.setLane_pending (k : LaneNo) (r : LaneRecord) : (s.setLane k r).pending = s.pending := rfl

@[simp] theorem State.setUnit_link (n : SlotNo) (u : UnitRun) : (s.setUnit n u).link = s.link := rfl
@[simp] theorem State.setUnit_tables (n : SlotNo) (u : UnitRun) : (s.setUnit n u).tables = s.tables := rfl
@[simp] theorem State.setUnit_reply (n : SlotNo) (u : UnitRun) : (s.setUnit n u).reply = s.reply := rfl
@[simp] theorem State.setUnit_softPending (n : SlotNo) (u : UnitRun) : (s.setUnit n u).softPending = s.softPending := rfl
@[simp] theorem State.setUnit_notices (n : SlotNo) (u : UnitRun) : (s.setUnit n u).notices = s.notices := rfl
@[simp] theorem State.setUnit_inbound (n : SlotNo) (u : UnitRun) : (s.setUnit n u).inbound = s.inbound := rfl
@[simp] theorem State.setUnit_outbound (n : SlotNo) (u : UnitRun) : (s.setUnit n u).outbound = s.outbound := rfl
@[simp] theorem State.setUnit_lanes (n : SlotNo) (u : UnitRun) : (s.setUnit n u).lanes = s.lanes := rfl
@[simp] theorem State.setUnit_units (n : SlotNo) (u : UnitRun) : (s.setUnit n u).units = s.units.set n u := rfl
@[simp] theorem State.setUnit_engines (n : SlotNo) (u : UnitRun) : (s.setUnit n u).engines = s.engines := rfl
@[simp] theorem State.setUnit_serial (n : SlotNo) (u : UnitRun) : (s.setUnit n u).serial = s.serial := rfl
@[simp] theorem State.setUnit_choices (n : SlotNo) (u : UnitRun) : (s.setUnit n u).choices = s.choices := rfl
@[simp] theorem State.setUnit_pending (n : SlotNo) (u : UnitRun) : (s.setUnit n u).pending = s.pending := rfl

@[simp] theorem State.setEngine_link (l : Line) (e : Engine) : (s.setEngine l e).link = s.link := rfl
@[simp] theorem State.setEngine_tables (l : Line) (e : Engine) : (s.setEngine l e).tables = s.tables := rfl
@[simp] theorem State.setEngine_reply (l : Line) (e : Engine) : (s.setEngine l e).reply = s.reply := rfl
@[simp] theorem State.setEngine_softPending (l : Line) (e : Engine) : (s.setEngine l e).softPending = s.softPending := rfl
@[simp] theorem State.setEngine_notices (l : Line) (e : Engine) : (s.setEngine l e).notices = s.notices := rfl
@[simp] theorem State.setEngine_inbound (l : Line) (e : Engine) : (s.setEngine l e).inbound = s.inbound := rfl
@[simp] theorem State.setEngine_outbound (l : Line) (e : Engine) : (s.setEngine l e).outbound = s.outbound := rfl
@[simp] theorem State.setEngine_lanes (l : Line) (e : Engine) : (s.setEngine l e).lanes = s.lanes := rfl
@[simp] theorem State.setEngine_units (l : Line) (e : Engine) : (s.setEngine l e).units = s.units := rfl
@[simp] theorem State.setEngine_engines (l : Line) (e : Engine) : (s.setEngine l e).engines = s.engines.set l e := rfl
@[simp] theorem State.setEngine_serial (l : Line) (e : Engine) : (s.setEngine l e).serial = s.serial := rfl
@[simp] theorem State.setEngine_choices (l : Line) (e : Engine) : (s.setEngine l e).choices = s.choices := rfl
@[simp] theorem State.setEngine_pending (l : Line) (e : Engine) : (s.setEngine l e).pending = s.pending := rfl

@[simp] theorem State.setInQueue_link (k : LaneNo) (q : List (List Byte)) : (s.setInQueue k q).link = s.link := rfl
@[simp] theorem State.setInQueue_tables (k : LaneNo) (q : List (List Byte)) : (s.setInQueue k q).tables = s.tables := rfl
@[simp] theorem State.setInQueue_reply (k : LaneNo) (q : List (List Byte)) : (s.setInQueue k q).reply = s.reply := rfl
@[simp] theorem State.setInQueue_softPending (k : LaneNo) (q : List (List Byte)) : (s.setInQueue k q).softPending = s.softPending := rfl
@[simp] theorem State.setInQueue_notices (k : LaneNo) (q : List (List Byte)) : (s.setInQueue k q).notices = s.notices := rfl
@[simp] theorem State.setInQueue_inbound (k : LaneNo) (q : List (List Byte)) : (s.setInQueue k q).inbound = s.inbound.set k q := rfl
@[simp] theorem State.setInQueue_outbound (k : LaneNo) (q : List (List Byte)) : (s.setInQueue k q).outbound = s.outbound := rfl
@[simp] theorem State.setInQueue_lanes (k : LaneNo) (q : List (List Byte)) : (s.setInQueue k q).lanes = s.lanes := rfl
@[simp] theorem State.setInQueue_units (k : LaneNo) (q : List (List Byte)) : (s.setInQueue k q).units = s.units := rfl
@[simp] theorem State.setInQueue_engines (k : LaneNo) (q : List (List Byte)) : (s.setInQueue k q).engines = s.engines := rfl
@[simp] theorem State.setInQueue_serial (k : LaneNo) (q : List (List Byte)) : (s.setInQueue k q).serial = s.serial := rfl
@[simp] theorem State.setInQueue_choices (k : LaneNo) (q : List (List Byte)) : (s.setInQueue k q).choices = s.choices := rfl
@[simp] theorem State.setInQueue_pending (k : LaneNo) (q : List (List Byte)) : (s.setInQueue k q).pending = s.pending := rfl

@[simp] theorem State.setOutQueue_link (k : LaneNo) (q : List OutRecord) : (s.setOutQueue k q).link = s.link := rfl
@[simp] theorem State.setOutQueue_tables (k : LaneNo) (q : List OutRecord) : (s.setOutQueue k q).tables = s.tables := rfl
@[simp] theorem State.setOutQueue_reply (k : LaneNo) (q : List OutRecord) : (s.setOutQueue k q).reply = s.reply := rfl
@[simp] theorem State.setOutQueue_softPending (k : LaneNo) (q : List OutRecord) : (s.setOutQueue k q).softPending = s.softPending := rfl
@[simp] theorem State.setOutQueue_notices (k : LaneNo) (q : List OutRecord) : (s.setOutQueue k q).notices = s.notices := rfl
@[simp] theorem State.setOutQueue_inbound (k : LaneNo) (q : List OutRecord) : (s.setOutQueue k q).inbound = s.inbound := rfl
@[simp] theorem State.setOutQueue_outbound (k : LaneNo) (q : List OutRecord) : (s.setOutQueue k q).outbound = s.outbound.set k q := rfl
@[simp] theorem State.setOutQueue_lanes (k : LaneNo) (q : List OutRecord) : (s.setOutQueue k q).lanes = s.lanes := rfl
@[simp] theorem State.setOutQueue_units (k : LaneNo) (q : List OutRecord) : (s.setOutQueue k q).units = s.units := rfl
@[simp] theorem State.setOutQueue_engines (k : LaneNo) (q : List OutRecord) : (s.setOutQueue k q).engines = s.engines := rfl
@[simp] theorem State.setOutQueue_serial (k : LaneNo) (q : List OutRecord) : (s.setOutQueue k q).serial = s.serial := rfl
@[simp] theorem State.setOutQueue_choices (k : LaneNo) (q : List OutRecord) : (s.setOutQueue k q).choices = s.choices := rfl
@[simp] theorem State.setOutQueue_pending (k : LaneNo) (q : List OutRecord) : (s.setOutQueue k q).pending = s.pending := rfl

@[simp] theorem State.setEntry_link (n : SlotNo) (x : SlotEntry) : (s.setEntry n x).link = s.link := rfl
@[simp] theorem State.setEntry_tables (n : SlotNo) (x : SlotEntry) : (s.setEntry n x).tables = { s.tables with units := s.tables.units.set n x } := rfl
@[simp] theorem State.setEntry_reply (n : SlotNo) (x : SlotEntry) : (s.setEntry n x).reply = s.reply := rfl
@[simp] theorem State.setEntry_softPending (n : SlotNo) (x : SlotEntry) : (s.setEntry n x).softPending = s.softPending := rfl
@[simp] theorem State.setEntry_notices (n : SlotNo) (x : SlotEntry) : (s.setEntry n x).notices = s.notices := rfl
@[simp] theorem State.setEntry_inbound (n : SlotNo) (x : SlotEntry) : (s.setEntry n x).inbound = s.inbound := rfl
@[simp] theorem State.setEntry_outbound (n : SlotNo) (x : SlotEntry) : (s.setEntry n x).outbound = s.outbound := rfl
@[simp] theorem State.setEntry_lanes (n : SlotNo) (x : SlotEntry) : (s.setEntry n x).lanes = s.lanes := rfl
@[simp] theorem State.setEntry_units (n : SlotNo) (x : SlotEntry) : (s.setEntry n x).units = s.units := rfl
@[simp] theorem State.setEntry_engines (n : SlotNo) (x : SlotEntry) : (s.setEntry n x).engines = s.engines := rfl
@[simp] theorem State.setEntry_serial (n : SlotNo) (x : SlotEntry) : (s.setEntry n x).serial = s.serial := rfl
@[simp] theorem State.setEntry_choices (n : SlotNo) (x : SlotEntry) : (s.setEntry n x).choices = s.choices := rfl
@[simp] theorem State.setEntry_pending (n : SlotNo) (x : SlotEntry) : (s.setEntry n x).pending = s.pending := rfl

@[simp] theorem State.setNotices_link (n : NoticeSet) : (s.setNotices n).link = s.link := rfl
@[simp] theorem State.setNotices_tables (n : NoticeSet) : (s.setNotices n).tables = s.tables := rfl
@[simp] theorem State.setNotices_reply (n : NoticeSet) : (s.setNotices n).reply = s.reply := rfl
@[simp] theorem State.setNotices_softPending (n : NoticeSet) : (s.setNotices n).softPending = s.softPending := rfl
@[simp] theorem State.setNotices_notices (n : NoticeSet) : (s.setNotices n).notices = n := rfl
@[simp] theorem State.setNotices_inbound (n : NoticeSet) : (s.setNotices n).inbound = s.inbound := rfl
@[simp] theorem State.setNotices_outbound (n : NoticeSet) : (s.setNotices n).outbound = s.outbound := rfl
@[simp] theorem State.setNotices_lanes (n : NoticeSet) : (s.setNotices n).lanes = s.lanes := rfl
@[simp] theorem State.setNotices_units (n : NoticeSet) : (s.setNotices n).units = s.units := rfl
@[simp] theorem State.setNotices_engines (n : NoticeSet) : (s.setNotices n).engines = s.engines := rfl
@[simp] theorem State.setNotices_serial (n : NoticeSet) : (s.setNotices n).serial = s.serial := rfl
@[simp] theorem State.setNotices_choices (n : NoticeSet) : (s.setNotices n).choices = s.choices := rfl
@[simp] theorem State.setNotices_pending (n : NoticeSet) : (s.setNotices n).pending = s.pending := rfl

@[simp] theorem State.setLink_link (p : LinkPort) : (s.setLink p).link = p := rfl
@[simp] theorem State.setLink_tables (p : LinkPort) : (s.setLink p).tables = s.tables := rfl
@[simp] theorem State.setLink_reply (p : LinkPort) : (s.setLink p).reply = s.reply := rfl
@[simp] theorem State.setLink_softPending (p : LinkPort) : (s.setLink p).softPending = s.softPending := rfl
@[simp] theorem State.setLink_notices (p : LinkPort) : (s.setLink p).notices = s.notices := rfl
@[simp] theorem State.setLink_inbound (p : LinkPort) : (s.setLink p).inbound = s.inbound := rfl
@[simp] theorem State.setLink_outbound (p : LinkPort) : (s.setLink p).outbound = s.outbound := rfl
@[simp] theorem State.setLink_lanes (p : LinkPort) : (s.setLink p).lanes = s.lanes := rfl
@[simp] theorem State.setLink_units (p : LinkPort) : (s.setLink p).units = s.units := rfl
@[simp] theorem State.setLink_engines (p : LinkPort) : (s.setLink p).engines = s.engines := rfl
@[simp] theorem State.setLink_serial (p : LinkPort) : (s.setLink p).serial = s.serial := rfl
@[simp] theorem State.setLink_choices (p : LinkPort) : (s.setLink p).choices = s.choices := rfl
@[simp] theorem State.setLink_pending (p : LinkPort) : (s.setLink p).pending = s.pending := rfl

@[simp] theorem State.setReply_link (r : Option (List Byte)) : (s.setReply r).link = s.link := rfl
@[simp] theorem State.setReply_tables (r : Option (List Byte)) : (s.setReply r).tables = s.tables := rfl
@[simp] theorem State.setReply_reply (r : Option (List Byte)) : (s.setReply r).reply = r := rfl
@[simp] theorem State.setReply_softPending (r : Option (List Byte)) : (s.setReply r).softPending = s.softPending := rfl
@[simp] theorem State.setReply_notices (r : Option (List Byte)) : (s.setReply r).notices = s.notices := rfl
@[simp] theorem State.setReply_inbound (r : Option (List Byte)) : (s.setReply r).inbound = s.inbound := rfl
@[simp] theorem State.setReply_outbound (r : Option (List Byte)) : (s.setReply r).outbound = s.outbound := rfl
@[simp] theorem State.setReply_lanes (r : Option (List Byte)) : (s.setReply r).lanes = s.lanes := rfl
@[simp] theorem State.setReply_units (r : Option (List Byte)) : (s.setReply r).units = s.units := rfl
@[simp] theorem State.setReply_engines (r : Option (List Byte)) : (s.setReply r).engines = s.engines := rfl
@[simp] theorem State.setReply_serial (r : Option (List Byte)) : (s.setReply r).serial = s.serial := rfl
@[simp] theorem State.setReply_choices (r : Option (List Byte)) : (s.setReply r).choices = s.choices := rfl
@[simp] theorem State.setReply_pending (r : Option (List Byte)) : (s.setReply r).pending = s.pending := rfl

@[simp] theorem State.setTables_link (t : Tables) : (s.setTables t).link = s.link := rfl
@[simp] theorem State.setTables_tables (t : Tables) : (s.setTables t).tables = t := rfl
@[simp] theorem State.setTables_reply (t : Tables) : (s.setTables t).reply = s.reply := rfl
@[simp] theorem State.setTables_softPending (t : Tables) : (s.setTables t).softPending = s.softPending := rfl
@[simp] theorem State.setTables_notices (t : Tables) : (s.setTables t).notices = s.notices := rfl
@[simp] theorem State.setTables_inbound (t : Tables) : (s.setTables t).inbound = s.inbound := rfl
@[simp] theorem State.setTables_outbound (t : Tables) : (s.setTables t).outbound = s.outbound := rfl
@[simp] theorem State.setTables_lanes (t : Tables) : (s.setTables t).lanes = s.lanes := rfl
@[simp] theorem State.setTables_units (t : Tables) : (s.setTables t).units = s.units := rfl
@[simp] theorem State.setTables_engines (t : Tables) : (s.setTables t).engines = s.engines := rfl
@[simp] theorem State.setTables_serial (t : Tables) : (s.setTables t).serial = s.serial := rfl
@[simp] theorem State.setTables_choices (t : Tables) : (s.setTables t).choices = s.choices := rfl
@[simp] theorem State.setTables_pending (t : Tables) : (s.setTables t).pending = s.pending := rfl

/-! ### One part for each line -/

@[simp] theorem PerLine.get_set_same {α : Type} (v : PerLine α) (l : Line) (x : α) : (v.set l x).get l = x := by
  cases l <;> rfl

@[simp] theorem PerLine.get_set_other {α : Type} (v : PerLine α) {l m : Line} (x : α) (h : m ≠ l) :
    (v.set l x).get m = v.get m := by
  cases l <;> cases m <;> first | rfl | exact absurd rfl h

@[simp] theorem PerLine.set_set {α : Type} (v : PerLine α) (l : Line) (x y : α) : (v.set l x).set l y = v.set l y := by
  cases l <;> rfl

@[simp] theorem PerLine.set_get {α : Type} (v : PerLine α) (l : Line) : v.set l (v.get l) = v := by
  cases l <;> rfl

theorem PerLine.get_a {α : Type} (v : PerLine α) : v.get .a = v.a := rfl
theorem PerLine.get_b {α : Type} (v : PerLine α) : v.get .b = v.b := rfl

/-! ### Readers after updates of what they read -/

@[simp] theorem State.lane_setLane_same (k : LaneNo) (r : LaneRecord) : (s.setLane k r).lane k = r := by
  simp [State.lane]

@[simp] theorem State.lane_setLane_other {j k : LaneNo} (r : LaneRecord) (h : j ≠ k) :
    (s.setLane k r).lane j = s.lane j := by
  simp [State.lane, Vector.getElem_set_ne, Fin.val_ne_of_ne h.symm]

theorem State.lane_setLane (j k : LaneNo) (r : LaneRecord) :
    (s.setLane k r).lane j = if j = k then r else s.lane j := by
  by_cases h : j = k
  · subst h; simp
  · simp [h]

@[simp] theorem State.unit_setUnit_same (n : SlotNo) (u : UnitRun) : (s.setUnit n u).unit n = u := by
  simp [State.unit]

@[simp] theorem State.unit_setUnit_other {m n : SlotNo} (u : UnitRun) (h : m ≠ n) :
    (s.setUnit n u).unit m = s.unit m := by
  simp [State.unit, Vector.getElem_set_ne, Fin.val_ne_of_ne h.symm]

theorem State.unit_setUnit (m n : SlotNo) (u : UnitRun) :
    (s.setUnit n u).unit m = if m = n then u else s.unit m := by
  by_cases h : m = n
  · subst h; simp
  · simp [h]

@[simp] theorem State.engine_setEngine_same (l : Line) (e : Engine) : (s.setEngine l e).engine l = e := by
  simp [State.engine]

@[simp] theorem State.engine_setEngine_other {l m : Line} (e : Engine) (h : m ≠ l) :
    (s.setEngine l e).engine m = s.engine m := by
  simp [State.engine, h]

@[simp] theorem State.inQueue_setInQueue_same (k : LaneNo) (q : List (List Byte)) :
    (s.setInQueue k q).inQueue k = q := by
  simp [State.inQueue]

@[simp] theorem State.inQueue_setInQueue_other {j k : LaneNo} (q : List (List Byte)) (h : j ≠ k) :
    (s.setInQueue k q).inQueue j = s.inQueue j := by
  simp [State.inQueue, Vector.getElem_set_ne, Fin.val_ne_of_ne h.symm]

@[simp] theorem State.outQueue_setOutQueue_same (k : LaneNo) (q : List OutRecord) :
    (s.setOutQueue k q).outQueue k = q := by
  simp [State.outQueue]

@[simp] theorem State.outQueue_setOutQueue_other {j k : LaneNo} (q : List OutRecord) (h : j ≠ k) :
    (s.setOutQueue k q).outQueue j = s.outQueue j := by
  simp [State.outQueue, Vector.getElem_set_ne, Fin.val_ne_of_ne h.symm]

@[simp] theorem State.record_setEntry_same (n : SlotNo) (x : SlotEntry) : (s.setEntry n x).record n = x.current := by
  simp [State.record]

@[simp] theorem State.record_setEntry_other {m n : SlotNo} (x : SlotEntry) (h : m ≠ n) :
    (s.setEntry n x).record m = s.record m := by
  simp [State.record, Vector.getElem_set_ne, Fin.val_ne_of_ne h.symm]

@[simp] theorem State.staged_setEntry_same (n : SlotNo) (x : SlotEntry) : (s.setEntry n x).staged n = x.staged := by
  simp [State.staged]

@[simp] theorem State.staged_setEntry_other {m n : SlotNo} (x : SlotEntry) (h : m ≠ n) :
    (s.setEntry n x).staged m = s.staged m := by
  simp [State.staged, Vector.getElem_set_ne, Fin.val_ne_of_ne h.symm]

/-! ### Readers after other updates -/

@[simp] theorem State.unit_setLane (k : LaneNo) (r : LaneRecord) (m : SlotNo) : (s.setLane k r).unit m = s.unit m := rfl
@[simp] theorem State.engine_setLane (k : LaneNo) (r : LaneRecord) (m : Line) : (s.setLane k r).engine m = s.engine m := rfl
@[simp] theorem State.inQueue_setLane (k : LaneNo) (r : LaneRecord) (j : LaneNo) : (s.setLane k r).inQueue j = s.inQueue j := rfl
@[simp] theorem State.outQueue_setLane (k : LaneNo) (r : LaneRecord) (j : LaneNo) : (s.setLane k r).outQueue j = s.outQueue j := rfl
@[simp] theorem State.record_setLane (k : LaneNo) (r : LaneRecord) (m : SlotNo) : (s.setLane k r).record m = s.record m := rfl
@[simp] theorem State.staged_setLane (k : LaneNo) (r : LaneRecord) (m : SlotNo) : (s.setLane k r).staged m = s.staged m := rfl
@[simp] theorem State.laneSettings_setLane (k : LaneNo) (r : LaneRecord) (j : LaneNo) : (s.setLane k r).laneSettings j = s.laneSettings j := rfl
@[simp] theorem State.ring_setLane (k : LaneNo) (r : LaneRecord) (m : Line) : (s.setLane k r).ring m = s.ring m := rfl
@[simp] theorem State.lineInForce_setLane (k : LaneNo) (r : LaneRecord) (m : Line) : (s.setLane k r).lineInForce m = s.lineInForce m := rfl

@[simp] theorem State.lane_setUnit (n : SlotNo) (u : UnitRun) (j : LaneNo) : (s.setUnit n u).lane j = s.lane j := rfl
@[simp] theorem State.engine_setUnit (n : SlotNo) (u : UnitRun) (m : Line) : (s.setUnit n u).engine m = s.engine m := rfl
@[simp] theorem State.inQueue_setUnit (n : SlotNo) (u : UnitRun) (j : LaneNo) : (s.setUnit n u).inQueue j = s.inQueue j := rfl
@[simp] theorem State.outQueue_setUnit (n : SlotNo) (u : UnitRun) (j : LaneNo) : (s.setUnit n u).outQueue j = s.outQueue j := rfl
@[simp] theorem State.record_setUnit (n : SlotNo) (u : UnitRun) (m : SlotNo) : (s.setUnit n u).record m = s.record m := rfl
@[simp] theorem State.staged_setUnit (n : SlotNo) (u : UnitRun) (m : SlotNo) : (s.setUnit n u).staged m = s.staged m := rfl
@[simp] theorem State.laneSettings_setUnit (n : SlotNo) (u : UnitRun) (j : LaneNo) : (s.setUnit n u).laneSettings j = s.laneSettings j := rfl
@[simp] theorem State.ring_setUnit (n : SlotNo) (u : UnitRun) (m : Line) : (s.setUnit n u).ring m = s.ring m := rfl
@[simp] theorem State.lineInForce_setUnit (n : SlotNo) (u : UnitRun) (m : Line) : (s.setUnit n u).lineInForce m = s.lineInForce m := rfl

@[simp] theorem State.lane_setEngine (l : Line) (e : Engine) (j : LaneNo) : (s.setEngine l e).lane j = s.lane j := rfl
@[simp] theorem State.unit_setEngine (l : Line) (e : Engine) (m : SlotNo) : (s.setEngine l e).unit m = s.unit m := rfl
@[simp] theorem State.inQueue_setEngine (l : Line) (e : Engine) (j : LaneNo) : (s.setEngine l e).inQueue j = s.inQueue j := rfl
@[simp] theorem State.outQueue_setEngine (l : Line) (e : Engine) (j : LaneNo) : (s.setEngine l e).outQueue j = s.outQueue j := rfl
@[simp] theorem State.record_setEngine (l : Line) (e : Engine) (m : SlotNo) : (s.setEngine l e).record m = s.record m := rfl
@[simp] theorem State.staged_setEngine (l : Line) (e : Engine) (m : SlotNo) : (s.setEngine l e).staged m = s.staged m := rfl
@[simp] theorem State.laneSettings_setEngine (l : Line) (e : Engine) (j : LaneNo) : (s.setEngine l e).laneSettings j = s.laneSettings j := rfl
@[simp] theorem State.ring_setEngine (l : Line) (e : Engine) (m : Line) : (s.setEngine l e).ring m = s.ring m := rfl
@[simp] theorem State.lineInForce_setEngine (l : Line) (e : Engine) (m : Line) : (s.setEngine l e).lineInForce m = s.lineInForce m := rfl

@[simp] theorem State.lane_setInQueue (k : LaneNo) (q : List (List Byte)) (j : LaneNo) : (s.setInQueue k q).lane j = s.lane j := rfl
@[simp] theorem State.unit_setInQueue (k : LaneNo) (q : List (List Byte)) (m : SlotNo) : (s.setInQueue k q).unit m = s.unit m := rfl
@[simp] theorem State.engine_setInQueue (k : LaneNo) (q : List (List Byte)) (m : Line) : (s.setInQueue k q).engine m = s.engine m := rfl
@[simp] theorem State.outQueue_setInQueue (k : LaneNo) (q : List (List Byte)) (j : LaneNo) : (s.setInQueue k q).outQueue j = s.outQueue j := rfl
@[simp] theorem State.record_setInQueue (k : LaneNo) (q : List (List Byte)) (m : SlotNo) : (s.setInQueue k q).record m = s.record m := rfl
@[simp] theorem State.staged_setInQueue (k : LaneNo) (q : List (List Byte)) (m : SlotNo) : (s.setInQueue k q).staged m = s.staged m := rfl
@[simp] theorem State.laneSettings_setInQueue (k : LaneNo) (q : List (List Byte)) (j : LaneNo) : (s.setInQueue k q).laneSettings j = s.laneSettings j := rfl
@[simp] theorem State.ring_setInQueue (k : LaneNo) (q : List (List Byte)) (m : Line) : (s.setInQueue k q).ring m = s.ring m := rfl
@[simp] theorem State.lineInForce_setInQueue (k : LaneNo) (q : List (List Byte)) (m : Line) : (s.setInQueue k q).lineInForce m = s.lineInForce m := rfl

@[simp] theorem State.lane_setOutQueue (k : LaneNo) (q : List OutRecord) (j : LaneNo) : (s.setOutQueue k q).lane j = s.lane j := rfl
@[simp] theorem State.unit_setOutQueue (k : LaneNo) (q : List OutRecord) (m : SlotNo) : (s.setOutQueue k q).unit m = s.unit m := rfl
@[simp] theorem State.engine_setOutQueue (k : LaneNo) (q : List OutRecord) (m : Line) : (s.setOutQueue k q).engine m = s.engine m := rfl
@[simp] theorem State.inQueue_setOutQueue (k : LaneNo) (q : List OutRecord) (j : LaneNo) : (s.setOutQueue k q).inQueue j = s.inQueue j := rfl
@[simp] theorem State.record_setOutQueue (k : LaneNo) (q : List OutRecord) (m : SlotNo) : (s.setOutQueue k q).record m = s.record m := rfl
@[simp] theorem State.staged_setOutQueue (k : LaneNo) (q : List OutRecord) (m : SlotNo) : (s.setOutQueue k q).staged m = s.staged m := rfl
@[simp] theorem State.laneSettings_setOutQueue (k : LaneNo) (q : List OutRecord) (j : LaneNo) : (s.setOutQueue k q).laneSettings j = s.laneSettings j := rfl
@[simp] theorem State.ring_setOutQueue (k : LaneNo) (q : List OutRecord) (m : Line) : (s.setOutQueue k q).ring m = s.ring m := rfl
@[simp] theorem State.lineInForce_setOutQueue (k : LaneNo) (q : List OutRecord) (m : Line) : (s.setOutQueue k q).lineInForce m = s.lineInForce m := rfl

@[simp] theorem State.lane_setEntry (n : SlotNo) (x : SlotEntry) (j : LaneNo) : (s.setEntry n x).lane j = s.lane j := rfl
@[simp] theorem State.unit_setEntry (n : SlotNo) (x : SlotEntry) (m : SlotNo) : (s.setEntry n x).unit m = s.unit m := rfl
@[simp] theorem State.engine_setEntry (n : SlotNo) (x : SlotEntry) (m : Line) : (s.setEntry n x).engine m = s.engine m := rfl
@[simp] theorem State.inQueue_setEntry (n : SlotNo) (x : SlotEntry) (j : LaneNo) : (s.setEntry n x).inQueue j = s.inQueue j := rfl
@[simp] theorem State.outQueue_setEntry (n : SlotNo) (x : SlotEntry) (j : LaneNo) : (s.setEntry n x).outQueue j = s.outQueue j := rfl
@[simp] theorem State.laneSettings_setEntry (n : SlotNo) (x : SlotEntry) (j : LaneNo) : (s.setEntry n x).laneSettings j = s.laneSettings j := rfl
@[simp] theorem State.ring_setEntry (n : SlotNo) (x : SlotEntry) (m : Line) : (s.setEntry n x).ring m = s.ring m := rfl
@[simp] theorem State.lineInForce_setEntry (n : SlotNo) (x : SlotEntry) (m : Line) : (s.setEntry n x).lineInForce m = s.lineInForce m := rfl

@[simp] theorem State.lane_setNotices (n : NoticeSet) (j : LaneNo) : (s.setNotices n).lane j = s.lane j := rfl
@[simp] theorem State.unit_setNotices (n : NoticeSet) (m : SlotNo) : (s.setNotices n).unit m = s.unit m := rfl
@[simp] theorem State.engine_setNotices (n : NoticeSet) (m : Line) : (s.setNotices n).engine m = s.engine m := rfl
@[simp] theorem State.inQueue_setNotices (n : NoticeSet) (j : LaneNo) : (s.setNotices n).inQueue j = s.inQueue j := rfl
@[simp] theorem State.outQueue_setNotices (n : NoticeSet) (j : LaneNo) : (s.setNotices n).outQueue j = s.outQueue j := rfl
@[simp] theorem State.record_setNotices (n : NoticeSet) (m : SlotNo) : (s.setNotices n).record m = s.record m := rfl
@[simp] theorem State.staged_setNotices (n : NoticeSet) (m : SlotNo) : (s.setNotices n).staged m = s.staged m := rfl
@[simp] theorem State.laneSettings_setNotices (n : NoticeSet) (j : LaneNo) : (s.setNotices n).laneSettings j = s.laneSettings j := rfl
@[simp] theorem State.ring_setNotices (n : NoticeSet) (m : Line) : (s.setNotices n).ring m = s.ring m := rfl
@[simp] theorem State.lineInForce_setNotices (n : NoticeSet) (m : Line) : (s.setNotices n).lineInForce m = s.lineInForce m := rfl

@[simp] theorem State.lane_setLink (p : LinkPort) (j : LaneNo) : (s.setLink p).lane j = s.lane j := rfl
@[simp] theorem State.unit_setLink (p : LinkPort) (m : SlotNo) : (s.setLink p).unit m = s.unit m := rfl
@[simp] theorem State.engine_setLink (p : LinkPort) (m : Line) : (s.setLink p).engine m = s.engine m := rfl
@[simp] theorem State.inQueue_setLink (p : LinkPort) (j : LaneNo) : (s.setLink p).inQueue j = s.inQueue j := rfl
@[simp] theorem State.outQueue_setLink (p : LinkPort) (j : LaneNo) : (s.setLink p).outQueue j = s.outQueue j := rfl
@[simp] theorem State.record_setLink (p : LinkPort) (m : SlotNo) : (s.setLink p).record m = s.record m := rfl
@[simp] theorem State.staged_setLink (p : LinkPort) (m : SlotNo) : (s.setLink p).staged m = s.staged m := rfl
@[simp] theorem State.laneSettings_setLink (p : LinkPort) (j : LaneNo) : (s.setLink p).laneSettings j = s.laneSettings j := rfl
@[simp] theorem State.ring_setLink (p : LinkPort) (m : Line) : (s.setLink p).ring m = s.ring m := rfl
@[simp] theorem State.lineInForce_setLink (p : LinkPort) (m : Line) : (s.setLink p).lineInForce m = s.lineInForce m := rfl

@[simp] theorem State.lane_setReply (r : Option (List Byte)) (j : LaneNo) : (s.setReply r).lane j = s.lane j := rfl
@[simp] theorem State.unit_setReply (r : Option (List Byte)) (m : SlotNo) : (s.setReply r).unit m = s.unit m := rfl
@[simp] theorem State.engine_setReply (r : Option (List Byte)) (m : Line) : (s.setReply r).engine m = s.engine m := rfl
@[simp] theorem State.inQueue_setReply (r : Option (List Byte)) (j : LaneNo) : (s.setReply r).inQueue j = s.inQueue j := rfl
@[simp] theorem State.outQueue_setReply (r : Option (List Byte)) (j : LaneNo) : (s.setReply r).outQueue j = s.outQueue j := rfl
@[simp] theorem State.record_setReply (r : Option (List Byte)) (m : SlotNo) : (s.setReply r).record m = s.record m := rfl
@[simp] theorem State.staged_setReply (r : Option (List Byte)) (m : SlotNo) : (s.setReply r).staged m = s.staged m := rfl
@[simp] theorem State.laneSettings_setReply (r : Option (List Byte)) (j : LaneNo) : (s.setReply r).laneSettings j = s.laneSettings j := rfl
@[simp] theorem State.ring_setReply (r : Option (List Byte)) (m : Line) : (s.setReply r).ring m = s.ring m := rfl
@[simp] theorem State.lineInForce_setReply (r : Option (List Byte)) (m : Line) : (s.setReply r).lineInForce m = s.lineInForce m := rfl

@[simp] theorem State.lane_setTables (t : Tables) (j : LaneNo) : (s.setTables t).lane j = s.lane j := rfl
@[simp] theorem State.unit_setTables (t : Tables) (m : SlotNo) : (s.setTables t).unit m = s.unit m := rfl
@[simp] theorem State.engine_setTables (t : Tables) (m : Line) : (s.setTables t).engine m = s.engine m := rfl
@[simp] theorem State.inQueue_setTables (t : Tables) (j : LaneNo) : (s.setTables t).inQueue j = s.inQueue j := rfl
@[simp] theorem State.outQueue_setTables (t : Tables) (j : LaneNo) : (s.setTables t).outQueue j = s.outQueue j := rfl

end Sys2Proof.Machine
end

