-- ==== Sys2Proof/Laws/Ops.lean ====
section
/-! SUPPORT. What each shared operation over the state can do, said once. -/

namespace Sys2Proof.Machine

/-! ### Queues (R122, R123, R126, R130) -/

@[simp] theorem State.inQueue_storeIn_same (s : State) (k : LaneNo) (r : List Byte) :
    (s.storeIn k r).inQueue k = s.inQueue k ++ [r] := by
  simp [State.storeIn]

@[simp] theorem State.inQueue_storeIn_other (s : State) {j k : LaneNo} (r : List Byte) (h : j ≠ k) :
    (s.storeIn k r).inQueue j = s.inQueue j := by
  simp [State.storeIn, h]

/-- Storing a record in an inbound queue changes that queue and nothing else. -/
theorem State.storeIn_eq (s : State) (k : LaneNo) (r : List Byte) :
    s.storeIn k r = { s with inbound := s.inbound.set k (s.inQueue k ++ [r]) } := rfl

/-- Storing a record in an outbound queue changes that queue and takes the next serial number. -/
theorem State.storeOut_eq (s : State) (k : LaneNo) (r : List Byte) :
    s.storeOut k r =
      { s with outbound := s.outbound.set k (s.outQueue k ++ [⟨s.serial, r⟩]), serial := s.serial + 1 } := rfl

/-- The occupancy of an inbound queue grows by the record's length (R123). -/
theorem State.inOccupancy_storeIn (s : State) (k : LaneNo) (r : List Byte) :
    (s.storeIn k r).inOccupancy k = s.inOccupancy k + r.length := by
  simp [State.inOccupancy]

/-- The occupancy of an outbound queue grows by the record's length (R123). -/
theorem State.outOccupancy_storeOut (s : State) (k : LaneNo) (r : List Byte) :
    (s.storeOut k r).outOccupancy k = s.outOccupancy k + r.length := by
  simp [State.outOccupancy, State.storeOut_eq, State.outQueue]

/-- A record that fits leaves an inbound queue within its capacity (R123). -/
theorem State.storeIn_within (s : State) (k : LaneNo) (r : List Byte) (within : s.inOccupancy k ≤ s.inCapacity k)
    (fits : s.inFits k r.length = true) : (s.storeIn k r).inOccupancy k ≤ (s.storeIn k r).inCapacity k := by
  rw [State.inOccupancy_storeIn]
  have h : r.length ≤ s.inCapacity k - s.inOccupancy k := by simpa [State.inFits] using fits
  show s.inOccupancy k + r.length ≤ s.inCapacity k
  omega

/-! ### Slots of a lane (R116) -/

/-- An idempotent change of every slot's runtime record in a list, made one after another, is made at once. -/
theorem State.foldl_setUnit (f : UnitRun → UnitRun) (idem : ∀ u, f (f u) = f u) (ns : List SlotNo) (s : State) :
    ns.foldl (fun s n => s.setUnit n (f (s.unit n))) s =
      { s with units := Vector.ofFn fun n => if n ∈ ns then f (s.unit n) else s.unit n } := by
  induction ns generalizing s with
  | nil =>
    simp [State.unit]
  | cons n rest ih =>
    rw [List.foldl_cons, ih]
    show State.mk .. = State.mk ..
    congr 1
    ext1
    rename_i i hi
    simp only [Vector.getElem_ofFn, List.mem_cons, State.unit_setUnit]
    by_cases same : (⟨i, hi⟩ : SlotNo) = n <;> by_cases later : (⟨i, hi⟩ : SlotNo) ∈ rest <;> simp_all

theorem State.mem_boundSlots (s : State) (k : LaneNo) (n : SlotNo) : n ∈ s.boundSlots k ↔ s.bound k n = true := by
  simp [State.boundSlots, allSlots]

/-- The head attempt counts of a lane's slots become 0, and nothing else changes (R116). -/
theorem State.clearHeadAttempts_eq (s : State) (k : LaneNo) :
    s.clearHeadAttempts k =
      { s with
        units := Vector.ofFn fun n => if s.bound k n then { s.unit n with headAttempts := 0 } else s.unit n } := by
  have h := State.foldl_setUnit (fun u => { u with headAttempts := 0 }) (fun _ => rfl) (s.boundSlots k) s
  simpa [State.clearHeadAttempts, State.mem_boundSlots] using h

/-! ### Directives (R113) -/

@[simp] theorem Directives.get_put_same (ds : Directives) (d : Directive) (x : Option Pending) :
    (ds.put d x).get d = x := by
  cases d <;> rfl

@[simp] theorem Directives.get_put_other (ds : Directives) {d e : Directive} (x : Option Pending) (h : e ≠ d) :
    (ds.put d x).get e = ds.get e := by
  cases d <;> cases e <;> first | rfl | exact absurd rfl h

/-- A directive that is set joins with the offered entry, is there already, or is a STANDBY that REST excludes. -/
theorem Directives.join_get (ds : Directives) (d : Directive) (x : Pending) :
    (ds.join d x).get d = some x ∨ ((ds.get d).isSome = true ∧ ds.join d x = ds) ∨
      (d = .standby ∧ ds.rest.isSome = true ∧ ds.join d x = ds) := by
  by_cases present : (ds.get d).isSome = true
  · exact .inr (.inl ⟨present, by simp [Directives.join, present]⟩)
  · by_cases excluded : d = .standby ∧ ds.rest.isSome = true
    · obtain ⟨rfl, resting⟩ := excluded
      exact .inr (.inr ⟨rfl, resting, by simp [Directives.join, present, resting]⟩)
    · refine .inl ?_
      cases d <;> simp_all [Directives.join, Directives.get]

/-- Setting a directive changes that slot's directive set and the next serial number, and nothing else. -/
theorem State.setDirective_eq (s : State) (n : SlotNo) (d : Directive) :
    s.setDirective n d = s ∨
      ((s.unit n).presence ≠ .disabled ∧
        s.setDirective n d =
          { s with
            units := s.units.set n { s.unit n with directives := (s.unit n).directives.join d ⟨0, s.serial⟩ }
            serial := s.serial + 1 }) := by
  unfold State.setDirective
  split
  · exact .inl rfl
  · exact .inr ⟨by tauto, rfl⟩

/-- A step kept by every directive that is set for a slot of a list is kept by setting it for all of them. -/
theorem State.foldl_setDirective (P : State → Prop) (d : Directive) (keep : ∀ s n, P s → P (s.setDirective n d))
    (ns : List SlotNo) (s : State) (h : P s) : P (ns.foldl (fun s n => s.setDirective n d) s) := by
  induction ns generalizing s with
  | nil => exact h
  | cons n rest ih => exact ih _ (keep _ _ h)

/-! ### Kinds -/

/-- Raising an alert changes that lane's alert set and nothing else (R139). -/
theorem State.raiseAlert_eq (s : State) (k : LaneNo) (kind : AlertKind) (d1 d2 : Byte) :
    s.raiseAlert k kind d1 d2 =
      { s with lanes := s.lanes.set k { s.lane k with alerts := (s.lane k).alerts.raise kind d1 d2 } } := rfl

/-- Raising a notice changes the notice set and nothing else (R24). -/
theorem State.raiseNotice_eq (s : State) (kind : NoticeKind) (d1 d2 : Byte) :
    s.raiseNotice kind d1 d2 = { s with notices := s.notices.raise kind d1 d2 } := rfl

/-- Counting ignored items changes that slot's counter and nothing else (R118). -/
theorem State.countIgnored_eq (s : State) (slot : SlotNo) (n : Nat) :
    s.countIgnored slot n =
      { s with
        units := s.units.set slot
          { s.unit slot with
            counters := { (s.unit slot).counters with ignored := bumpBy (s.unit slot).counters.ignored n } } } := rfl

end Sys2Proof.Machine
end

