-- ==== Sys2Proof/Laws/Lanes.lean ====
section
/-! SUPPORT. What the shared operations over lane records and event records can do, said once. -/

namespace Sys2Proof.Machine

/-! ### Internal records (R124, R147) -/

/-- An internal record is stored where it fits; otherwise it is lost and IN_OVERRUN is raised with its kind. -/
theorem State.writeInternal_cases (s : State) (k : LaneNo) (kind : EventKind) (content : List Byte) :
    (s.inFits k (eventRecord kind (s.lane k).tag content).length = true ∧
        s.writeInternal k kind content = (s.storeIn k (eventRecord kind (s.lane k).tag content), false)) ∨
      (s.inFits k (eventRecord kind (s.lane k).tag content).length = false ∧
        s.writeInternal k kind content = (s.raiseAlert k .inOverrun kind.code 0, true)) := by
  unfold State.writeInternal
  cases h : s.inFits k (eventRecord kind (s.lane k).tag content).length
  · exact .inr ⟨rfl, by simp [h]⟩
  · exact .inl ⟨rfl, by simp [h]⟩

/-- A record that is not lost acts on no lane. -/
@[simp] theorem State.overrunIf_false (s : State) (k : LaneNo) : s.overrunIf k false = s := rfl

/-- A lost record acts as its lane's phase says. -/
@[simp] theorem State.overrunIf_true (s : State) (k : LaneNo) : s.overrunIf k true = s.overrun k := rfl

/-- A lost record makes a lane in service FAULTED and does nothing to a lane that is CLOSED or FAULTED (R147). -/
theorem State.overrun_cases (s : State) (k : LaneNo) :
    (((s.lane k).phase = .closed ∨ (s.lane k).phase = .faulted) ∧ s.overrun k = s) ∨
      (((s.lane k).phase = .opening ∨ (s.lane k).phase = .opened ∨ (s.lane k).phase = .closing) ∧
        s.overrun k = s.faultLane k .inOverrun) := by
  unfold State.overrun
  cases (s.lane k).phase <;> simp

/-- A record made outside a phase change: stored where it fits; lost, reported and acted on otherwise, once IN_OVERRUN is
selected where the transmitter is IDLE (R13, R124, R147). -/
theorem State.report_cases (s : State) (k : LaneNo) (kind : EventKind) (content : List Byte) :
    (s.inFits k (eventRecord kind (s.lane k).tag content).length = true ∧
        s.report k kind content = s.storeIn k (eventRecord kind (s.lane k).tag content)) ∨
      (s.inFits k (eventRecord kind (s.lane k).tag content).length = false ∧
        s.report k kind content = (s.atOnce (s.raiseAlert k .inOverrun kind.code 0)).overrun k) := by
  unfold State.report
  rcases s.writeInternal_cases k kind content with ⟨fits, h⟩ | ⟨lost, h⟩
  · exact .inl ⟨fits, by rw [h]; rfl⟩
  · exact .inr ⟨lost, by rw [h]; rfl⟩

/-! ### Faults (R146) -/

/-- Removing a decision and returning its card changes that lane's decision, one slot's directives and the serial
number. -/
theorem State.faultDecision_lanes (s : State) (k : LaneNo) :
    (s.faultDecision k).lanes = s.lanes.set k { s.lane k with decision := none } := by
  unfold State.faultDecision
  split
  · rename_i none
    have same : { s.lane k with decision := Option.none } = s.lane k := by
      cases h : s.lane k; simp_all
    rw [same]
    ext i hi
    simp [State.lane]
  · split
    · rfl
    · split
      · rcases (s.dropDecision k).setDirective_eq _ .eject with h | ⟨_, h⟩ <;> rw [h] <;> rfl
      · rfl

/-! ### Records that a reply gives rise to (R124) -/

/-- A record that a reply gives rise to is stored together with the reply's changes, or the reply is held and nothing
changes; without a record the reply is accepted. -/
theorem State.acceptWith_cases (s : State) (k : LaneNo) (record : Option (List Byte)) (changed : State → State) :
    (record = none ∧ s.acceptWith k record changed = ⟨.accept, changed s⟩) ∨
      (∃ r, record = some r ∧ s.inFits k r.length = true ∧
        s.acceptWith k record changed = ⟨.accept, (changed s).storeIn k r⟩) ∨
      (∃ r, record = some r ∧ s.inFits k r.length = false ∧ s.acceptWith k record changed = ⟨.hold, s⟩) := by
  cases record with
  | none => exact .inl ⟨rfl, rfl⟩
  | some r =>
    cases h : s.inFits k r.length
    · exact .inr (.inr ⟨r, rfl, h, by simp [State.acceptWith, h]⟩)
    · exact .inr (.inl ⟨r, rfl, h, by simp [State.acceptWith, h]⟩)

end Sys2Proof.Machine
end

