-- ==== Sys2Proof/Laws/Lines.lean ====
section
/-! SUPPORT. What the shared operations over the drop line engines can do, said once. -/

namespace Sys2Proof.Machine

@[simp] theorem State.setEngine_setEngine (s : State) (l : Line) (d e : Engine) :
    (s.setEngine l d).setEngine l e = s.setEngine l e := by
  simp [State.setEngine]

@[simp] theorem State.setEngine_self (s : State) (l : Line) : s.setEngine l (s.engine l) = s := by
  simp [State.setEngine, State.engine]

/-- The receiver is retuned unless it is inside a character, and nothing else changes (R50). -/
theorem State.retune_eq (s : State) (l : Line) :
    s.retune l =
      s.setEngine l
        { s.engine l with tuned := if (s.engine l).rx.inside then (s.engine l).tuned else s.wantedTune l } := by
  unfold State.retune
  split
  · exact (s.setEngine_self l).symm
  · rfl

/-- The watchdog counter of a settled line is 0, and nothing else changes (R56). -/
theorem State.calmWatchdog_eq (s : State) (l : Line) :
    s.calmWatchdog l =
      s.setEngine l
        { s.engine l with watchdog := if (s.engine l).unsettled then (s.engine l).watchdog else 0 } := by
  unfold State.calmWatchdog
  split
  · exact (s.setEngine_self l).symm
  · rfl

/-- What follows at once from an event at a line: the receiver's tuning and the watchdog counter, and nothing else
(R50, R56). -/
theorem State.refresh_eq (s : State) (l : Line) :
    s.refresh l =
      s.setEngine l
        { s.engine l with
          tuned := if (s.engine l).rx.inside then (s.engine l).tuned else s.wantedTune l
          watchdog := if (s.engine l).unsettled then (s.engine l).watchdog else 0 } := by
  rw [State.refresh, State.calmWatchdog_eq, State.retune_eq, State.setEngine_setEngine, State.engine_setEngine_same]
  rfl

/-- An event at one line leaves the other line's engine alone. -/
theorem State.refresh_other (s : State) {l m : Line} (h : m ≠ l) : (s.refresh l).engine m = s.engine m := by
  rw [State.refresh_eq, State.engine_setEngine_other _ _ h]

/-- A transmitter that does not send leaves the receiver at its line's base format (R45). -/
theorem State.wantedTune_base (s : State) (l : Line) (h : (s.engine l).exchange = none) :
    s.wantedTune l = (s.lineInForce l).base := by
  simp [State.wantedTune, h]

/-- The engine's line is ready exactly where the receiver is at rest, nothing keeps the line unsettled, and neither a
guard nor the driver holds it (R54, R55). -/
theorem Engine.ready_iff (e : Engine) :
    e.ready = true ↔ e.rx = .atRest ∧ e.chatter = false ∧ e.xstate ≠ .guarding ∧ e.driver = false := by
  cases hr : e.rx <;> simp [Engine.ready, Engine.unsettled, hr]
  all_goals tauto

/-- A character delivered while nothing waits for it moves the receiver at most (R51). -/
theorem Engine.destination_atRest (e : Engine) (rest : e.rx = .atRest) (low : e.driver = false)
    (outside : e.xstate.replyPeriod = false) : e.destination = .stray := by
  simp [Engine.destination, Engine.origin, rest, low, outside]

/-- The transmit output is at mark whenever the driver enable is low (R47). -/
@[simp] theorem State.lineOutput_low {s : State} {l : Line} (h : (s.engine l).driver = false) :
    s.lineOutput l = .mark := by
  simp [State.lineOutput, h]

/-- A completed transmission lowers the driver, begins the reply period and counts; nothing else at the line moves, the
receiver included (R47, R48). -/
theorem State.sendingDone_engine (s : State) (l : Line) :
    (s.sendingDone l).engine l =
      { s.engine l with
        driver := false, xstate := .await, received := [], answers := [], counters := (s.engine l).countSent } := by
  simp [State.sendingDone]

@[simp] theorem otherLine_otherLine (l : Line) : otherLine (otherLine l) = l := by cases l <;> rfl

theorem otherLine_ne (l : Line) : otherLine l ≠ l := by cases l <;> simp [otherLine]

/-- Steps 1 and 2 of a watchdog expiry: the line's count and its flag in LINE_STUCK, and nothing else (R57). -/
theorem State.countStuck_eq (s : State) (l : Line) :
    s.countStuck l =
      { s.setEngine l { s.engine l with
          counters := { (s.engine l).counters with stuck := bump (s.engine l).counters.stuck } } with
        notices := s.notices.raise .lineStuck (stuckFlag l) 0 } := by
  cases l <;> rfl

/-- Both lines' raisings give the same in either order (R57). -/
theorem State.countStuck_comm (s : State) : (s.countStuck .a).countStuck .b = (s.countStuck .b).countStuck .a := by
  simp only [State.countStuck, State.setEngine, State.engine, State.raiseNotice, State.setNotices, NoticeSet.raise,
    PerLine.get, PerLine.set, NoticeKind.ix, stuckFlag, State.mk.injEq, true_and, and_true]
  have flags (b : Byte) : b ||| 1#8 ||| 2#8 = b ||| 2#8 ||| 1#8 := by
    rw [BitVec.or_assoc, BitVec.or_comm 1#8, ← BitVec.or_assoc]
  cases h : s.notices[1] <;> simp [raisedEntry, heldDetail, h, flags]

/-- A split puts back exactly the range it took, in two halves (R91, R94). -/
theorem splitRange_covers (r : AddrRange) (stack : List AddrRange) (a : Nat) :
    (∃ h ∈ (splitRange r stack).take 2, h.lo ≤ a ∧ a ≤ h.hi) ↔ r.lo ≤ a ∧ a ≤ r.hi := by
  simp [splitRange]
  omega

end Sys2Proof.Machine
end

