-- ==== Sys2Proof/Laws/Link.lean ====
section
/-! SUPPORT. What the transmit arbiter and the taking of a request can do, said once. -/

namespace Sys2Proof.Machine

/-! ### Selection (R13) -/

/-- A selected source's frame is in the transmit frame buffer. -/
@[simp] theorem State.select_tx (s : State) (src : Source) : (s.select src).link.tx = .sending (s.frameFrom src) := by
  cases src <;> rfl

/-- A selection touches the Link Port, the reply slot, the notice set, the alert sets and the inbound queues only. -/
theorem State.select_frame (s : State) (src : Source) :
    (s.select src).tables = s.tables ∧ (s.select src).softPending = s.softPending ∧
      (s.select src).outbound = s.outbound ∧ (s.select src).units = s.units ∧ (s.select src).engines = s.engines ∧
      (s.select src).serial = s.serial ∧ (s.select src).choices = s.choices ∧ (s.select src).pending = s.pending := by
  cases src <;> exact ⟨rfl, rfl, rfl, rfl, rfl, rfl, rfl, rfl⟩

/-- While a frame is being sent no command selects another. -/
@[simp] theorem State.selectNew_sending {s : State} {f : Frame} (h : s.link.tx = .sending f) : s.selectNew = s := by
  simp [State.selectNew, h]

/-- While the steps of R9 are made no source is selected on its own. -/
@[simp] theorem State.selectNew_gathering {s : State} (h : s.link.tx = .gathering) : s.selectNew = s := by
  simp [State.selectNew, h]

/-- While a frame is being sent nothing is selected between two moments of an act. -/
@[simp] theorem State.atOnce_sending (before : State) {s : State} {f : Frame} (h : s.link.tx = .sending f) :
    before.atOnce s = s := by
  simp [State.atOnce, h]

/-- While the steps of R9 are made nothing is selected between two moments of an act. -/
@[simp] theorem State.atOnce_gathering (before : State) {s : State} (h : s.link.tx = .gathering) :
    before.atOnce s = s := by
  simp [State.atOnce, h]

/-- What was a candidate before stays unselected until the act is done. -/
theorem State.atOnce_waits {before : State} (s : State) (h : before.candidates ≠ []) : before.atOnce s = s := by
  simp [State.atOnce, h]

/-- An act that has made no source a candidate selects none. -/
theorem State.atOnce_same {before s : State} (h : s.candidates = before.candidates) : before.atOnce s = s := by
  by_cases none : before.candidates = []
  · rw [State.atOnce, if_pos none, State.selectNew]
    split <;> simp_all
  · exact State.atOnce_waits s none

/-- While a frame is being sent there is no selection by rank. -/
@[simp] theorem State.selectByRank_sending {s : State} {f : Frame} (h : s.link.tx = .sending f) :
    s.selectByRank = s := by
  simp [State.selectByRank, h]

/-- A selection of what has become a candidate: none, the one new candidate, or any one of several (log entry 9). -/
theorem State.selectNew_cases (s : State) :
    ((s.link.tx ≠ .idle ∨ s.candidates = []) ∧ s.selectNew = s) ∨
      (s.link.tx = .idle ∧ ∃ src, s.candidates = [src] ∧ s.selectNew = s.select src) ∨
      (s.link.tx = .idle ∧ 2 ≤ s.candidates.length ∧
        s.selectNew = { s.select (s.anyOf s.candidates) with choices := s.choices + 1 }) := by
  unfold State.selectNew
  split
  · rename_i h; exact .inl ⟨.inl (by simp [h]), rfl⟩
  · rename_i h; exact .inl ⟨.inl (by simp [h]), rfl⟩
  · rename_i h; exact .inl ⟨.inr h, rfl⟩
  · rename_i src idle h; exact .inr (.inl ⟨idle, src, h, rfl⟩)
  · rename_i idle none one
    refine .inr (.inr ⟨idle, ?_, rfl⟩)
    cases h : s.candidates with
    | nil => exact absurd h (by simpa using none)
    | cons a rest =>
      cases rest with
      | nil => exact absurd h (by simpa using one a)
      | cons b more => simp

/-- A selection of what has become a candidate leaves the waiting commands alone. -/
@[simp] theorem State.selectNew_pending (s : State) : s.selectNew.pending = s.pending := by
  rcases s.selectNew_cases with ⟨_, h⟩ | ⟨_, src, _, h⟩ | ⟨_, _, h⟩ <;> rw [h]
  · exact (s.select_frame src).2.2.2.2.2.2.2
  · exact (s.select_frame _).2.2.2.2.2.2.2

/-- A selection between two moments of an act leaves the waiting commands alone. -/
@[simp] theorem State.atOnce_pending (before s : State) : (before.atOnce s).pending = s.pending := by
  unfold State.atOnce
  split
  · exact s.selectNew_pending
  · rfl

/-- A selection of what has become a candidate holds no later selection back. -/
theorem State.selectNew_notGathering {s : State} (h : s.link.tx ≠ .gathering) : s.selectNew.link.tx ≠ .gathering := by
  rcases s.selectNew_cases with ⟨_, e⟩ | ⟨_, src, _, e⟩ | ⟨_, _, e⟩ <;> rw [e]
  · exact h
  · simp
  · simp

/-- A selection by rank ends the gathering of the steps of R9. -/
theorem State.selectByRank_notGathering (s : State) : s.selectByRank.link.tx ≠ .gathering := by
  have won : s.selectWinner.link.tx ≠ .gathering := by
    unfold State.selectWinner
    split <;> simp [State.setLink]
  unfold State.selectByRank
  split
  · rename_i h; simp [h]
  · exact won
  · exact won

/-! ### Requests (R22) -/

/-- MGU takes the latched request of a code, or leaves the part as it is. -/
theorem State.takeRequest_cases (s : State) (code : Byte) (execute : List Byte → State → State) :
    s.takeRequest code execute = s ∨
      ∃ args, s.link.latch = some (code :: args) ∧ s.mguFree = true ∧
        s.takeRequest code execute = execute args s.emptyLatch := by
  unfold State.takeRequest
  split
  · rename_i c args latched
    split
    · rename_i free
      obtain ⟨free, rfl⟩ := free
      exact .inr ⟨args, latched, free, rfl⟩
    · exact .inl rfl
  · exact .inl rfl
  · exact .inl rfl

/-- A refusal changes the reply slot and nothing else (R23). -/
theorem State.refuse_eq (s : State) (code : Byte) (reason : ReqReason) (detail : Byte) :
    s.refuse code reason detail = { s with reply := some [code, 3, reason.code, detail] } := rfl

/-- An answer changes the reply slot and nothing else (R23). -/
theorem State.answer_eq (s : State) (code : Byte) (status : Status) (data : List Byte) :
    s.answer code status data = { s with reply := some (code :: status.code :: data) } := rfl

end Sys2Proof.Machine
end

