-- ==== Sys2Proof/Tests/Slice0.lean ====
section
/-! SUPPORT. Small tests: expected results come from the worked cases and tables of spec/, never from the model. A
theorem named witness_<Name> shows that the hypotheses of that obligation are met. -/

namespace Sys2Proof.Tests

open Sys2Proof.Machine

set_option Elab.async false

/-! ### Fixtures -/

/-- A keypad, slot 0: line A, address 5, lane 0, 8-NONE-1 at 9,600, W 4. -/
def pinpad : UnitRecord := ⟨true, .a, 5, .pinpad, 0, resetTune, 4, 0⟩

/-- A reader, slot 1: line A, address 6, lane 0. -/
def cardReader : UnitRecord := ⟨true, .a, 6, .reader, 0, resetTune, 4, 0⟩

/-- A frame that the transmitter is sending. -/
def sent : Frame := ⟨1, .event, [4, 1, 0, 9]⟩

/-- An engine whose line is settled, in the ring. -/
def calm : Engine := { resetEngine resetTune with rx := .atRest, stage := .ring }

/-- Lane 0 with a keypad (slot 0) and a reader (slot 1), both LOCKED, OPEN with tag 314, on a LIVE link that is sending a
frame of lane 1. -/
def served : State :=
  { State.reset with
    link := { resetLinkPort with rx := .atRest, tx := .sending sent }
    tables := { resetTables with
      units := (resetTables.units.set 0 ⟨pinpad, none⟩).set 1 ⟨cardReader, none⟩
      rings := ⟨[0, 1], []⟩ }
    notices := Vector.replicate 5 none
    lanes := (Vector.replicate 8 ({} : LaneRecord)).set 0 { phase := .opened, tag := 314 }
    units := ((Vector.replicate 16 ({} : UnitRun)).set 0 { presence := .locked, syncRequest := false }).set 1
      { presence := .locked, syncRequest := false }
    engines := ⟨calm, calm⟩ }

/-- Lane 0 of `served` changed. -/
def withLane (f : LaneRecord → LaneRecord) : State := served.setLane 0 (f (served.lane 0))

/-- Slot 0 of `served` changed. -/
def withUnit (f : UnitRun → UnitRun) : State := served.setUnit 0 (f (served.unit 0))

/-- The engine of line A of `served` changed. -/
def withEngine (f : Engine → Engine) : State := served.setEngine .a (f (served.engine .a))

/-- A request waiting in the latch of `served`. -/
def asked (body : List Byte) : State := { served with link := { served.link with latch := some body } }

/-- The reply to a request in `served`. -/
def replyTo (c : Instr) (body : List Byte) : Option (List Byte) :=
  match exec c (asked body) with
  | .next t => t.reply
  | _ => none

/-- What a reader reads of the state after a command; `d` where the command does not end in a next state. -/
def after {α : Type} (c : Instr) (s : State) (d : α) (read : State → α) : α :=
  match exec c s with
  | .next t => read t
  | _ => d

/-- An OPEN lane's POLL exchange with slot 0 in its reply period. -/
def polled : State :=
  withEngine fun e => { e with xstate := .await, exchange := some (served.buildExchange 0), tuned := pinpad.tune }

/-- A reply of slot 0 as its line samples it. -/
def sampled (control : Byte) (payload : List Byte) : List Sampled :=
  (telegramBytes .eight 5 control payload).map pinpad.tune.undisturbed

/-! ### Well-formed commands: one ill-formed term for each check, refused -/

theorem test_request_too_long : (Instr.request (List.replicate 241 0)).wellFormed = false := by decide +kernel
theorem test_lane_body_too_long : (Instr.laneCommands 0 (List.replicate 241 0)).wellFormed = false := by decide +kernel
theorem test_lane_body_begins_with_command : (Instr.laneCommands 0 [2, 0]).wellFormed = false := by decide
theorem test_open_too_long : (Instr.openLane 0 1 (List.replicate 237 0)).wellFormed = false := by decide +kernel
theorem test_close_too_long : (Instr.closeLane 0 (List.replicate 239 0)).wellFormed = false := by decide +kernel
theorem test_clear_too_long : (Instr.clearLane 0 (List.replicate 239 0)).wellFormed = false := by decide +kernel
theorem test_show_text_too_long : (Instr.showText 0 0 0 (List.replicate 21 65) []).wellFormed = false := by decide +kernel
theorem test_show_too_long : (Instr.showText 0 0 0 [65] (List.replicate 236 0)).wellFormed = false := by decide +kernel
theorem test_tone_too_long : (Instr.tone 0 0 0 (List.replicate 237 0)).wellFormed = false := by decide +kernel
theorem test_reader_too_long : (Instr.reader 0 0 0 (List.replicate 237 0)).wellFormed = false := by decide +kernel
theorem test_entry_too_long : (Instr.entry 0 1 0 0 0 0 (List.replicate 234 0)).wellFormed = false := by decide +kernel
theorem test_pin_too_long : (Instr.pin 0 4 6 0 0 (List.replicate 235 0)).wellFormed = false := by decide +kernel
theorem test_unlock_too_long : (Instr.unlock 0 0 (List.replicate 238 0)).wellFormed = false := by decide +kernel
theorem test_decide_too_long : (Instr.decideCard 0 1 (List.replicate 238 0)).wellFormed = false := by decide +kernel
theorem test_conflict_past_telegram : (Instr.echoConflict .a 52 none).wellFormed = false := by decide
theorem test_reply_empty : (Instr.reply .a []).wellFormed = false := by decide
theorem test_reply_too_long : (Instr.reply .a (List.replicate 53 ⟨0, true, true⟩)).wellFormed = false := by decide +kernel

/-! ### The counter link -/

/-- R3: the CRC over the nine ASCII characters "123456789". -/
theorem test_crc : crc [0x31, 0x32, 0x33, 0x34, 0x35, 0x36, 0x37, 0x38, 0x39] = 0x29B1 := by decide +kernel

/-- Section 11.5: the first frame after any reset is the NOTICE frame whose body is 0x01, 0x00, 0x00, 0x01. -/
theorem test_hardware_reset :
    after .hardwareReset served none (fun t => some t.link.tx) = some (.sending ⟨0x0F, .notice, [1, 0, 0, 1]⟩) := by
  decide

/-- R6: two adjacent delimiters make an empty frame, which is ignored. -/
theorem test_link_character_adjacent_delimiters :
    after (.linkCharacter 0xD5 true) { served with link := { served.link with frameRx := .collect } } none
      (fun t => some (t.link.frameRx, t.link.content)) = some (.collect, []) := by decide

/-- R7: escape then delimiter cancels a frame, at the cost of one rx_abort. -/
theorem test_link_character_abort :
    after (.linkCharacter 0xD5 true) { served with link := { served.link with frameRx := .escaped, content := [1] } } none
      (fun t => some (t.link.frameRx, t.link.content, t.link.counters.rxAbort)) = some (.collect, [], 1) := by decide

/-- R2: a glitch is counted and the receiver stays at rest. -/
theorem test_link_start_edge_glitch :
    after (.linkStartEdge false) served none (fun t => some (t.link.rx, t.link.counters.rxGlitch)) = some (.atRest, 1) := by
  decide

/-- R2: after a framing error, mark brings the receiver to rest. -/
theorem test_lrxd_at_mark :
    after .lrxdAtMark { served with link := { served.link with rx := .waitMark } } none (fun t => some t.link.rx) =
      some .atRest := by decide

/-- R11: a second request is dropped, counted and reported. -/
theorem test_request_dropped :
    after (.request [12]) (asked [15]) none
      (fun t => some (t.link.latch, t.link.counters.reqDropped, t.notices[3])) =
      some (some [15], 1, some ⟨0, 0, 1⟩) := by decide

/-- R134: a body that begins with a malformed command raises BAD_COMMAND, BAD_CODE at position 1. -/
theorem test_lane_commands_malformed :
    after (.laneCommands 0 [0x0B, 0]) served none (fun t => some (t.lane 0).alerts[5]) = some (some ⟨1, 1, 1⟩) := by decide

/-- R13: at a closing delimiter the frame is counted, and an IDLE transmitter is left where no source has anything. -/
theorem test_closing_delimiter :
    after .closingDelimiter served none (fun t => some (t.link.tx, t.link.counters.txFrames)) = some (.idle, 1) := by decide

/-- Chapter 1, arbitration: an alert set goes before a record, the record's lane then has its turn. -/
theorem test_closing_delimiter_rank :
    after .closingDelimiter
        { withLane (fun r => { r with alerts := noAlerts.set 5 (some ⟨2, 3, 2⟩) }) with
          inbound := State.reset.inbound.set 1 [[4, 1, 0, 9]] }
        none (fun t => some t.link.tx) =
      some (.sending ⟨0, .alert, [6, 2, 3, 2]⟩) := by decide

/-- R16: the expiry makes the link QUIET. -/
theorem test_silence_timer_expiry :
    after .silenceTimerExpiry
        { served with link := { served.link with inForce := ⟨2, 4, 5⟩ } } none
        (fun t => some (t.link.state, (t.lane 0).standby, (t.unit 0).directives.standby.isSome)) =
      some (.quiet, true, true) := by decide

/-! ### Lane commands: the worked cases of chapters 7, 8 and 10 -/

/-- "ENTER AMOUNT THE", the first 16 of the worked case's 20 characters. -/
def text16 : List Byte :=
  [0x45, 0x4E, 0x54, 0x45, 0x52, 0x20, 0x41, 0x4D, 0x4F, 0x55, 0x4E, 0x54, 0x20, 0x54, 0x48, 0x45]

/-- The commands of the worked case behind its SHOW: TONE 9, OPEN 77, ENTRY 40, PIN 2 to 20. -/
def workedRest : List Byte := [5, 2, 9, 0] ++ [1, 2, 0, 77] ++ [7, 5, 40, 1, 1, 0, 1] ++ [8, 4, 2, 20, 1, 0]

/-- Chapter 8, one frame, several outcomes: SHOW 20, BEGIN_AMOUNT 4 and BEGIN_PIN 5 are queued, TONE and OPEN are
refused, and BAD_COMMAND reads WRONG_PHASE at 3 with count 2. -/
theorem test_show_worked_frame :
    after (.showText 0 1 0 (text16 ++ [0x4E, 0x20, 0x4F, 0x4B]) workedRest) served none
      (fun t => some ((t.outQueue 0).map OutRecord.bytes, (t.lane 0).alerts[5])) =
      some ([[20, 1, 1, 1] ++ text16, [4, 5, 0x1D, 32], [5, 6, 0x21, 4, 12]], some ⟨2, 3, 2⟩) := by decide +kernel

/-- The same lane with 24 bytes free: BEGIN_PIN at position 5 does not fit. -/
def nearFull : State :=
  { served with
    tables := { served.tables with partition := served.tables.partition.set 1 2 }
    outbound := served.outbound.set 0 [⟨0, 40 :: List.replicate 39 0⟩] }

/-- Chapter 8: OUT_OVERFLOW is raised with detail 5 and count 1. -/
theorem test_show_overflow :
    after (.showText 0 1 0 (text16 ++ [0x4E, 0x20, 0x4F, 0x4B]) workedRest) nearFull none
      (fun t => some ((t.lane 0).overflow, (t.lane 0).alerts[3], t.outOccupancy 0)) =
      some (true, some ⟨5, 0, 1⟩, 64) := by decide +kernel

/-- Chapter 8: a CLOSE finds the overflow flag set, and is discarded; the lane stays OPEN. -/
theorem test_close_in_overflow :
    after (.closeLane 0 []) (withLane fun r => { r with overflow := true, alerts := noAlerts.set 3 (some ⟨5, 0, 1⟩) }) none
      (fun t => some ((t.lane 0).phase, (t.lane 0).alerts[3])) =
      some (.opened, some ⟨1, 0, 2⟩) := by decide +kernel

/-- Chapter 8: a CLEAR clears the flag, flushes both queues and takes the lane to CLOSING with REST for both units. -/
theorem test_clear_in_overflow :
    after (.clearLane 0 []) (nearFull.setLane 0 { nearFull.lane 0 with overflow := true }) none
      (fun t => some ((t.lane 0).overflow, t.outQueue 0, (t.lane 0).phase, (t.unit 0).directives.rest.isSome,
        (t.unit 1).directives.rest.isSome)) =
      some (false, [], .closing, true, true) := by decide +kernel

/-- Chapter 8, closing with a faltering reader, step 1: both confirmations are REST_DUE. -/
theorem test_close :
    after (.closeLane 0 []) served none (fun t => some ((t.lane 0).phase, (t.lane 0).tag, (t.lane 0).confirms)) =
      some (.closing, 314, [(0, .restDue), (1, .restDue)]) := by decide +kernel

/-- R140: OPEN in CLOSED sets the tag, one wake mark for each bound unit, and WAKE. -/
theorem test_open :
    after (.openLane 0 77 []) (withLane fun r => { r with phase := .closed, tag := 0 }) none
      (fun t => some ((t.lane 0).phase, (t.lane 0).tag, (t.lane 0).wakeMarks, (t.unit 0).directives.wake.isSome)) =
      some (.opening, 77, [(0, false), (1, false)], true) := by decide +kernel

/-- R141: a lane with no bound unit is OPEN at once and writes OPENED. -/
theorem test_open_no_unit :
    after (.openLane 3 77 []) served none (fun t => some ((t.lane 3).phase, t.inQueue 3)) =
      some (.opened, [[4, 1, 0, 77]]) := by decide +kernel

/-- R183: TONE is kept as 4 bytes with role KEYPAD and the report bit. -/
theorem test_tone :
    after (.tone 0 7 1 []) served none (fun t => some ((t.outQueue 0).map OutRecord.bytes)) = some [[4, 2, 5, 7]] := by
  decide +kernel

/-- R183: READER on and off are kept as codes 3 and 4 with role READER. -/
theorem test_reader :
    after (.reader 0 1 0 [6, 2, 0, 1]) served none (fun t => some ((t.outQueue 0).map OutRecord.bytes)) =
      some [[3, 3, 2], [3, 4, 6]] := by decide +kernel

/-- R136: an ENTRY count of 0 is BAD_VALUE. -/
theorem test_entry_zero :
    after (.entry 0 0 0 0 0 0 []) served none (fun t => some ((t.lane 0).alerts[5], t.outQueue 0)) =
      some (some ⟨4, 1, 1⟩, []) := by decide +kernel

/-- R136: a PIN min above 12 becomes 12, and max follows it. -/
theorem test_pin :
    after (.pin 0 20 3 0 0 []) served none (fun t => some ((t.outQueue 0).map OutRecord.bytes)) =
      some [[5, 6, 1, 12, 12]] := by decide +kernel

/-- R183: UNLOCK is kept as 3 bytes. -/
theorem test_unlock :
    after (.unlock 0 0 []) served none (fun t => some ((t.outQueue 0).map OutRecord.bytes)) = some [[3, 7, 1]] := by
  decide +kernel

/-- Lane 0 with a decision of its reader. -/
def deciding : State := withLane fun r => { r with decision := some ⟨12400, 1⟩ }

/-- Chapter 10, step 5: DECIDE RETAIN sets KEEP and writes DECIDED, RETAIN, COMMAND. -/
theorem test_decide :
    after (.decideCard 0 1 []) deciding none
      (fun t => some ((t.lane 0).decision, (t.unit 1).directives.keep.isSome, t.inQueue 0)) =
      some (none, true, [[6, 0x0C, 1, 58, 1, 1]]) := by decide +kernel

/-- Chapter 10, the decision race: a DECIDE that finds no decision raises DECISION_LATE. -/
theorem test_decide_late :
    after (.decideCard 0 1 []) served none (fun t => some ((t.lane 0).alerts[6], t.inQueue 0)) =
      some (some ⟨0, 0, 1⟩, []) := by decide +kernel

/-- Chapter 10: the expiry sets EJECT and writes DECIDED, RETURN, TIMER. -/
theorem test_decision_timer_expiry :
    after (.decisionTimerExpiry 0) deciding none
      (fun t => some ((t.lane 0).decision, (t.unit 1).directives.eject.isSome, t.inQueue 0)) =
      some (none, true, [[6, 0x0C, 1, 58, 2, 2]]) := by decide +kernel

/-! ### Management requests (section 11.6) -/

/-- R25: the record loaded into an unused slot is applied, and the reply carries it; m 15 is clamped to 14. -/
theorem test_load_unit :
    replyTo .loadUnit [1, 4, 1, 0, 7, 1, 2, 8, 1, 1, 5, 15, 4, 0] =
      some [1, 1, 4, 1, 0, 7, 1, 2, 8, 1, 1, 5, 14, 4, 0] := by decide +kernel

/-- R27: a record for a slot whose lane is OPEN is staged. -/
theorem test_load_unit_staged :
    after .loadUnit (asked [1, 0, 1, 1, 5, 1, 0, 8, 0, 1, 5, 14, 4, 0]) none
      (fun t => some ((t.reply.getD []).take 3, t.record 0 == pinpad, (t.staged 0).isSome)) =
      some ([1, 2, 0], true, true) := by decide +kernel

theorem test_read_unit : replyTo .readUnit [2, 0] = some [2, 0, 1, 0, 5, 1, 0, 8, 0, 1, 5, 14, 4, 0, 0] := by decide +kernel

/-- R29: the lane is OPEN, so its settings are not changed. -/
theorem test_load_lane_busy : replyTo .loadLane [3, 0, 0, 1, 30, 0, 1] = some [3, 3, 5, 0] := by decide +kernel

/-- R29: a decision timeout above 120 is clamped. -/
theorem test_load_lane : replyTo .loadLane [3, 5, 1, 1, 200, 2, 3] = some [3, 1, 5, 1, 1, 120, 2, 3] := by decide +kernel

theorem test_read_lane : replyTo .readLane [4, 0] = some [4, 0, 0, 0, 30, 0, 1, 2] := by decide +kernel

/-- R185: a key map one entry short has the wrong length. -/
theorem test_load_keymap_short : replyTo .loadKeymap (5 :: 0 :: List.replicate 31 0) = some [5, 3, 2, 0] := by decide +kernel

/-- R31: a mask outside 0x20 to 0x7E becomes '*'. -/
theorem test_load_policy : replyTo .loadPolicy [6, 1, 9, 5, 0x7F] = some [6, 1, 1, 8, 4, 0x2A] := by decide +kernel

/-- R31: a mask that is a digit is BAD_VALUE at position 3. -/
theorem test_load_policy_digit : replyTo .loadPolicy [6, 1, 6, 4, 0x30] = some [6, 3, 4, 3] := by decide +kernel

/-- R33: the second entry names no slot of line A. -/
theorem test_load_ring_conflict :
    after .loadRing
        { asked [7, 0, 2, 0, 1] with
          tables := { served.tables with units := served.tables.units.set 1 ⟨{ cardReader with line := .b }, none⟩ } }
        none (fun t => t.reply) = some [7, 3, 6, 2] := by decide +kernel

theorem test_load_ring : replyTo .loadRing [7, 0, 3, 0, 1, 0] = some [7, 0, 0, 3, 0, 1, 0] := by decide +kernel

/-- R32: an unprintable character becomes '?'. -/
theorem test_load_prompt : replyTo .loadPrompt [8, 7, 0x48, 0x19] = some [8, 1, 7, 0x48, 0x3F] := by decide +kernel

/-- R34: the sizes sum to more than 128. -/
theorem test_load_partition_sum : replyTo .loadPartition (9 :: 9 :: List.replicate 15 8) = some [9, 3, 4, 0] := by decide +kernel

/-- R34: lane 0 is OPEN, and its queue's size would change. -/
theorem test_load_partition_busy : replyTo .loadPartition (9 :: 7 :: List.replicate 15 8) = some [9, 3, 5, 0] := by decide +kernel

/-- R19: the settings wait for the reply's closing delimiter. -/
theorem test_set_link :
    after .setLink (asked [0x0A, 1, 4, 61]) none (fun t => some (t.reply, t.link.inForce)) =
      some (some [0x0A, 1, 1, 4, 60], resetLinkSettings) := by decide +kernel

/-- R45: the settings wait for the line's next transmission. -/
theorem test_set_line :
    after .setLine (asked [0x0B, 1, 5, 14, 7, 1, 1, 5, 1, 0]) none
      (fun t => some (t.reply, t.lineInForce .b, t.tables.lines.b.waiting.isSome)) =
      some (some [0x0B, 1, 1, 5, 14, 7, 1, 1, 10, 1, 0], resetLineSettings, true) := by decide +kernel

theorem test_read_status :
    replyTo .readStatus [0x0C] =
      some ([0x0C, 0] ++ [2, 0, 0, 0, 0, 0, 0, 0] ++ [2, 2, 0, 0, 0, 0, 0, 0, 0, 0, 0, 0, 0, 0, 0, 0]) := by decide +kernel

/-- R38: an ALL reply carries 109 counters, or 218 bytes. -/
theorem test_read_counters_all : ((replyTo .readCounters [0x0D, 0xFF]).getD []).length = 220 := by decide +kernel

theorem test_clear_counters :
    after .clearCounters
        { asked [0x0E, 0] with
          link := { (asked [0x0E, 0]).link with counters := { rxGood := 5 } } } none
        (fun t => some (t.reply, t.link.counters.rxGood)) = some (some [0x0E, 0], 0) := by decide +kernel

theorem test_soft_reset :
    after .softReset (asked [0x0F]) none (fun t => some (t.reply, t.softPending)) = some (some [0x0F, 0], true) := by
  decide +kernel

/-- Section 11.6: a REQUEST body of LEN 0 is answered with 0x00, 0x03, 0x02, 0x00. -/
theorem test_unknown_request_empty : replyTo .unknownRequest [] = some [0, 3, 2, 0] := by decide +kernel

theorem test_unknown_request : replyTo .unknownRequest [0x10] = some [0x10, 3, 1, 0] := by decide +kernel

/-! ### Drop lines -/

/-- R46: 0xB3 sent in 8-EVEN-1, bit by bit. -/
theorem test_sent_bits :
    (⟨.eight, .even, .one, 5, 14⟩ : Tune).sentBits 0xB3 =
      [false, true, true, false, false, true, true, false, true, true, true] := by decide

/-- R43: p 0 with m 14 gives a divisor of 60 and 307,200 bits per second. -/
theorem test_bit_rate : bitPeriod 0 14 = 60 ∧ bitRate 0 14 = 307200 := by decide

/-- R63: the POLL to address 5 with ACCEPT for sequence 1 and c 0. -/
theorem test_telegram_poll :
    after (.telegram .a)
        (State.setEngine (withUnit fun u => { u with pendingAck := .given .accept true }) .a
          { calm with xstate := .paused, due := some .entry })
        none (fun t => some ((t.engine .a).sent, (t.engine .a).xstate, (t.engine .a).driver)) =
      some ([5, 72, 0, 179], .sending, true) := by decide +kernel

/-- R63: the KEYS reply of the worked case, whose CHECK is 235, and chapter 4, step of 11.406 ms: e 1, ACCEPT for 0, one
KEYS record (digit 3, ENTER). -/
theorem test_reply_keys :
    after (.reply .a (sampled 1 [3, 10])) polled none
      (fun t => some (((sampled 1 [3, 10]).getLastD ⟨0, true, true⟩).data, (t.unit 0).e, (t.unit 0).pendingAck, t.inQueue 0,
        (t.engine .a).xstate)) =
      some (235, true, .given .accept false, [[6, 4, 1, 58, 3, 10]], .guarding) := by decide +kernel

/-- Chapter 4, acknowledgements across a lost telegram, step 3: a repeat gives the last acknowledgement again. -/
theorem test_reply_repeat :
    after (.reply .a (sampled 1 [3])) (polled.setUnit 0 { polled.unit 0 with e := true, lastAck := .given .accept false })
      none (fun t => some ((t.unit 0).e, (t.unit 0).pendingAck, t.inQueue 0)) =
      some (true, .given .accept false, []) := by decide +kernel

/-- R67: the first characters of a reply are stored. -/
theorem test_reply_character :
    after (.replyCharacter .a ⟨5, true, true⟩) polled none
      (fun t => some ((t.engine .a).received, (t.engine .a).xstate)) = some ([5], .receiving) := by decide +kernel

/-- Chapter 4, step 2: NO_REPLY makes a LOCKED slot FALTERING. -/
theorem test_no_reply :
    after (.noReply .a) polled none
      (fun t => some ((t.unit 0).presence, (t.unit 0).fail, (t.unit 0).counters.noReply, (t.engine .a).xstate)) =
      some (.faltering, 1, 1, .guarding) := by decide +kernel

/-- Chapter 6, a lost unit, step 3, on an IDLE transmitter: the set is selected between the raisings, so that UNIT_LOST
(KEYPAD) leaves alone and LANE_FAULT waits for the next frame. -/
theorem test_no_reply_third :
    after (.noReply .a)
        { polled.setUnit 0 { polled.unit 0 with presence := .faltering, fail := 2 } with
          link := { polled.link with tx := .idle } }
        none (fun t => some (t.link.tx, (t.lane 0).phase, (t.lane 0).alerts[7])) =
      some (.sending ⟨0, .alert, [1, 1, 0, 1]⟩, .faulted, some ⟨1, 0, 1⟩) := by decide +kernel

/-- R68, R118: a truncated reply counts bad_reply. -/
theorem test_truncated :
    after (.truncated .a) (polled.setEngine .a { polled.engine .a with xstate := .receiving, received := [5] }) none
      (fun t => some ((t.unit 0).counters.badReply, (t.unit 0).presence)) = some (1, .faltering) := by decide +kernel

/-- R47: a completed telegram is counted, and the driver is lowered. -/
theorem test_transmission_complete :
    after (.transmissionComplete .a) (polled.setEngine .a { polled.engine .a with xstate := .sending, driver := true })
      none (fun t => some ((t.engine .a).xstate, (t.engine .a).driver, (t.engine .a).counters.telegrams)) =
      some (.await, false, 1) := by decide +kernel

/-- R47, R53: the first conflict returns the transmit output to mark and leaves the telegram to be sent again. -/
theorem test_echo_conflict :
    after (.echoConflict .a 0 none) (polled.setEngine .a { polled.engine .a with xstate := .sending, driver := true }) none
      (fun t => some ((t.engine .a).xstate, t.lineOutput .a, (t.engine .a).conflicts,
        (t.engine .a).counters.echoConflicts, (t.engine .a).exchange.isSome)) =
      some (.paused, .mark, 1, 1, true) := by decide +kernel

/-- R86: when the guard runs out the next entry of the ring is due. -/
theorem test_guard_runs_out :
    after (.guardRunsOut .a) (withEngine fun e => { e with xstate := .guarding, ringPtr := 1 }) none
      (fun t => some ((t.engine .a).xstate, (t.engine .a).due, (t.engine .a).ringPtr)) =
      some (.paused, some .entry, 1) := by decide +kernel

/-- R89: a pass begins at entry 0. -/
theorem test_pass_begins :
    after (.passBegins .a) (withEngine fun e => { e with stage := .tickWait, ringPtr := 2 }) none
      (fun t => some ((t.engine .a).stage, (t.engine .a).ringPtr, (t.engine .a).due)) =
      some (.ring, 0, some .entry) := by decide +kernel

/-- A probe of [1,31] in its reply period. -/
def probing (answers : List (Byte × Bool)) : State :=
  withEngine fun e => { e with
    stage := .sweepStep, xstate := if answers = [] then .await else .receiving
    probe := some ⟨⟨1, 31⟩, [0, 2, 2, 1, 31, 220]⟩, answers := answers }

/-- R92: a probe of [1,31] and its check byte: 0 + 2 + 2 + 1 + 31 + 220 = 256. -/
theorem test_sweep :
    after (.sweep .a) (withEngine fun e => { e with stage := .sweepStep, xstate := .paused, due := some .probe }) none
      (fun t => some ((t.engine .a).sent, (t.engine .a).stack)) = some ([0, 2, 2, 1, 31, 220], []) := by decide +kernel

/-- R94: silence drops the range. -/
theorem test_sweep_reply_window :
    after (.sweepReplyWindow .a) (probing []) none (fun t => some ((t.engine .a).stack, (t.engine .a).xstate)) =
      some ([], .guarding) := by decide +kernel

/-- R94: garble in [1,31] leaves [1,16] on top of [17,31]. -/
theorem test_sweep_gap_garble :
    after (.sweepGap .a) (probing [(1, false)]) none (fun t => some (t.engine .a).stack) =
      some [⟨1, 16⟩, ⟨17, 31⟩] := by decide +kernel

/-- R98: a clean answer from an address that no slot has is a stray unit. -/
theorem test_sweep_gap_stray :
    after (.sweepGap .a) (probing [(9, false), (0x76, false)]) none (fun t => some t.notices[2]) =
      some (some ⟨0, 9, 1⟩) := by decide +kernel

/-- R85: an answer character is collected. -/
theorem test_sweep_answer_character :
    after (.sweepAnswerCharacter .a ⟨9, true, true⟩) (probing []) none
      (fun t => some ((t.engine .a).answers, (t.engine .a).xstate)) = some ([(9, false)], .receiving) := by decide +kernel

/-- R54: a stray character unsettles the line. -/
theorem test_stray_character :
    after (.strayCharacter .a ⟨9, true, true⟩) served none
      (fun t => some ((t.engine .a).chatter, (t.engine .a).counters.strayChars)) = some (true, 1) := by decide +kernel

/-- R48, R51: a late character of the transmission goes to the echo check and nowhere else. -/
theorem test_stray_character_late_echo :
    after (.strayCharacter .a ⟨9, true, true⟩) (withEngine fun e => { e with rx := .inCharacter .echo }) none
      (fun t => some ((t.engine .a).rx, (t.engine .a).chatter, (t.engine .a).counters.strayChars)) =
      some (.atRest, false, 0) := by decide +kernel

theorem test_chatter_interval_ends :
    after (.chatterIntervalEnds .a) (withEngine fun e => { e with chatter := true, watchdog := 3 }) none
      (fun t => some ((t.engine .a).chatter, (t.engine .a).watchdog)) = some (false, 0) := by decide +kernel

theorem test_break_ends :
    after (.breakEnds .a) (withEngine fun e => { e with rx := .inBreak, watchdog := 3 }) none
      (fun t => some ((t.engine .a).rx, (t.engine .a).watchdog)) = some (.atRest, 0) := by decide +kernel

/-- R57: LINE_STUCK is raised with line B's flag. -/
theorem test_line_watchdog :
    after (.lineWatchdog .b) (served.setEngine .b { calm with chatter := true, stack := [⟨1, 16⟩] }) none
      (fun t => some (t.notices[1], (t.engine .b).counters.stuck, (t.engine .b).stack)) =
      some (some ⟨2, 0, 1⟩, 1, []) := by decide +kernel

/-- `served` with an IDLE transmitter, both lines unsettled and both watchdogs one short of the stuck limit of 50 ms. -/
def bothStuck : State :=
  { served with
    link := { served.link with tx := .idle }
    engines := ⟨{ calm with chatter := true, watchdog := 49 }, { calm with rx := .inBreak, watchdog := 49 }⟩ }

/-- R57: both watchdogs at one moment set both flags, and the repeat count rises by 2, in whichever order they are taken. -/
theorem test_line_watchdog_both :
    ∀ first ∈ [Line.a, .b],
      (bothStuck.bothWatchdogsExpire first).link.tx = .sending ⟨0x0F, .notice, [2, 3, 0, 2]⟩ ∧
        ((bothStuck.bothWatchdogsExpire first).engine .a).counters.stuck = 1 ∧
        ((bothStuck.bothWatchdogsExpire first).engine .b).counters.stuck = 1 := by decide +kernel

/-- R48: an accepted start bit in the reply window begins a reply character. -/
theorem test_start_edge :
    after (.startEdge .a true) polled none (fun t => some ((t.engine .a).rx, (t.engine .a).xstate)) =
      some (.inCharacter .reply, .receiving) := by decide +kernel

/-! ### Keys and cards -/

/-- Chapter 9, an amount entry, step 2: DOT, DOT, DIGIT5 after "12" with 4 remaining. -/
theorem test_amount_dots :
    amountKeys 6 4 [0x31, 0x32] true [.dot, .dot, .digit 5] = ⟨[0x31, 0x32, 0x2E, 0x35], 2, .no, 1⟩ := by decide

/-- Chapter 9, an amount entry, step 4: DIGIT4, DIGIT0, F1, ENTER, DIGIT7. -/
theorem test_amount_done :
    amountKeys 6 6 [] true [.digit 4, .digit 0, .func 0, .enter, .digit 7] = ⟨[0x34, 0x30], 4, .done, 2⟩ := by decide

/-- Chapter 9, a PIN entry, step 2: a short ENTER at 3 digits. -/
theorem test_pin_short : pinKeys 4 6 2 [.digit 3, .enter] = ⟨3, true, .no, 0⟩ := by decide

/-- Chapter 9, a PIN entry, step 3: DIGIT7 at max is ignored, and ENTER ends collection with 6. -/
theorem test_pin_entered :
    pinKeys 4 6 3 [.digit 4, .digit 5, .digit 6, .digit 7, .enter] = ⟨6, false, .entered, 1⟩ := by decide

/-- R174: account 98765 under keep_first 6 and keep_last 4. -/
theorem test_mask_five : maskAccount ⟨6, 4, 0x2A⟩ [0x39, 0x38, 0x37, 0x36, 0x35] = [0x2A, 0x2A, 0x2A, 0x2A, 0x35] := by decide

/-- R174: account 123456789012 under keep_first 8 and keep_last 4. -/
theorem test_mask_twelve :
    maskAccount ⟨8, 4, 0x2A⟩ [0x31, 0x32, 0x33, 0x34, 0x35, 0x36, 0x37, 0x38, 0x39, 0x30, 0x31, 0x32] =
      [0x31, 0x32, 0x33, 0x34, 0x2A, 0x2A, 0x2A, 0x2A, 0x39, 0x30, 0x31, 0x32] := by decide

/-- Chapter 10, a held card read, step 1: FIRST with 14 digits makes an assembly, and no record. -/
theorem test_card_first :
    after (.reply .a (sampled 2 (1 :: [0x34, 0x30, 0x30, 0x30, 0x31, 0x32, 0x33, 0x34, 0x35, 0x36, 0x37, 0x38, 0x39, 0x30])))
      (polled.setEntry 0 ⟨{ pinpad with kind := .combo }, none⟩) none
      (fun t => some ((t.lane 0).assembly.map fun a => a.account.length, t.inQueue 0)) =
      some (some 14, []) := by decide +kernel

/-! ### Witnesses: steps and invariants -/

/-- `served` with commands waiting. -/
def waiting (cs : List Instr) : State := { served with pending := cs }

theorem witness_StepTakesTheFrontCommand : (waiting [.closingDelimiter, .lrxdAtMark]).pending = [.closingDelimiter, .lrxdAtMark] := rfl

/-- A tick at which nothing expires: the silence timer one short, a decision with 2 ms, a watchdog one short. -/
def quietTick : State :=
  { State.setEngine (withLane fun r => { r with decision := some ⟨2, 1⟩ }) .a { calm with chatter := true, watchdog := 48 } with
    link := { served.link with inForce := ⟨2, 4, 1⟩, silenceCount := 998 } }

theorem witness_TicksCountAndExpire_nothing :
    quietTick.pending = [] ∧
      (quietTick.link.state = .live ∧ quietTick.link.inForce.silence ≠ 0 ∧
        quietTick.link.silenceCount + 1 < quietTick.link.inForce.silence.val * 1000) ∧
      (∀ k : LaneNo, ∀ d ∈ (quietTick.lane k).decision, 1 < d.ms) ∧
      (∀ l ∈ [Line.a, Line.b], (quietTick.engine l).stage ≠ .tickWait) ∧
      ∀ l ∈ [Line.a, Line.b], (quietTick.engine l).unsettled = true →
        (quietTick.engine l).watchdog + 1 < (quietTick.lineInForce l).stuckLimit.val := by decide +kernel

/-- The same state at the last millisecond of its decision. -/
def lastMs : State := withLane fun r => { r with decision := some ⟨1, 1⟩ }

theorem witness_TicksCountAndExpire_one :
    lastMs.pending = [] ∧ tickEvents.filter lastMs.countTick.comes = [.decision 0] := by decide +kernel

/-- A closing delimiter at the front of the queue ends in a next state. -/
theorem closing_next (s : State) (front : s.pending = [.closingDelimiter]) : ∃ t, step s = .next t := by
  simp only [step, front, exec, execClosingDelimiter]
  split <;> exact ⟨_, rfl⟩

/-- A lane with a penalty flag and a record, an amount window, a decision, a run, a split sweep: `served` with much in
progress. -/
def inProgress : State :=
  let s := withLane fun r => { r with window := some ⟨.collecting, .amount 5 4 [0x31] true true, false, none⟩ }
  { s.setEngine .a { calm with xstate := .sending, driver := true, exchange := some (served.buildExchange 0) } with
    link := { s.link with penalty := s.link.penalty.set 1 true }
    inbound := s.inbound.set 1 [[4, 1, 0, 9]]
    engines := ⟨{ calm with xstate := .sending, driver := true, exchange := some (served.buildExchange 0) },
      { calm with
        stage := .sweepStep, xstate := .await, probe := some ⟨⟨1, 1⟩, []⟩
        stack := [⟨2, 2⟩, ⟨3, 4⟩, ⟨5, 8⟩, ⟨9, 16⟩, ⟨17, 31⟩] }⟩
    pending := [.closingDelimiter] }

theorem witness_TransmitterStaysInOrder : inProgress.PenaltyOk ∧ inProgress.link.penalty[1] = true ∧ inProgress.NotGathering ∧ ∃ t, step inProgress = .next t :=
  ⟨by decide +kernel, by decide +kernel, by decide +kernel, closing_next _ rfl⟩

theorem witness_QueuesStayWithinCapacity : inProgress.QueuesOk ∧ ∃ t, step inProgress = .next t :=
  ⟨by decide +kernel, closing_next _ rfl⟩

theorem witness_LanesAgreeWithTheirPhase : inProgress.LanesOk ∧ ∃ t, step inProgress = .next t := ⟨by decide +kernel, closing_next _ rfl⟩

/-- Slot 1 of `inProgress` with a directive, lane 0 with a queued record: both were numbered before. -/
def numbered : State :=
  let s := inProgress.setUnit 1 { inProgress.unit 1 with directives := { eject := some ⟨3, 8⟩ } }
  { s.setOutQueue 0 [⟨9, [4, 2, 5, 7]⟩] with serial := 10 }

theorem witness_SlotsAgreeWithTheirPresence :
    numbered.UnitsOk ∧ numbered.SerialsOk ∧ ((numbered.unit 1).directives.get .eject).isSome = true ∧
      numbered.outQueue 0 ≠ [] ∧ ∃ t, step numbered = .next t :=
  ⟨by decide +kernel, ⟨fun n d => by revert n; cases d <;> decide +kernel, by decide +kernel⟩, by decide +kernel,
    by decide +kernel, closing_next _ rfl⟩

theorem witness_UnitTableKeepsItsConstraints : inProgress.TableOk ∧ ∃ t, step inProgress = .next t :=
  ⟨by decide +kernel, closing_next _ rfl⟩

theorem witness_EnginesStayInOrder : inProgress.EnginesOk ∧ ∃ t, step inProgress = .next t := ⟨by decide +kernel, closing_next _ rfl⟩

/-- R91: at the deepest point, four upper halves and two single addresses. -/
theorem witness_EnginesStayInOrder_stack : SearchOk [⟨1, 1⟩, ⟨2, 2⟩, ⟨3, 4⟩, ⟨5, 8⟩, ⟨9, 16⟩, ⟨17, 31⟩] := by decide +kernel

/-! ### Witnesses: the counter link -/

/-- `served` with its link receivers in given states. -/
def receiving (rx : LinkRx) (frameRx : FrameRx) (content : List Byte) : State :=
  { served with link := { served.link with rx := rx, frameRx := frameRx, content := content } }

theorem witness_LinkReceiverAndFrameReceiver :
    (receiving .atRest .hunt []).link.rx = .atRest ∧ (receiving .inCharacter .hunt []).link.rx ≠ .atRest ∧
      (receiving .waitMark .skip []).link.rx = .waitMark ∧ (receiving .atRest .hunt []).link.rx ≠ .waitMark ∧
      (receiving .inCharacter .hunt []).link.frameRx = .hunt ∧ (receiving .inCharacter .skip []).link.frameRx = .skip ∧
      (receiving .inCharacter .collect []).link.frameRx = .collect ∧
      (receiving .inCharacter .collect (List.replicate 244 0)).link.content.length < 245 ∧
      ¬(receiving .inCharacter .collect (List.replicate 245 0)).link.content.length < 245 ∧
      (receiving .inCharacter .escaped []).link.frameRx = .escaped ∧ (0xD4 : Byte) ≠ delimiter ∧ (0xD4 : Byte) ≠ escape ∧
      (0xD6 : Byte) ≠ delimiter ∧ (0xD6 : Byte) ≠ 0xF5 ∧ (0xD6 : Byte) ≠ 0xF6 := by decide +kernel

theorem witness_ClosingChecksInOrder :
    (∀ content ∈ [[0], [0, 1, 0, 0], [0, 1, 0, 0, 0], withCrc [0, 1, 1], withCrc [7, 1, 0], withCrc [7, 2, 0],
        withCrc [8, 1, 0], withCrc [15, 2, 0], withCrc [15, 1, 0], List.replicate 245 0],
      (receiving .inCharacter .collect content).link.rx ≠ .waitMark ∧
        (receiving .inCharacter .collect content).link.frameRx = .collect ∧
        (receiving .inCharacter .collect content).link.content ≠ [] ∧
        (receiving .inCharacter .collect content).link.content.length ≤ 245) := by decide +kernel

theorem witness_FramesSurviveTheWire :
    (⟨0xD5, .event, List.replicate 240 0xD6⟩ : Frame).body.length ≤ 240 ∧ FrameRx.hunt ≠ .escaped := by decide +kernel

theorem witness_RequestsAndGoodFrames :
    served.link.state = .live ∧ served.link.latch = none ∧ (asked [12]).link.latch ≠ none ∧
      ({ served with link := { served.link with state := .quiet } } : State).link.state = .quiet := by decide +kernel

/-- `served` while it sends a given frame. -/
def sending (f : Frame) : State := { served with link := { served.link with tx := .sending f } }

theorem witness_ClosingDelimiters :
    sent.kind ≠ .reply ∧
      (let f : Frame := ⟨15, .reply, [0x0B, 0]⟩;
        (sending f).link.tx = .sending f ∧ f.body.head? ≠ some 0x0A ∧ f.body.head? ≠ some 0x0F) ∧
      (let f : Frame := ⟨15, .reply, [0x0F, 3, 2, 0]⟩;
        (sending f).link.tx = .sending f ∧ f.body.getD 1 0 = 3) ∧
      State.reset.link.tx = .idle ∧
      ∀ new ∈ [(⟨2, 4, 60⟩ : LinkSettings), ⟨0, 14, 0⟩], ∀ status ∈ [(0 : Byte), 1],
        (sending ⟨0x0F, .reply, [0x0A, status, byteOf new.p.val, byteOf new.m.val, byteOf new.silence.val]⟩).link.tx =
          .sending ⟨0x0F, .reply, [0x0A, status, byteOf new.p.val, byteOf new.m.val, byteOf new.silence.val]⟩ := by
  decide +kernel

theorem witness_SoftResetIsCarriedOut :
    (sending ⟨0x0F, .reply, [0x0F, 0]⟩).link.tx = .sending ⟨0x0F, .reply, [0x0F, 0]⟩ := by decide +kernel

/-- `served` with an IDLE transmitter. -/
def idle : State := { served with link := { served.link with tx := .idle } }

theorem witness_SelectionsByRankAndAtOnce :
    idle.link.tx = .idle ∧ idle.candidates = [] ∧
      ({ idle with reply := some [12, 0] } : State).candidates = [.reply] ∧
      ({ idle with reply := some [12, 0], notices := restartedNotices } : State).candidates ≠ [] ∧
      served.link.tx ≠ .idle ∧ served.link.tx = .sending sent ∧
      (let s := { idle with link := { idle.link with tx := .gathering, pointer := 3 } };
        s.link.tx = .gathering ∧ s.candidates = [] ∧
          -- lanes 1 and 5 have records of one rank: lane 5 comes first after lane 3
          ((s.setInQueue 1 [[4, 1, 0, 9]]).setInQueue 5 [[4, 1, 0, 9]]).isCandidate (.events 1) = true ∧
          ((s.setInQueue 1 [[4, 1, 0, 9]]).setInQueue 5 [[4, 1, 0, 9]]).isCandidate (.events 5) = true) ∧
      ({ idle with link := { idle.link with state := .quiet }, notices := restartedNotices } : State).candidates =
        [.notices] := by decide +kernel

theorem witness_SelectionsByRankAndAtOnce_select :
    idle.link.state = .live ∧ ({ idle with reply := some [12, 0] } : State).reply = some [12, 0] ∧
      (idle.setInQueue 7 [[4, 1, 0, 9]]).inQueue 7 = [4, 1, 0, 9] :: [] ∧
      (idle.setInQueue 7 [[4, 1, 0, 9], [4, 2, 0, 9]]).inQueue 7 = [4, 1, 0, 9] :: [[4, 2, 0, 9]] := by decide +kernel

/-! ### Witnesses: lane commands -/

theorem witness_LaneFramesAreTakenInOrder :
    (LaneCmd.showText 0 0 (List.replicate 20 65)).fits = true ∧ served.link.state = .live ∧
      ((LaneCmd.showText 0 0 (List.replicate 20 65)).bytes ++ [2, 0]).length ≤ 26 ∧
      ([0x0B, 0] : List Byte) ≠ [] ∧ ([0x0B, 0] : List Byte).length ≤ 2 ∧ beginsWithCommand [0x0B, 0] = false ∧
      -- a command that acts at once: OPEN in CLOSED
      (let s := withLane fun r => { r with phase := .closed, tag := 0 }
        let cmd := LaneCmd.openLane 77
        (s.lane 0).overflow = false ∧ cmd.record (s.keypadKind 0) = none ∧ cmd.admitted (s.lane 0).phase = true ∧
          cmd.badValue (s.keypadKind 0) = false ∧ s.unitDown 0 = false) := by
  decide +kernel

/-- `served` with lane 0 CLOSED. -/
def closedLane : State := withLane fun r => { r with phase := .closed, tag := 0 }

/-- A lane without a bound unit whose inbound queue is full. -/
def fullLane : State :=
  { served with
    tables := { served.tables with partition := served.tables.partition.set 6 2 }
    inbound := served.inbound.set 3 (List.replicate 16 [4, 1, 0, 9]) }

theorem witness_OpenBeginsOpening :
    closedLane.link.state = .live ∧ (closedLane.lane 0).phase = .closed ∧ (closedLane.lane 0).overflow = false ∧
      (0xFFFF : Word16) ≠ 0 ∧
      (∀ n, closedLane.bound 0 n = true →
        (closedLane.unit n).presence ≠ .seeking ∧ (closedLane.unit n).presence ≠ .lost) ∧
      closedLane.boundSlots 0 ≠ [] ∧ closedLane.bound 0 1 = true ∧ (closedLane.unit 1).presence ≠ .disabled ∧
      (fullLane.lane 3).phase = .closed ∧ fullLane.boundSlots 3 = [] ∧ fullLane.inFits 3 4 = false ∧
      closedLane.boundSlots 3 = [] ∧ closedLane.inFits 3 4 = true := by decide +kernel

theorem witness_OpenBeginsOpening_serials : closedLane.SerialsOk ∧ fullLane.SerialsOk :=
  ⟨⟨fun n d => by revert n; cases d <;> decide +kernel, by decide +kernel⟩,
    ⟨fun n d => by revert n; cases d <;> decide +kernel, by decide +kernel⟩⟩

/-- Slot 0 a keypad only, slot 1 unused: lane 0 has no reader. -/
def noReader : State := served.setEntry 1 ⟨resetUnitRecord, none⟩

theorem witness_RefusedCommandsRaiseBadCommand :
    served.link.state = .live ∧ (served.lane 0).overflow = false ∧
      -- not admitted: OPEN in OPEN
      (served.lane 0).phase ≠ .closed ∧
      -- no unit: READER without a reader
      (noReader.lane 0).phase = .opened ∧ (¬∃ n, noReader.bound 0 n = true ∧ (noReader.record n).kind ≠ .pinpad) ∧
      -- bad value: SHOW at row 2 of a PINPAD
      served.keypadOf 0 = some 0 ∧ (served.record 0).kind = .pinpad ∧ 2 ≤ (2 : Byte).toNat ∧
      -- unit down: OPEN in CLOSED with a unit SEEKING
      (closedLane.setUnit 1 { presence := .seeking }).bound 0 1 = true ∧
      ((closedLane.setUnit 1 { presence := .seeking }).unit 1).presence = .seeking := by decide +kernel

theorem witness_QueuedCommandsJoinTheOutboundQueue :
    served.link.state = .live ∧ (served.lane 0).overflow = false ∧ (List.replicate 20 (65 : Byte)).length ≤ 20 ∧
      served.keypadOf 0 = some 0 ∧ (served.lane 0).phase = .opened ∧ (1 : Byte).toNat < 2 ∧ (7 : Byte).toNat ≤ 7 ∧
      served.outFits 0 20 = true ∧ served.readerOf 0 = some 1 ∧ served.outFits 0 3 = true ∧ (1 : Byte) ≠ 0 := by
  decide +kernel

theorem witness_OverflowLosesCommands :
    served.link.state = .live ∧ ((withLane fun r => { r with overflow := true }).lane 0).overflow = true ∧
      LaneCmd.close ≠ .clear ∧
      (let s : State := { served with outbound := served.outbound.set 0 [⟨0, List.replicate 253 0⟩] };
        let cmd := LaneCmd.tone 7 0
        (s.lane 0).overflow = false ∧ cmd.record (s.keypadKind 0) = some [4, 2, 1, 7] ∧
          cmd.admitted (s.lane 0).phase = true ∧ s.hasTarget 0 cmd = true ∧ cmd.badValue (s.keypadKind 0) = false ∧
          s.outFits 0 [(4 : Byte), 2, 1, 7].length = false) := by decide +kernel

/-- Lane 0 with a live window, and room for `free` bytes in its inbound queue. -/
def windowed (free : Nat) : State :=
  { (withLane fun r => { r with window := some ⟨.collecting, .pin 4 6 2, false, none⟩, decision := some ⟨5, 1⟩ }) with
    inbound := served.inbound.set 0 [List.replicate (256 - free) 0] }

/-- Lane 0 with no unit that is trusted. -/
def untrusted (s : State) : State := (s.setUnit 0 { presence := .seeking }).setUnit 1 { presence := .lost }

theorem witness_CloseBeginsClosing :
    (windowed 5).link.state = .live ∧ ((windowed 5).lane 0).overflow = false ∧ ((windowed 5).lane 0).phase = .opened ∧
      ((windowed 5).bound 0 0 = true ∧ (windowed 5).trusted 0 = true) ∧
      (∃ w ∈ ((windowed 5).lane 0).window, w.phase = .collecting) ∧ (windowed 5).inFits 0 5 = true ∧
      ((windowed 5).unit 1).directives.Ok ∧ (windowed 5).readerOf 0 = some 1 ∧ ((windowed 5).lane 0).decision ≠ none ∧
      (windowed 4).inFits 0 5 = false ∧
      (∀ n, (untrusted (windowed 9)).bound 0 n = true → (untrusted (windowed 9)).trusted n = false) ∧
      (untrusted (windowed 9)).inFits 0 9 = true ∧ (served.lane 0).window = none ∧ served.inFits 0 4 = true := by
  decide +kernel

theorem witness_ClearFlushesThenCloses :
    served.link.state = .live ∧
      ∀ phase ∈ [LanePhase.closed, .opening, .opened, .closing, .faulted],
        ((withLane fun r => { r with phase := phase }).lane 0).phase = phase := by decide +kernel

theorem witness_DecisionsAreResolved :
    ((1 : Byte) = 1 ∨ (1 : Byte) = 2) ∧ deciding.link.state = .live ∧ (deciding.lane 0).phase = .opened ∧
      (deciding.lane 0).overflow = false ∧ (deciding.lane 0).decision = some ⟨12400, 1⟩ ∧ deciding.inFits 0 6 = true ∧
      (served.lane 0).decision = none ∧ ((windowed 6).lane 0).decision = some ⟨5, 1⟩ ∧ (windowed 6).inFits 0 6 = true ∧
      (windowed 5).inFits 0 6 = false ∧ ((windowed 5).lane 0).phase = .opened ∧ (windowed 5).link.state = .live ∧
      ((windowed 5).lane 0).overflow = false := by decide +kernel

theorem witness_LaneFramesTouchOneLane :
    served.link.tx = .sending sent ∧ served.link.state = .live ∧ (7 : LaneNo) ≠ 0 ∧ served.bound 0 2 = false ∧
      served.staged 2 = none ∧ (served.lane 0).decision = none := by decide +kernel

/-- `s` with a silence time of 5 s. -/
def silent (s : State) : State := { s with link := { s.link with inForce := ⟨2, 4, 5⟩ } }

theorem witness_SilenceTakesLanesIntoStandby :
    served.link.inForce.silence = 0 ∧ (silent (windowed 5)).link.state = .live ∧
      (silent (windowed 5)).link.inForce.silence ≠ 0 ∧ ((silent (windowed 5)).lane 0).phase = .opened ∧
      (silent (windowed 5)).inFits 0 5 = true ∧ (silent (windowed 4)).inFits 0 5 = false ∧
      ((silent served).lane 0).window = none ∧ ((silent served).lane 7).phase = .closed ∧
      (silent served).bound 0 1 = true ∧ ((silent served).unit 1).presence ≠ .disabled ∧
      ((silent served).unit 1).directives.rest = none ∧ ((silent (windowed 4)).lane 0).decision ≠ none ∧
      (silent (windowed 4)).readerOf 0 = some 1 ∧ ((silent (windowed 4)).unit 1).presence ≠ .disabled ∧
      ((silent (windowed 5)).lane 0).pinShadow = false := by decide +kernel

/-! ### Witnesses: management requests -/

/-- A request in `asked` may be taken, whatever its bytes. -/
theorem asked_latched (body : List Byte) : (asked body).Latched body := ⟨rfl, rfl, rfl⟩

theorem witness_ReadStatusReportsOneMoment : (asked [0x0C]).Latched [0x0C] ∧ (asked [0x0C, 0]).Latched (0x0C :: [0]) := by
  decide +kernel

theorem witness_CountersAreReadAndCleared :
    (∀ code ∈ [(0x0D : Byte), 0x0E], ∀ scope ∈ [(0 : Byte), 1, 2, byteOf (0x10 + 0), byteOf (0x10 + 15), 0xFF, 3, 0x0F, 0x20],
      (asked [code, scope]).Latched [code, scope]) ∧
      (2 < (3 : Byte).toNat ∧ (3 : Byte).toNat < 0x10) ∧ 0x20 ≤ (0x20 : Byte).toNat ∧ (0x20 : Byte) ≠ 0xFF := by
  decide +kernel

/-- A staged record for slot 0. -/
def staging : State := served.setEntry 0 ⟨pinpad, some { pinpad with address := 7 }⟩

theorem witness_LoadsStoreAndReadsReport_reads :
    (asked [2, 15]).Latched [2, byteOf 15] ∧ served.staged 15 = none ∧
      staging.staged 0 = some { pinpad with address := 7 } ∧ (asked [2, 16]).Latched [2, 16] ∧ 15 < (16 : Byte).toNat ∧
      (asked [4, 7]).Latched [4, byteOf 7] ∧ (asked [4, 8]).Latched [4, 8] ∧ 7 < (8 : Byte).toNat := by decide +kernel

/-- A record for a keypad of lane 1 on line B. -/
def newUnit : UnitRecord := ⟨true, .b, 5, .combo, 1, resetTune, 4, 0⟩

/-- The hypotheses of LOAD_UNIT of a record that passes every check. -/
abbrev loadable (s : State) (n : SlotNo) (new : UnitRecord) : Prop :=
  UnitRecord.ofBytes new.bytes = .inr new ∧
    (new.enabled = true → s.currentLane n ≠ some new.lane → (s.lane new.lane).phase = .closed) ∧
    (∀ m : SlotNo, m ≠ n → sameAddress new (s.effective m) = false ∧ ∀ r ∈ s.bothRecords m, sameRole new r = false) ∧
    (new.enabled = true → ((s.lineSlots new.line).filter (· ≠ n)).length < 8)

theorem witness_LoadUnitAppliesOrStages :
    (asked (1 :: 2 :: newUnit.bytes)).Latched (1 :: byteOf 2 :: newUnit.bytes) ∧
      (loadable served 2 newUnit ∧ (served.record 2).enabled = false) ∧
      (loadable served 0 { pinpad with address := 7 } ∧ (served.record 0).enabled = true ∧
        (served.lane (served.record 0).lane).phase ≠ .closed) ∧
      (loadable closedLane 0 pinpad ∧ (closedLane.lane (closedLane.record 0).lane).phase = .closed) :=
  ⟨asked_latched _,
    ⟨⟨by decide +kernel, by decide +kernel, by decide +kernel, by decide +kernel⟩, by decide +kernel⟩,
    ⟨⟨by decide +kernel, by decide +kernel, by decide +kernel, by decide +kernel⟩, by decide +kernel, by decide +kernel⟩,
    ⟨⟨by decide +kernel, by decide +kernel, by decide +kernel, by decide +kernel⟩, by decide +kernel⟩⟩

/-- Line B with eight enabled slots, on lanes 4 to 7. -/
def fullLine : State :=
  { served with
    tables := { served.tables with
      units := Vector.ofFn fun n =>
        if 8 ≤ n.val then
          ⟨⟨true, .b, Fin.ofNat 32 n.val, if n.val < 12 then .pinpad else .reader, Fin.ofNat 8 (4 + n.val % 4), resetTune, 4, 0⟩,
            none⟩
        else served.tables.units[n] } }

theorem witness_LoadUnitIsChecked_fields :
    (asked (1 :: 0 :: List.replicate 11 0)).Latched (1 :: 0 :: List.replicate 11 0) ∧ (List.replicate 11 (0 : Byte)).length ≠ 12 ∧
      pinpad.bytes.length = 12 ∧ 15 < (16 : Byte).toNat ∧ (15 : Byte).toNat ≤ 15 ∧
      ¬((pinpad.bytes.set 2 32).getD 2 0).toNat ≤ 31 ∧ ¬((pinpad.bytes.set 11 4).getD 11 0).toNat < 4 := by decide +kernel

theorem witness_LoadUnitIsChecked_constraints :
    -- busy: slot 2 has no lane, and lane 0 is OPEN
    (served.currentLane 2 ≠ some 0 ∧ (served.lane 0).phase ≠ .closed) ∧
      -- a clash: the address of slot 0 on its line
      sameAddress { newUnit with line := .a } (served.effective 0) = true ∧
      ¬8 ≤ ((served.lineSlots .a).filter (· ≠ 2)).length ∧
      -- a ninth slot on line B
      8 ≤ ((fullLine.lineSlots .b).filter (· ≠ 2)).length ∧
      (∀ m, m ≠ 2 → sameAddress newUnit (fullLine.effective m) = false ∧
        ∀ r ∈ fullLine.bothRecords m, sameRole newUnit r = false) := by decide +kernel

theorem witness_LoadsStoreAndReadsReport_loads :
    (asked [3, 5, 3, 1, 121, 7, 0]).Latched [3, byteOf 5, byteOf 3, if true then 1 else 0, 121, byteOf 7, byteOf 0] ∧
      (served.lane 5).phase = .closed ∧
      (asked (5 :: 3 :: List.replicate 32 0x13)).Latched (5 :: byteOf 3 :: List.replicate 32 0x13) ∧
      (asked [6, 3, 9, 5, 0x7F]).Latched [6, byteOf 3, 9, 5, 0x7F] ∧
      (¬(0x30 ≤ (0x7F : Byte).toNat ∧ (0x7F : Byte).toNat ≤ 0x39) ∧ (0x7F : Byte) ≠ 0x3D) ∧
      (asked (8 :: 7 :: List.replicate 40 0x7F)).Latched (8 :: byteOf 7 :: List.replicate 40 0x7F) ∧
      (List.replicate 40 (0x7F : Byte)).length ≤ 40 := by decide +kernel

/-- LOAD_RING for line A while its engine stands at a ring entry that is due. -/
def atEntry (sweep passActive : Bool) : State :=
  let s := withEngine fun e => { e with xstate := .paused, due := some .entry, passActive := passActive }
  { s with
    tables := { s.tables with lines := ⟨⟨{ resetLineSettings with sweep := sweep }, none⟩, s.tables.lines.b⟩ } }

theorem witness_LoadRingReplacesTheRing :
    (asked [7, 0, 2, 0, 1]).Latched (7 :: 0 :: byteOf [0, 1].length :: [(0 : SlotNo), 1].map fun n => byteOf n.val) ∧
      (∀ n ∈ [(0 : SlotNo), 1], (served.record n).line = .a) ∧
      ¬((served.engine .a).stage = .ring ∧ (served.engine .a).due = some .entry) ∧
      (∀ sweep ∈ [true, false], ∀ active ∈ [true, false],
        ((atEntry sweep active).engine .a).stage = .ring ∧ ((atEntry sweep active).engine .a).due = some .entry ∧
          ((atEntry sweep active).lineInForce .a).sweep = sweep ∧ ((atEntry sweep active).engine .a).passActive = active) ∧
      ([(0 : SlotNo), 1][0]? = some 0 ∧ (served.record 0).line ≠ .b) ∧
      (asked (7 :: 1 :: 13 :: List.replicate 13 0)).Latched (7 :: 1 :: 13 :: List.replicate 13 0) ∧
      (List.replicate 13 (0 : Byte)).length = (13 : Byte).toNat ∧ 12 < (13 : Byte).toNat ∧
      (asked [7, 1, 1, 16]).Latched (7 :: 1 :: 1 :: [16]) ∧ [(16 : Byte)][0]? = some 16 ∧ 15 < (16 : Byte).toNat := by
  decide +kernel

/-- Sixteen sizes of 8, but for one. -/
def sizes (q : Fin 16) (b : Byte) : Vector Byte 16 := (Vector.replicate 16 8).set q b

theorem witness_LoadPartitionChecksItsSizes (q : Fin 16) (b : Byte) :
    (asked (9 :: (sizes q b).toList)).Latched (9 :: (sizes q b).toList) ∧
      -- the last size too small; too many granules; lane 0's size changed while it is OPEN; nothing changed
      (sizes 15 1)[(15 : Fin 16)].toNat < 2 ∧ 128 < ((sizes 0 9).toList.map BitVec.toNat).sum ∧
      ((sizes 0 7)[inPlace 0].toNat ≠ served.tables.partition[inPlace 0] ∧ (served.lane 0).phase ≠ .closed) ∧
      (∀ k, (sizes 0 8)[inPlace k].toNat = served.tables.partition[inPlace k] ∧
        (sizes 0 8)[outPlace k].toNat = served.tables.partition[outPlace k]) :=
  ⟨asked_latched _, by decide +kernel⟩

theorem witness_SettingsAndSoftResetWait :
    (15 : Byte).toNat ≤ 15 ∧ (asked [0x0A, 7, 15, 61]).Latched [0x0A, byteOf 7, 15, 61] ∧
      (asked [0x0B, 1, 0, 15, 7, 3, 2, 251, 1, 1]).Latched
        [0x0B, 1, byteOf 0, 15, DataBits.seven.code, Parity.zero.code, StopBits.two.code, 251, Recovery.flag.code,
          if true then 1 else 0] ∧
      (asked [0x0F]).Latched [0x0F] ∧ (asked [0x0F, 0]).Latched (0x0F :: [0]) ∧ (asked [0x10]).Latched (0x10 :: []) ∧
      15 < (0x10 : Byte).toNat ∧ (asked []).Latched [] := by decide +kernel

theorem witness_RefusedRequestsChangeNothing :
    (asked [2, 16]).link.tx = .sending sent ∧ (asked [2, 16]).link.latch = some (2 :: [16]) ∧
      (Instr.readUnit, (2 : Byte).toNat) = (Instr.readUnit, 2) ∧ (asked [2, 16]).reply = none ∧
      (asked [2, 16]).softPending = false ∧ ({ asked [2, 16] with reply := some [] } : State).reply ≠ none := by
  decide +kernel

theorem witness_LayoutsReadBack :
    pinpad.address ≠ 0 ∧ pinpad.window ≠ 0 ∧ resetLaneSettings.timeout ≠ 0 ∧ 10 ≤ resetLineSettings.stuckLimit.val ∧
      (0x20 ≤ resetPolicy.mask.toNat ∧ resetPolicy.mask.toNat ≤ 0x7E ∧
        ¬(0x30 ≤ resetPolicy.mask.toNat ∧ resetPolicy.mask.toNat ≤ 0x39) ∧ resetPolicy.mask ≠ 0x3D) := by decide +kernel

/-! ### Witnesses: drop lines -/

theorem witness_LineReceiverFollowsTheLine :
    (served.engine .a).rx = .atRest ∧ (served.engine .a).driver = false ∧
      ¬((served.engine .a).xstate = .await ∨ (served.engine .a).xstate = .receiving) ∧
      ((withEngine fun e => { e with rx := .inBreak }).engine .a).rx = .inBreak ∧
      ((withEngine fun e => { e with chatter := true }).engine .a).chatter = true ∧ (served.engine .a).chatter = false ∧
      ((withEngine fun e => { e with rx := .inCharacter .stray }).engine .a).rx = .inCharacter .stray ∧
      -- a late character of the transmission, with the driver low
      (let e := (withEngine fun e => { e with rx := .inCharacter .echo }).engine .a;
        e.rx = .inCharacter .echo ∧ e.driver = false) ∧
      (let e := (withEngine fun e => { e with xstate := .sending, driver := true }).engine .a;
        e.rx = .atRest ∧ e.driver = true) ∧
      -- a reply character that is awaited, and one whose exchange has ended
      ((polled.engine .a).xstate = .await ∧ (polled.engine .a).exchange ≠ none) ∧
      (let e := (withEngine fun e => { e with rx := .inCharacter .reply, xstate := .guarding }).engine .a;
        e.rx = .inCharacter .reply ∧ ¬((e.xstate = .await ∨ e.xstate = .receiving) ∧ (e.exchange ≠ none ∨ e.probe ≠ none))) := by
  decide +kernel

theorem witness_CharactersAndRepliesReadBack_characters :
    (⟨.eight, .even, .two, 7, 14⟩ : Tune).parity = .even ∧ (⟨.seven, .odd, .one, 0, 0⟩ : Tune).parity = .odd ∧
      (⟨.seven, .zero, .one, 0, 0⟩ : Tune).parity = .zero ∧ 7 < (⟨.eight, .even, .two, 7, 14⟩ : Tune).data.count ∧
      1 < (⟨.eight, .even, .two, 7, 14⟩ : Tune).stop.count := by decide +kernel

/-- The engine of line A PAUSED with something due. -/
def due (d : Due) (run : Option ConfirmRun) : State :=
  withEngine fun e => { e with xstate := .paused, due := some d, run := run }

/-- The engine of line A PAUSED with an exchange or a probe that conflicted. -/
def conflicted (x : Option Exchange) (p : Option Probe) : State :=
  withEngine fun e => { e with xstate := .paused, conflicts := 3, exchange := x, probe := p }

theorem witness_TransmissionsBeginOnAReadyLine :
    (let e := (due .entry none).engine .a;
      e.stage ≠ .toBegin ∧ (e.rx = .atRest ∧ e.chatter = false ∧ e.driver = false) ∧ e.xstate = .paused ∧
        e.exchange = none ∧ e.probe = none ∧ e.due = some .entry ∧
        ((due .entry none).ring .a)[e.ringPtr]? = some 0) ∧
      ((served.record 0).enabled = true ∧ (served.record 0).line = .a ∧ (served.unit 0).presence = .locked) ∧
      (let s := (due .run (some ⟨0, true⟩)).setUnit 0 { presence := .lost, returning := true };
        (s.engine .a).run = some ⟨0, true⟩ ∧ (s.engine .a).due = some .run ∧ (s.unit 0).presence = .lost) ∧
      ((conflicted (some (served.buildExchange 0)) none).engine .a).exchange ≠ none ∧
      ((due .probe none).engine .a).due = some .probe ∧
      ((conflicted none (some ⟨⟨1, 31⟩, []⟩)).engine .a).probe ≠ none ∧
      ((withEngine fun e => { e with chatter := true }).engine .a).chatter ≠ false ∧
      (served.engine .a).xstate ≠ .paused := by decide +kernel

/-- Slot 0 with one directive. -/
def directed (d : Directive) : State :=
  withUnit fun u => { u with directives := ({} : Directives).put d (some ⟨7, 3⟩) }

theorem witness_TelegramsAreChosenInOrder :
    (served.record 0).enabled = true ∧ (withUnit fun u => { u with syncRequest := true }).units[0].syncRequest = true ∧
      (served.unit 0).syncRequest = false ∧ (served.unit 0).presence = .locked ∧
      ((withUnit fun u => { u with presence := .seeking }).unit 0).presence = .seeking ∧
      (let s := withLane fun r => { r with window := some ⟨.shutting, .pin 4 6 6, false, none⟩ };
        (s.record 0).kind ≠ .reader ∧ ∃ w ∈ (s.lane 0).window, w.phase = .shutting) ∧
      ((withUnit fun u => { u with doubt := some (.record 0 3) }).unit 0).doubt ≠ none ∧ (served.unit 0).doubt = none ∧
      (∀ d ∈ [Directive.eject, .keep, .standby, .rest, .wake],
        ((directed d).unit 0).directives.get d = some ⟨7, 3⟩ ∧
          ∀ b ∈ [Directive.eject, .keep, .standby, .rest, .wake].takeWhile (· ≠ d),
            ((directed d).unit 0).directives.get b = none) ∧
      (∀ b ∈ [Directive.eject, .keep, .standby, .rest, .wake], (served.unit 0).directives.get b = none) ∧
      (let s := served.setOutQueue 0 [⟨9, [4, 2, 1, 7]⟩];
        s.outQueue 0 = ⟨9, [4, 2, 1, 7]⟩ :: [] ∧ (s.lane 0).phase = .opened ∧ ([4, 2, 1, 7] : List Byte).getD 2 0 = 1) ∧
      served.outQueue 0 = [] ∧
      -- a head record that is not carried: for the other role, in FAULTED, in CLOSING
      (served.setOutQueue 0 [⟨9, [3, 3, 2]⟩]).outQueue 0 = ⟨9, [3, 3, 2]⟩ :: [] ∧
      ([3, 3, 2] : List Byte).getD 2 0 = 2 ∧ (served.record 0).kind = .pinpad ∧
      (∀ phase ∈ [LanePhase.faulted, .closing],
        let s := (withLane fun r => { r with phase := phase }).setOutQueue 0 [⟨9, [4, 2, 1, 7]⟩]
        s.outQueue 0 = ⟨9, [4, 2, 1, 7]⟩ :: [] ∧ (s.lane 0).phase = phase) := by decide +kernel

/-- A telegram or a probe being sent. -/
def transmitting (x : Option Exchange) (p : Option Probe) (conflicts : Nat) : State :=
  withEngine fun e => { e with xstate := .sending, driver := true, exchange := x, probe := p, conflicts := conflicts }

theorem witness_TransmissionsCompleteOrConflict :
    (served.engine .a).xstate ≠ .sending ∧
      (∀ n ∈ [0, 2, 3],
        ((transmitting (some (served.buildExchange 0)) none n).engine .a).xstate = .sending ∧
          ((transmitting (some (served.buildExchange 0)) none n).engine .a).sent[0]? = some 5 ∧
          ((transmitting (some (served.buildExchange 0)) none n).engine .a).conflicts = n) ∧
      (served.buildExchange 0).slot = 0 ∧ (served.unit 0).superseded = false ∧
      ((transmitting none (some ⟨⟨1, 31⟩, [0]⟩) 3).engine .a).probe = some ⟨⟨1, 31⟩, [0]⟩ ∧
      (calm.tuned.error ⟨5, true, true⟩ = .none ∧ calm.tuned.delivered ⟨5, true, true⟩ = calm.tuned.data.value 5) ∧
      (served.engine .a).driver = false ∧
      (let s := transmitting (some (served.buildExchange 0)) none 3;
        (s.engine .a).driver = true ∧ (s.engine .a).probe = none ∧ s.RecordStays 0) ∧
      (let s := transmitting none (some ⟨⟨1, 31⟩, [0]⟩) 3;
        (s.engine .a).driver = true ∧ (s.engine .a).exchange = none ∧ (s.engine .a).sent[0]? = some 0) := by
  decide +kernel

theorem witness_FailedExchangesMovePresence :
    (polled.engine .a).exchange = some (served.buildExchange 0) ∧ (polled.engine .a).xstate = .await ∧
      (polled.unit 0).superseded = false ∧ ¬((polled.unit 0).presence = .faltering ∧ 2 ≤ (polled.unit 0).fail) ∧
      (served.buildExchange 0).kind = .poll ∧
      ((polled.setEngine .a { polled.engine .a with xstate := .receiving }).engine .a).xstate = .receiving ∧
      (polled.engine .a).rx ≠ .inCharacter .reply ∧
      ((polled.setUnit 0 { polled.unit 0 with superseded := true }).unit 0).superseded = true ∧
      (let s := polled.setUnit 0 { polled.unit 0 with presence := .faltering, fail := 2 };
        (s.unit 0).presence = .faltering ∧ 2 ≤ (s.unit 0).fail ∧ (s.record 0).enabled = true ∧
          (s.lane (s.record 0).lane).phase = .opened ∧ (s.lane (s.record 0).lane).decision = none) ∧
      (closedLane.lane (closedLane.record 0).lane).phase = .closed := by decide +kernel

/-- `polled` with some characters of a reply received. -/
def partly (bytes : List Byte) : State :=
  polled.setEngine .a { polled.engine .a with xstate := .receiving, received := bytes }

theorem witness_ReplyCharactersAreStoredOrFail :
    (polled.engine .a).exchange = some (served.buildExchange 0) ∧ (polled.engine .a).xstate = .await ∧
      ((polled.engine .a).rx = .atRest ∧ (polled.engine .a).driver = false) ∧
      (polled.engine .a).tuned.error ⟨48, true, true⟩ = .none ∧ (polled.engine .a).tuned.error ⟨48, true, false⟩ ≠ .none ∧
      ((partly [5, 1]).engine .a).received.length = 2 ∧ 48 < (49 : Byte).toNat ∧ ¬48 < (48 : Byte).toNat ∧
      (let bytes := ((partly [5, 0, 0]).engine .a).received ++ [0];
        4 + (bytes.getD 2 0).toNat ≤ bytes.length ∧ (judgeReply .eight 5 bytes).isValid = false) := by decide +kernel

theorem witness_WholeRepliesAreApplied :
    (let e := polled.engine .a;
      e.exchange = some (served.buildExchange 0) ∧ e.xstate = .await ∧ e.rx = .atRest ∧ e.driver = false ∧
        e.received = [] ∧ e.run = none ∧ e.tuned = (served.buildExchange 0).tune) ∧
      (served.buildExchange 0).kind = .poll ∧ (polled.unit 0).superseded = false ∧ (polled.unit 0).presence = .locked ∧
      (polled.unit 0).doubt = none ∧ (polled.record 0).enabled = true ∧ (polled.lane 0).phase = .opened ∧
      ((served.buildExchange 0).bytes.headD 0).toNat < 32 ∧ (∀ b ∈ [(3 : Byte), 255], b.toNat < DataBits.eight.modulus) ∧
      ReplyKind.keys.admits 8 = true ∧ ReplyKind.pinBlock.admits 16 = true ∧ true ≠ (polled.unit 0).e ∧
      false = (polled.unit 0).e ∧ (polled.lane 0).standby = false ∧ (polled.lane 0).window = none ∧
      (polled.lane 0).pinShadow = false ∧ (polled.record 0).kind ≠ .reader ∧
      (([3] : List Byte).map (translate polled.tables.keyMaps[(polled.record 0).keyMap])).filter (· ≠ .none) ≠ [] ∧
      polled.inFits 0 5 = true ∧
      ({ polled with inbound := polled.inbound.set 0 [List.replicate 252 0] } : State).inFits 0 5 = false := by
  decide +kernel

/-- An exchange of slot 0 in its reply period, in `s`. -/
def exchanging (s : State) (kind : TelegramKind) (item : Option Item) (run : Option ConfirmRun) : State :=
  s.setEngine .a
    { calm with
      xstate := .await, exchange := some { served.buildExchange 0 with kind := kind, item := item }
      tuned := pinpad.tune, run := run }

/-- What the statements about an exchange of slot 0 ask of the engine and the slot. -/
abbrev inReplyPeriod (s : State) (kind : TelegramKind) (item : Option Item) (run : Option ConfirmRun) : Prop :=
  let e := s.engine .a
  e.exchange = some { served.buildExchange 0 with kind := kind, item := item } ∧ e.xstate = .await ∧ e.rx = .atRest ∧
    e.driver = false ∧ e.received = [] ∧ e.run = run ∧
    e.tuned = ({ served.buildExchange 0 with kind := kind, item := item } : Exchange).tune ∧
    (s.unit 0).superseded = false ∧ (s.record 0).enabled = true ∧ ((served.buildExchange 0).bytes.headD 0).toNat < 32

theorem witness_ConfirmationsLockUnits :
    inReplyPeriod (exchanging served .sync none none) .sync none none ∧ (served.unit 0).presence = .locked ∧
      (∀ p ∈ [Presence.seeking, .lost],
        inReplyPeriod (exchanging (withUnit fun u => { u with presence := p }) .sync none (some ⟨0, true⟩)) .sync none
          (some ⟨0, true⟩)) ∧
      inReplyPeriod
        (exchanging (withUnit fun u => { u with presence := .seeking, confirm := 1 }) .poll none (some ⟨0, false⟩)) .poll
        none (some ⟨0, false⟩) ∧
      (judgeReply .eight 5 (telegramBytes .eight 5 0x3F [])).isValid = false ∧
      (judgeReply .eight 5 (telegramBytes .eight 5 0x11 [3])).isValid = true ∧ ([3] : List Byte).length ≤ 48 ∧
      (3 : Byte).toNat < DataBits.eight.modulus := by decide +kernel

/-- Lane 0 changed, slot 0 with one directive, and a COMMAND exchange that carries it. -/
def carrying (f : LaneRecord → LaneRecord) (d : Directive) (attempts : Nat) : State :=
  exchanging
    ((withLane f).setUnit 0 { served.unit 0 with directives := ({} : Directives).put d (some ⟨attempts, 3⟩) })
    .command (some (.directive d 3)) none

/-- Lane 0 changed, one record in its outbound queue, and a COMMAND exchange that carries it. -/
def carryingRecord (f : LaneRecord → LaneRecord) (bytes : List Byte) (attempts : Nat) : State :=
  exchanging
    (((withLane f).setUnit 0 { served.unit 0 with headAttempts := attempts }).setOutQueue 0 [⟨9, bytes⟩])
    .command (some (.record 0 9)) none

/-- An OPENING lane 0 in which slot 0 is yet to wake, and slot 1 has woken or not. -/
def openingLane (other : Bool) (r : LaneRecord) : LaneRecord :=
  { r with phase := .opening, wakeMarks := [(0, false), (1, other)] }

/-- A CLOSING lane 0 with both units REST_DUE. -/
def closingLane (r : LaneRecord) : LaneRecord := { r with phase := .closing, confirms := [(0, .restDue), (1, .restDue)] }

/-- A CLOSING lane 0 that waits for slot 0 alone. -/
def lastClosing (r : LaneRecord) : LaneRecord := { r with phase := .closing, confirms := [(0, .restDue), (1, .confirmed)] }

/-- Slot 0 in the reply period of a POLL that would be its third failure, with lane 0 changed. -/
def thirdFailure (f : LaneRecord → LaneRecord) : State :=
  let s := polled.setLane 0 (f (polled.lane 0))
  s.setUnit 0 { s.unit 0 with presence := .faltering, fail := 2 }

theorem witness_FailedExchangesMovePresence_third :
    (∀ f ∈ [id, openingLane false, closingLane, lastClosing, (fun r => { r with phase := .closed, tag := 0 } : LaneRecord → LaneRecord),
        (fun r => { r with decision := some ⟨5, 1⟩ } : LaneRecord → LaneRecord)],
      let s := thirdFailure f
      (s.engine .a).exchange = some (served.buildExchange 0) ∧ (s.engine .a).xstate = .await ∧
        (s.unit 0).superseded = false ∧ (s.unit 0).presence = .faltering ∧ 2 ≤ (s.unit 0).fail ∧
        (s.record 0).enabled = true ∧ (s.record 0).lane = 0) ∧
      (served.buildExchange 0).kind = .poll ∧
      (((thirdFailure id).lane 0).phase = .opened ∧ ((thirdFailure id).lane 0).decision = none) ∧
      ((thirdFailure (openingLane false)).lane 0).phase = .opening ∧
      (let s := thirdFailure fun r => { r with decision := some ⟨5, 1⟩ };
        (s.lane 0).decision ≠ none ∧ s.readerOf 0 = some 1 ∧ s.trusted 1 = true) ∧
      (let s := thirdFailure closingLane;
        (s.lane 0).phase = .closing ∧ (s.lane 0).WaitsForOther 0) ∧
      (let s := thirdFailure lastClosing;
        (s.lane 0).phase = .closing ∧ ¬(s.lane 0).WaitsForOther 0 ∧ s.NoneStaged ∧ s.inFits 0 4 = true) ∧
      (((thirdFailure id).setEntry 0 ⟨{ pinpad with enabled := false }, none⟩).record 0).enabled = false ∧
      (((thirdFailure id).setEngine .a { polled.engine .a with xstate := .receiving }).engine .a).rx = .atRest := by
  decide +kernel

theorem witness_TakenItemsMoveTheLane :
    (∀ d ∈ [Directive.eject, .keep, .standby, .rest, .wake],
      inReplyPeriod (carrying id d 0) .command (some (.directive d 3)) none ∧
        ((carrying id d 0).unit 0).directives.get d = some ⟨0, 3⟩ ∧ ((carrying id d 0).unit 0).presence = .locked) ∧
      (exchanging served .command (some (.record 0 9)) none).itemPending 0 (.record 0 9) = false ∧
      (∃ m ∈ ((carrying (openingLane false) .wake 0).lane 0).wakeMarks.map fun m => if m.1 = 0 then (0, true) else m,
        m.2 = false) ∧
      (∀ m ∈ ((carrying (openingLane true) .wake 0).lane 0).wakeMarks.map fun m => if m.1 = 0 then (0, true) else m,
        m.2 = true) ∧
      (carrying (openingLane true) .wake 0).inFits 0 4 = true ∧
      ((∃ m ∈ ((carrying closingLane .rest 0).lane 0).confirms, m.1 = 0) ∧
        ∀ m ∈ ((carrying closingLane .rest 0).lane 0).confirms, m.1 = 0 → m.2 = .restDue) ∧
      (∀ bytes ∈ [([4, 2, 5, 7] : List Byte), [4, 5, 0x1D, 32], [5, 6, 0x25, 4, 12], [3, 7, 5]],
        inReplyPeriod (carryingRecord id bytes 7) .command (some (.record 0 9)) none ∧
          (carryingRecord id bytes 7).outQueue 0 = ⟨9, bytes⟩ :: [] ∧ ((carryingRecord id bytes 7).lane 0).phase ≠ .closing) ∧
      (carryingRecord id [5, 6, 0x25, 4, 12] 7).inFits 0 13 = true ∧
      (exchanging (withUnit fun u => { u with doubt := some (.record 0 9) }) .poll none none).units[0].doubt =
        some (.record 0 9) := by decide +kernel

theorem witness_UntakenItemsAreAttemptedEightTimes :
    inReplyPeriod (exchanging (withUnit fun u => { u with doubt := some (.record 0 9) }) .poll none none) .poll none none ∧
      (∀ attempts ∈ [0, 6, 7],
        inReplyPeriod (carrying (openingLane false) .wake attempts) .command (some (.directive .wake 3)) none ∧
          ((carrying (openingLane false) .wake attempts).unit 0).directives.wake = some ⟨attempts, 3⟩ ∧
          ((carryingRecord id [4, 2, 5, 7] attempts).unit 0).headAttempts = attempts) ∧
      ((carrying (openingLane false) .wake 7).lane 0).decision = none ∧
      ((∀ m ∈ ((carrying closingLane .rest 7).lane 0).confirms, m.1 = 0 → m.2 = .restDue) ∧
        ∃ m ∈ ((carrying closingLane .rest 7).lane 0).confirms, m.1 ≠ 0 ∧ m.2 ≠ .confirmed ∧ m.2 ≠ .waived) ∧
      ((carrying id .eject 7).lane 0).phase ≠ .closing := by decide +kernel

/-- Line A without a sweep, slot 0 SEEKING. -/
def unswept (stage : Stage) (x : XState) : State :=
  let s := withUnit fun u => { u with presence := .seeking }
  { s.setEngine .a { calm with stage := stage, xstate := x } with
    tables := { s.tables with lines := ⟨⟨{ resetLineSettings with sweep := false }, none⟩, s.tables.lines.b⟩ } }

theorem witness_EntriesAreReachedInRingOrder :
    (served.engine .a).xstate ≠ .guarding ∧
      (let e := (withEngine fun e => { e with xstate := .guarding, ringPtr := 1 }).engine .a;
        e.xstate = .guarding ∧ e.stage = .ring ∧ e.run = none ∧ e.cut = false ∧ e.ringPtr ≤ 1) ∧
      (served.ring .a)[1]? = some 1 ∧ (served.unit 1).presence = .locked ∧ (served.record 1).line = .a ∧
      (let s := unswept .ring .guarding;
        (s.engine .a).xstate = .guarding ∧ (s.unit 0).presence = .seeking ∧ (s.lineInForce .a).sweep = false ∧
          (s.ring .a)[0]? = some 0) ∧
      ((withEngine fun e => { e with xstate := .guarding, ringPtr := 2 }).ring .a).drop 2 = [] ∧
      (served.lineInForce .a).sweep = true ∧ ((unswept .tickWait .idle).engine .a).stage = .tickWait ∧
      ((served.setEngine .b { calm with stage := .tickWait }).ring .b).drop 0 = [] ∧
      (served.engine .a).stage ≠ .tickWait ∧ (served.engine .a).stage ≠ .toBegin ∧
      -- the cut mark, the end of the sweep step, a pass that is to begin
      (∀ active ∈ [true, false],
        let e := (withEngine fun e => { e with xstate := .guarding, cut := true, passActive := active }).engine .a
        e.xstate = .guarding ∧ e.stage = .ring ∧ e.run = none ∧ e.cut = true ∧ e.passActive = active) ∧
      (∀ stage ∈ [Stage.sweepStep, .toBegin],
        let e := (withEngine fun e => { e with xstate := .guarding, stage := stage }).engine .a
        e.xstate = .guarding ∧ e.stage = stage ∧ e.run = none) ∧
      (let e := (withEngine fun e => { e with stage := .toBegin, xstate := .idle }).engine .a;
        e.stage = .toBegin ∧ (e.rx = .atRest ∧ e.chatter = false ∧ e.driver = false ∧ e.xstate ≠ .guarding)) ∧
      ((withEngine fun e => { e with stage := .toBegin, chatter := true }).engine .a).chatter ≠ false ∧
      -- a confirmation run whose slot can be served, and one whose slot cannot
      (∀ at_ ∈ [true, false],
        let s := (unswept .ring .guarding).setEngine .a { calm with xstate := .guarding, run := some ⟨0, at_⟩ }
        (s.engine .a).xstate = .guarding ∧ (s.engine .a).run = some ⟨0, at_⟩ ∧ (s.record 0).enabled = true ∧
          (s.record 0).line = .a ∧ (s.unit 0).presence = .seeking) ∧
      (let s := withEngine fun e => { e with xstate := .guarding, run := some ⟨0, true⟩ };
        (s.engine .a).run = some ⟨0, true⟩ ∧ (s.unit 0).presence = .locked) := by decide +kernel

/-- The answer of slot 0, which is trusted, to a probe, with lane 0 changed. -/
def restarted (f : LaneRecord → LaneRecord) : State :=
  let s := probing [(5, false), (0x7A, false)]
  s.setLane 0 (f (s.lane 0))

theorem witness_SweepAnswersAreJudged_restart :
    (∀ f ∈ [id, openingLane false, closingLane, lastClosing],
      let s := restarted f
      (s.engine .a).exchange = none ∧ (s.engine .a).xstate = .receiving ∧ (s.engine .a).rx = .atRest ∧
        (s.engine .a).answers = [(5, false), (5 ^^^ 0x7F, false)] ∧ (s.record 0).enabled = true ∧
        (s.record 0).line = .a ∧ (s.record 0).address.val = (5 : Byte).toNat ∧ (s.unit 0).presence = .locked ∧
        (s.record 0).lane = 0 ∧ (s.lane 0).decision = none) ∧
      ((restarted id).lane 0).phase = .opened ∧ ((restarted (openingLane false)).lane 0).phase = .opening ∧
      (((restarted closingLane).lane 0).phase = .closing ∧ ((restarted closingLane).lane 0).WaitsForOther 0) ∧
      (let s := restarted lastClosing;
        (s.lane 0).phase = .closing ∧ ¬(s.lane 0).WaitsForOther 0 ∧ s.NoneStaged ∧ s.inFits 0 4 = true) := by
  decide +kernel

theorem witness_SweepAnswersAreJudged :
    ((probing []).engine .a).exchange = none ∧ ((probing []).engine .a).probe = some ⟨⟨1, 31⟩, [0, 2, 2, 1, 31, 220]⟩ ∧
      ((probing []).engine .a).xstate = .await ∧ ((probing []).engine .a).rx = .atRest ∧
      ((probing []).engine .a).driver = false ∧
      ((probing [(1, false), (2, true)]).engine .a).answers.length = 2 ∧
      ((probing [(1, false)]).engine .a).answers.length = 1 ∧ ((probing [(1, false)]).engine .a).xstate = .receiving ∧
      ((probing [(31, false), (0x60, false)]).engine .a).answers = [(31, false), (0x60, false)] ∧
      ((0x60 : Byte) = 31 ^^^ 0x7F ∧ 1 ≤ (31 : Byte).toNat ∧ (31 : Byte).toNat ≤ 31) ∧
      (∀ m, ¬((served.record m).enabled = true ∧ (served.record m).line = .a ∧ (served.record m).address.val = (31 : Byte).toNat)) ∧
      ((served.record 0).enabled = true ∧ (served.record 0).line = .a ∧ (served.record 0).address.val = (5 : Byte).toNat) ∧
      ((withUnit fun u => { u with presence := .lost }).unit 0).presence = .lost ∧
      (served.unit 0).presence = .locked ∧ (closedLane.lane (closedLane.record 0).lane).phase = .closed := by
  decide +kernel

theorem witness_WatchdogExpiryResetsTheLine :
    ¬(((served.engine .a).rx = .inBreak ∧ (served.engine .a).driver = false) ∨ (served.engine .a).chatter = true) ∧
      (State.reset.engine .a).rx = .inBreak ∧ (State.reset.engine .a).driver = false ∧
      (State.reset.lineInForce .a).recovery = .reset ∧ (State.reset.engine .a).exchange = none ∧
      ({ resetLineSettings with recovery := .flag } : LineSettings).recovery = .flag ∧
      ((polled.setEngine .a { polled.engine .a with chatter := true }).engine .a).chatter = true ∧
      (polled.engine .a).exchange = some (served.buildExchange 0) ∧ (polled.unit 0).superseded = false ∧
      (polled.unit 0).presence = .locked ∧
      (let s := polled.setEngine .a { polled.engine .a with chatter := true }; s.RecordStays 0) ∧
      (((thirdFailure id).unit 0).presence = .faltering ∧ 2 ≤ ((thirdFailure id).unit 0).fail ∧
        (thirdFailure id).RecordStays 0) ∧
      (bothStuck.pending = [] ∧ tickEvents.filter bothStuck.countTick.comes = [.watchdog .a, .watchdog .b] ∧
        bothStuck.link.tx = .idle ∧ bothStuck.candidates = [] ∧ (bothStuck.lineInForce .a).recovery = .reset) ∧
      (let s := { bothStuck with
          link := served.link
          tables := { bothStuck.tables with lines := ⟨⟨{ resetLineSettings with recovery := .flag }, none⟩, bothStuck.tables.lines.b⟩ } };
        tickEvents.filter s.countTick.comes = [.watchdog .a, .watchdog .b] ∧ s.link.tx ≠ .idle ∧
          (s.lineInForce .a).recovery = .flag) := by decide +kernel

theorem witness_LinesAreApart :
    polled.link.tx = .sending sent ∧ Line.a ≠ .b ∧
      Instr.noReply .a ∈
        [Instr.telegram .a, .sweep .a, .transmissionComplete .a, .echoConflict .a 0 none, .noReply .a] := by decide +kernel

theorem witness_CharactersAndRepliesReadBack_replies :
    (List.replicate 48 (0 : Byte)).length ≤ 48 ∧ ReplyKind.keys.admits 8 = true ∧ ReplyKind.keys.admits 9 = false ∧
      (6 : Byte) ≠ 5 ∧ (([5, 0, 0] : List Byte).map BitVec.toNat).sum % DataBits.eight.modulus ≠ 0 := by decide +kernel

/-! ### Witnesses: keys, cards and data replies -/

/-- Lane 0 with a PIN window that is COLLECTING, and slot 0 in the reply period of its POLL. -/
def pinPolled : State :=
  exchanging (withLane fun r => { r with window := some ⟨.collecting, .pin 4 6 2, false, none⟩ }) .poll none none

theorem witness_PinDigitsStayHidden_reply :
    inReplyPeriod pinPolled .poll none none ∧ (pinPolled.lane 0).phase = .opened ∧
      (pinPolled.lane 0).window = some ⟨.collecting, .pin 4 6 2, false, none⟩ ∧ (pinPolled.unit 0).doubt = none ∧
      pinPolled.currentLane 0 = some 0 ∧ (pinPolled.record 0).kind ≠ .reader ∧
      (served.buildExchange 0).slot = 0 ∧ ([1, 10] : List Byte).length ≤ 8 ∧
      (∀ b ∈ ([1, 10] ++ [9, 10] : List Byte), b.toNat < DataBits.eight.modulus) := by decide +kernel

theorem witness_PinDigitsStayHidden :
    ((windowed 5).lane 0).phase = .opened ∧
      ((windowed 5).lane 0).window = some ⟨.collecting, .pin 4 6 2, false, none⟩ ∧
      ((windowed 5).record 0).kind ≠ .reader ∧
      (((windowed 5).keysOf 0 [1, 10]).map fun key => match key with | .digit _ => LogicalKey.digit 0 | key => key) =
        ((windowed 5).keysOf 0 [9, 10]).map fun key => match key with | .digit _ => LogicalKey.digit 0 | key => key := by
  decide +kernel

/-- An OPEN lane 0 with a window in a phase, and `free` bytes in its inbound queue. -/
def entering (phase : WindowPhase) (what : Collected) (mark : Option Bool) (free : Nat) : State :=
  (withLane fun r => { r with window := some ⟨phase, what, false, mark⟩ }).setInQueue 0 [List.replicate (256 - free) 0]

theorem witness_EntryWindowsTakeKeys_replies :
    (∀ what ∈ [Collected.amount 6 4 [0x31, 0x32] true true, .pin 4 6 2],
      ∀ phase ∈ [WindowPhase.collecting, .awaitBlock, .shutting, .held], ∀ free ∈ [4, 10],
        let s := entering phase what none free
        (s.lane 0).phase = .opened ∧ (s.lane 0).standby = false ∧ (s.lane 0).window = some ⟨phase, what, false, none⟩ ∧
          (s.record 0).kind ≠ .reader ∧ (s.record 1).kind = .reader ∧ s.inFits 0 5 = decide (5 ≤ free) ∧
          (([3] : List Byte).map (translate s.tables.keyMaps[(s.record 0).keyMap])).filter (· ≠ .none) ≠ []) ∧
      ((entering .collecting (.pin 4 6 2) (some true) 9).lane 0).window =
        some ⟨.collecting, .pin 4 6 2, false, some true⟩ ∧
      ((withLane fun r => { r with standby := true }).lane 0).standby = true ∧
      (served.lane 0).window = none ∧ (served.lane 0).pinShadow = false ∧
      ((withLane fun r => { r with pinShadow := true }).lane 0).pinShadow = true ∧ (3 : Byte).toNat < 32 ∧
      -- the ends of collection: by the digits that fill an amount, by ENTER and CANCEL, and a short PIN
      (amountKeys 6 1 [0x31, 0x32, 0x33, 0x34, 0x35] true [.digit 6]).ended = .done ∧
      (amountKeys 6 4 [0x31, 0x32] true [.cancel]).ended = .cancelled ∧
      (pinKeys 4 6 4 [.enter]).ended = .entered ∧ (pinKeys 4 6 2 [.cancel]).ended = .cancelled ∧
      (pinKeys 4 6 2 [.enter]).short = true := by decide +kernel

theorem witness_EntryWindowsTakeKeys :
    (⟨4, false, .no, 0⟩ : PinWork).ended = .no ∧ (⟨4, false, .entered, 0⟩ : PinWork).ended ≠ .no ∧
      LogicalKey.digit 9 ≠ .none ∧ (⟨[], 6, .no, 0⟩ : AmountWork).ended = .no ∧
      (⟨[0x31], 0, .done, 0⟩ : AmountWork).ended ≠ .no ∧ ([0x31, 0x2E] : List Byte).length + 1 = 3 ∧ 1 ≤ 1 ∧
      ([0x31, 0x2E] : List Byte).count 0x2E ≤ 1 ∧ ∀ c ∈ ([0x31, 0x2E] : List Byte), isDigit c = true ∨ c = 0x2E := by
  decide +kernel

/-- A lane that reads cards with card hold on, from its reader, slot 1. -/
def holding (f : LaneRecord → LaneRecord) : State :=
  let s := withLane f
  { s with tables := { s.tables with lanes := s.tables.lanes.set 0 { resetLaneSettings with cardHold := true } } }

/-- A lane's inbound queue with no room. -/
def stuffed (s : State) : State := s.setInQueue 0 [List.replicate 256 0]

theorem witness_CardReadsBecomeOneRecord :
    ((holding id).lane 0).phase = .opened ∧ ((holding id).lane 0).window = none ∧ ((holding id).lane 0).standby = false ∧
      ((holding id).lane 0).decision = none ∧ ((holding id).record 1).kind ≠ .pinpad ∧
      ((holding id).record 0).kind = .pinpad ∧ (deciding.lane 0).decision ≠ none ∧
      ((holding fun r => { r with assembly := some { account := [0x34] } }).lane 0).assembly = some { account := [0x34] } ∧
      ((1 : Byte).getLsbD 0 = true ∧ (1 : Byte).getLsbD 1 = false ∧ (1 : Byte).getLsbD 2 = false) ∧
      ((3 : Byte).getLsbD 1 = true ∧ (4 : Byte).getLsbD 2 = true) ∧
      (holding id).inFits 0 48 = true ∧ (stuffed (holding id)).inFits 0 9 = false ∧
      (({} : Assembly).account.length ≤ 19 ∧ ({} : Assembly).rest.length ≤ 20) := by decide +kernel

/-- Slot 0 of `s` with a baseline of no flags and some pending flags. -/
def watched (s : State) (pending : Option StatusFlags) : State :=
  s.setUnit 0 { s.unit 0 with baseline := some ⟨false, false, false⟩, pendingFlags := pending }

theorem witness_StatusChangesAreAdopted :
    (served.lane 0).window = none ∧ (served.unit 0).baseline = none ∧
      ((watched served none).unit 0).baseline = some ⟨false, false, false⟩ ∧
      ((8 : Byte).getLsbD 3 = true ∧ (2 : Byte).getLsbD 3 = false) ∧
      (closedLane.lane 0).phase = .closed ∧ (served.lane 0).phase = .opened ∧ (served.lane 0).decision = none ∧
      served.currentLane 0 = some 0 ∧
      ((watched served (some ⟨false, true, false⟩)).unit 0).pendingFlags =
        some ⟨(2 : Byte).getLsbD 0, (2 : Byte).getLsbD 1, (2 : Byte).getLsbD 2⟩ ∧
      (⟨false, true, false⟩ : StatusFlags) ≠ ⟨false, false, false⟩ ∧ served.inFits 0 7 = true ∧
      (stuffed served).inFits 0 7 = false ∧ ((withLane closingLane).lane 0).phase = .closing ∧
      closedLane.currentLane 0 = some 0 ∧ (withLane fun r => { r with phase := .faulted }).currentLane 0 = some 0 ∧
      ((withLane closingLane).currentLane 0 = some 0 ∧ ((withLane closingLane).lane 0).WaitsForOther 0) ∧
      (let s := withLane lastClosing;
        s.currentLane 0 = some 0 ∧ (s.lane 0).phase = .closing ∧ ¬(s.lane 0).WaitsForOther 0 ∧ s.NoneStaged ∧
          s.inFits 0 4 = true) := by decide +kernel

theorem witness_CallsBlocksAndShuts :
    ((closedLane.lane 0).phase = .closed ∧ (closedLane.lane 0).window = none ∧ (closedLane.lane 0).callLatch = false ∧
        closedLane.inFits 0 5 = true ∧ (stuffed closedLane).inFits 0 5 = false) ∧
      ((closedLane.setLane 0 { closedLane.lane 0 with callLatch := true }).lane 0).callLatch = true ∧
      (((withLane (openingLane true)).lane 0).phase = .opening ∧ ((withLane (openingLane true)).lane 0).window = none) ∧
      (let s := withLane fun r => { r with window := some ⟨.awaitBlock, .pin 4 6 6, true, none⟩ };
        (s.lane 0).phase = .opened ∧ (s.lane 0).window = some ⟨.awaitBlock, .pin 4 6 6, true, none⟩ ∧
          (s.record 0).kind ≠ .reader ∧ (s.record 1).kind = .reader ∧ s.inFits 0 20 = true ∧
          (stuffed s).inFits 0 12 = false) ∧
      (let s := withLane fun r => { r with window := some ⟨.shutting, .pin 4 6 6, true, none⟩ };
        inReplyPeriod (exchanging s .shut none none) .shut none none ∧
          ((exchanging s .shut none none).unit 0).doubt = none ∧ (s.lane 0).phase ≠ .closing) := by decide +kernel

theorem witness_RepliesAreTakenWholeOrNotAtAll :
    (⟨.keys, false, false, false, [1]⟩ : Reply).kind ≠ .idle ∧ (⟨.keys, false, false, false, [1]⟩ : Reply).kind ≠ .status ∧
      ((windowed 5).takeData 0 0 ⟨.keys, false, false, false, [1]⟩).verdict = .accept ∧
      ((windowed 4).takeData 0 0 ⟨.keys, false, false, false, [1]⟩).verdict = .hold ∧
      ((withLane fun r => { r with phase := .faulted }).takeData 0 0 ⟨.keys, false, false, false, [1]⟩).verdict = .refuse := by
  decide +kernel

end Sys2Proof.Tests
end

section
/-! SUPPORT. Selections of the transmit arbiter: who is a candidate, who wins, and what a selection leaves behind. -/

namespace Sys2Proof.Machine

/-! ### Candidates -/

theorem mem_allSources (src : Source) : src ∈ allSources := by
  cases src <;> simp [allSources, allLanes]

@[simp] theorem State.mem_candidates (s : State) (src : Source) : src ∈ s.candidates ↔ s.isCandidate src = true := by
  simp [State.candidates, mem_allSources]

/-- The candidates depend on the four kinds of sources and on the state of the link, and on nothing else. -/
theorem State.candidates_congr {s t : State} (reply : t.reply = s.reply) (notices : t.notices = s.notices)
    (lanes : t.lanes = s.lanes) (inbound : t.inbound = s.inbound) (state : t.link.state = s.link.state) :
    t.candidates = s.candidates := by
  have same : t.isCandidate = s.isCandidate := by
    funext src
    cases src <;> simp [State.isCandidate, State.lane, State.inQueue, reply, notices, lanes, inbound, state]
  simp [State.candidates, same]

/-- A set of kinds holds one exactly where one of its places is filled. -/
theorem noneHeld_toList {n : Nat} (v : Vector (Option Entry) n) :
    noneHeld v.toList = false ↔ ∃ kind : Fin n, v[kind] ≠ none := by
  simp only [noneHeld, List.all_eq_false, Vector.mem_toList_iff]
  constructor
  · rintro ⟨x, mem, held⟩
    obtain ⟨i, hi, rfl⟩ := Vector.mem_iff_getElem.mp mem
    exact ⟨⟨i, hi⟩, by simpa using held⟩
  · rintro ⟨kind, held⟩
    exact ⟨v[kind], Vector.getElem_mem kind.isLt, by simpa using held⟩

/-! ### What a selection leaves behind -/

theorem State.winner_eq_none (s : State) (cs : List Source) : s.winner cs = none ↔ cs = [] := by
  cases cs with
  | nil => simp [State.winner]
  | cons c rest => cases h : s.winner rest <;> simp [State.winner, h]

/-- A transmitter that is not IDLE is settled. -/
theorem State.settled_of_sending {s : State} {f : Frame} (h : s.link.tx = .sending f) : s.Settled := by
  intro idle
  simp [h] at idle

/-- A settled part has nothing new to select. -/
theorem State.selectNew_of_settled {s : State} (h : s.Settled) : s.selectNew = s := by
  unfold State.selectNew
  cases tx : s.link.tx with
  | idle => simp [h tx]
  | gathering => rfl
  | sending f => rfl

theorem State.selectNew_settled (s : State) : s.selectNew.Settled := by
  rcases s.selectNew_cases with ⟨stays, h⟩ | ⟨_, src, _, h⟩ | ⟨_, _, h⟩ <;> rw [h]
  · exact fun idle => stays.resolve_left (by simp [idle])
  · exact State.settled_of_sending (s.select_tx src)
  · exact State.settled_of_sending (s.select_tx _)

@[simp] theorem State.selectNew_selectNew (s : State) : s.selectNew.selectNew = s.selectNew :=
  State.selectNew_of_settled s.selectNew_settled

/-- A transmitter with a frame in it stays as it is; any other one gets the winner. -/
theorem State.selectByRank_eq (s : State) :
    ((∃ f, s.link.tx = .sending f) ∧ s.selectByRank = s) ∨
      ((s.link.tx = .idle ∨ s.link.tx = .gathering) ∧ s.selectByRank = s.selectWinner) := by
  unfold State.selectByRank
  cases s.link.tx <;> simp

theorem State.selectWinner_none {s : State} (h : s.candidates = []) :
    s.selectWinner = { s with link := { s.link with tx := .idle } } := by
  simp [State.selectWinner, h, State.winner, State.setLink]

theorem State.selectWinner_some {s : State} (h : s.candidates ≠ []) :
    ∃ w, s.winner s.candidates = some w ∧ s.selectWinner = s.select w := by
  cases won : s.winner s.candidates with
  | none => exact absurd ((s.winner_eq_none _).mp won) h
  | some w => exact ⟨w, rfl, by simp [State.selectWinner, won]⟩

theorem State.selectByRank_settled (s : State) : s.selectByRank.Settled := by
  rcases s.selectByRank_eq with ⟨⟨f, sending⟩, h⟩ | ⟨_, h⟩ <;> rw [h]
  · exact State.settled_of_sending sending
  · by_cases none : s.candidates = []
    · rw [State.selectWinner_none none]
      intro _
      rw [← none]
      exact State.candidates_congr rfl rfl rfl rfl rfl
    · obtain ⟨w, _, h⟩ := State.selectWinner_some none
      rw [h]
      exact State.settled_of_sending (s.select_tx w)

@[simp] theorem State.selectNew_selectByRank (s : State) : s.selectByRank.selectNew = s.selectByRank :=
  State.selectNew_of_settled s.selectByRank_settled

end Sys2Proof.Machine
end

section
/-! SUPPORT. The tick of the millisecond timebase, and the part at reset. -/

namespace Sys2Proof.Machine

/-! ### One tick -/

@[simp] theorem Engine.countWatchdog_unsettled (e : Engine) : e.countWatchdog.unsettled = e.unsettled := by
  unfold Engine.countWatchdog
  split <;> rfl

/-- A counted tick moves the millisecond counters and nothing else (R16, R56, R177). -/
theorem State.countTick_eq (s : State) :
    s.countTick =
      { s with
        link := { s.link with
          silenceCount :=
            if s.link.state = .live ∧ s.link.inForce.silence ≠ 0 then s.link.silenceCount + 1 else s.link.silenceCount }
        lanes := s.lanes.map LaneRecord.countDecision
        engines := ⟨s.engines.a.countWatchdog, s.engines.b.countWatchdog⟩ } := by
  by_cases runs : s.link.state = .live ∧ s.link.inForce.silence ≠ 0 <;>
    simp [State.countTick, State.countSilence, State.silenceRuns, State.setLink, runs]

theorem State.countTick_engine (s : State) (l : Line) : s.countTick.engine l = (s.engine l).countWatchdog := by
  rw [State.countTick_eq]
  cases l <;> rfl

theorem State.countTick_lane (s : State) (k : LaneNo) : s.countTick.lane k = (s.lane k).countDecision := by
  simp [State.countTick_eq, State.lane]

/-- No silence timer expires before its count has reached the silence time (R16). -/
theorem State.silence_waits {s : State}
    (short : s.link.state = .live → s.link.inForce.silence ≠ 0 →
      s.link.silenceCount + 1 < s.link.inForce.silence.val * 1000) :
    s.countTick.comes .silence = false := by
  rw [State.countTick_eq]
  by_cases live : s.link.state = .live <;> by_cases on : s.link.inForce.silence = 0 <;>
    simp [State.comes, State.silenceRuns, live, on]
  exact short live on

/-- No decision timer expires that has more than one millisecond left (R177). -/
theorem State.decision_waits {s : State} {k : LaneNo} (long : ∀ d, (s.lane k).decision = some d → 1 < d.ms) :
    s.countTick.comes (.decision k) = false := by
  simp only [State.comes, State.decisionOver, State.countTick_lane, LaneRecord.countDecision]
  cases h : (s.lane k).decision with
  | none => rfl
  | some d =>
    have : 1 < d.ms := long d h
    simp
    omega

/-- No watchdog expires before its count has reached the stuck limit (R57). -/
theorem State.watchdog_waits {s : State} {l : Line}
    (short : (s.engine l).unsettled = true → (s.engine l).watchdog + 1 < (s.lineInForce l).stuckLimit.val) :
    s.countTick.comes (.watchdog l) = false := by
  have inForce : s.countTick.lineInForce l = s.lineInForce l := by rw [State.countTick_eq]; rfl
  simp only [State.comes, State.countTick_engine, Engine.countWatchdog_unsettled, inForce]
  cases unsettled : (s.engine l).unsettled with
  | false => rfl
  | true => simpa [Engine.countWatchdog, unsettled] using short unsettled

/-- No pass begins at a tick that an engine does not wait for (R89). -/
theorem State.pass_waits {s : State} {l : Line} (other : (s.engine l).stage ≠ .tickWait) :
    s.countTick.comes (.pass l) = false := by
  have stage : (s.countTick.engine l).stage = (s.engine l).stage := by
    rw [State.countTick_engine, Engine.countWatchdog]
    split <;> rfl
  simpa [State.comes, stage] using other

/-- A tick at which nothing comes is its counting and the selection. -/
theorem State.tick_of_none {s : State} (h : tickEvents.filter s.countTick.comes = []) :
    s.tick = s.countTick.selectNew := by
  simp [State.tick, h, State.takeEvents]

/-- A tick at which one event comes is its counting and that event. -/
theorem State.tick_of_one {s : State} {e : TickEvent} (h : tickEvents.filter s.countTick.comes = [e]) :
    s.tick = (s.countTick.tickEvent e).selectNew := by
  simp [State.tick, h, State.takeEvents, State.nextPlace, State.countChoice]

/-- An event that comes alone is the command of its expiry (log entry 2). -/
theorem State.tickEvent_of_one {s : State} {e : TickEvent} (alone : tickEvents.filter s.comes = [e]) :
    exec e.command s = .next (s.tickEvent e).selectNew := by
  have comes : s.comes e = true := by
    have : e ∈ tickEvents.filter s.comes := by simp [alone]
    exact (List.mem_filter.mp this).2
  unfold State.tickEvent
  rw [if_pos comes, State.selectNew_selectNew]
  cases e with
  | silence =>
    have runs : s.silenceRuns = true := by simp_all [State.comes]
    simp [TickEvent.command, exec, execSilenceTimerExpiry, finish, runs]
  | decision k => rfl
  | watchdog l =>
    have unsettled : (s.engine l).unsettled = true := by simp_all [State.comes]
    have other : s.comes (.watchdog (otherLine l)) = false := by
      by_contra both
      have : .watchdog (otherLine l) ∈ tickEvents.filter s.comes :=
        List.mem_filter.mpr ⟨by cases l <;> simp [tickEvents, otherLine], by simpa using both⟩
      simp [alone, otherLine_ne] at this
    simp [TickEvent.command, exec, execLineWatchdog, finishLine, finish, unsettled, State.watchdogTick, other]
  | pass l =>
    have waits : (s.engine l).stage = .tickWait := by simpa [State.comes] using comes
    simp [TickEvent.command, exec, execPassBegins, finishLine, finish, waits]

end Sys2Proof.Machine

namespace Sys2Proof.Proofs

open Sys2Proof.Machine

/-- Settles O3: without an expiry a tick is its counting, and an event that comes alone is its command. -/
theorem ticksCountAndExpire : Obligations.TicksCountAndExpire := by
  intro s empty
  have ticks : step s = .next s.tick := by simp [step, empty]
  refine ⟨fun silence decisions passes watchdogs => ?_, fun e alone => ?_⟩
  · have none : tickEvents.filter s.countTick.comes = [] := by
      simp [tickEvents, List.filter_eq_nil_iff, State.silence_waits silence,
        State.watchdog_waits (watchdogs .a (by simp)), State.watchdog_waits (watchdogs .b (by simp)),
        State.pass_waits (passes .a (by simp)), State.pass_waits (passes .b (by simp)),
        fun k => State.decision_waits (decisions k)]
    have engine (e : Engine) :
        e.countWatchdog = { e with watchdog := if e.unsettled then e.watchdog + 1 else e.watchdog } := by
      unfold Engine.countWatchdog
      split <;> rfl
    rw [ticks, State.tick_of_none none, State.countTick_eq, engine, engine]
    rfl
  · rw [ticks, State.tick_of_one alone, State.tickEvent_of_one alone]

end Sys2Proof.Proofs
end

section
/-! SUPPORT. The part right after a hardware reset. -/

namespace Sys2Proof.Machine

/-! ### Readers at reset -/

@[simp] theorem State.reset_lane (k : LaneNo) : State.reset.lane k = {} := by simp [State.lane, State.reset]
@[simp] theorem State.reset_inQueue (k : LaneNo) : State.reset.inQueue k = [] := by simp [State.inQueue, State.reset]
@[simp] theorem State.reset_outQueue (k : LaneNo) : State.reset.outQueue k = [] := by simp [State.outQueue, State.reset]
@[simp] theorem State.reset_unit (n : SlotNo) : State.reset.unit n = {} := by simp [State.unit, State.reset]

@[simp] theorem State.reset_record (n : SlotNo) : State.reset.record n = resetUnitRecord := by
  simp [State.record, State.reset, resetTables]

@[simp] theorem State.reset_staged (n : SlotNo) : State.reset.staged n = none := by
  simp [State.staged, State.reset, resetTables]

@[simp] theorem State.reset_effective (n : SlotNo) : State.reset.effective n = resetUnitRecord := by
  simp [State.effective]

@[simp] theorem State.reset_engine (l : Line) : State.reset.engine l = resetEngine resetTune := by cases l <;> rfl

/-! ### The invariants at reset -/

theorem State.reset_penaltyOk : State.reset.PenaltyOk := by
  simp [State.PenaltyOk, State.reset, resetLinkPort]

theorem State.reset_queuesOk : State.reset.QueuesOk := by
  refine ⟨fun k => ?_, fun q => ?_, ?_⟩
  · simp [State.inOccupancy, State.outOccupancy]
  · simp [State.reset, resetTables]
  · decide

theorem State.reset_tableOk : State.reset.TableOk := by
  have disabled : resetUnitRecord.enabled = false := rfl
  refine ⟨fun m n _ => ⟨?_, ?_⟩, ?_, ?_, ?_⟩
  · simp [sameAddress, disabled]
  · simp [State.bothRecords, sameRole, disabled]
  · simp [State.lineSlots, disabled]
  · simp [State.lineSlots, disabled]
  · simp

theorem resetEngine_workOk (base : Tune) : (resetEngine base).WorkOk := by
  simp [Engine.WorkOk, resetEngine, XState.active, Config.conflictLimit]

/-- Nothing but the notice set has something to send after a reset (R20, R24). -/
theorem State.reset_candidates : State.reset.candidates = [.notices] := by decide +kernel

end Sys2Proof.Machine

namespace Sys2Proof.Proofs

open Sys2Proof.Machine

/-- Settles O10: every reader has its reset value, at which each invariant is plain. -/
theorem resetMeetsTheInvariants : Obligations.ResetMeetsTheInvariants := by
  refine ⟨State.reset_penaltyOk, ?_, State.reset_queuesOk, fun k => ?_, fun n => ?_, ?_, State.reset_tableOk,
    fun l _ => ?_⟩
  · simp [State.reset, resetLinkPort]
  · simp [LaneRecord.Ok]
  · simp [UnitRun.Ok, Directives.Ok, Config.maxAttempts, resetUnitRecord]
  · simp only [State.SerialsOk, State.reset_unit, State.reset_outQueue]
    exact ⟨fun _ d => by cases d <;> simp [Directives.get], by simp⟩
  · rw [State.reset_engine]
    exact ⟨resetEngine_workOk _, by simp [SearchOk, Engine.ranges, resetEngine]⟩

/-- Settles O11: the one candidate at reset is the notice set, which holds RESTARTED. -/
theorem hardwareResetThenRestartedNotice : Obligations.HardwareResetThenRestartedNotice := by
  refine ⟨fun s => ?_, by decide +kernel⟩
  have one : s.hardwareReset.candidates = [.notices] := by
    rw [← State.reset_candidates]
    exact State.candidates_congr rfl rfl rfl rfl rfl
  have won : s.hardwareReset.selectByRank = s.hardwareReset.select .notices := by
    show s.hardwareReset.selectWinner = _
    simp [State.selectWinner, one, State.winner]
  show Host.Outcome.next s.hardwareReset.selectByRank = _
  rw [won]
  rfl

end Sys2Proof.Proofs
end

section
/-! SUPPORT. The receivers of the counter link. -/

namespace Sys2Proof.Machine

/-! ### One character at the frame receiver -/

/-- A character with a good stop bit, taken by a receiver that does not wait for mark (R2, R6). -/
theorem exec_linkCharacter_good {s : State} (b : Byte) (h : s.link.rx ≠ .waitMark) :
    exec (.linkCharacter b true) s = .next (s.linkChar (some b)).selectNew := by
  simp [exec, execLinkCharacter, finish, h]

/-- A character with a framing error, taken by a receiver that does not wait for mark (R2, R6). -/
theorem exec_linkCharacter_broken {s : State} (b : Byte) (h : s.link.rx ≠ .waitMark) :
    exec (.linkCharacter b false) s = .next (s.linkChar none).selectNew := by
  simp [exec, execLinkCharacter, finish, h]

/-- A character that ends no frame moves the receivers only. -/
theorem State.linkChar_of_none {s : State} {ch : Option Byte}
    (h : (frameStep ⟨s.link.frameRx, s.link.content⟩ ch).ended = none) :
    s.linkChar ch =
      { s with
        link := { s.link with
          rx := if ch.isSome then .atRest else .waitMark
          frameRx := (frameStep ⟨s.link.frameRx, s.link.content⟩ ch).after.state
          content := (frameStep ⟨s.link.frameRx, s.link.content⟩ ch).after.content } } := by
  simp [State.linkChar, h, State.frameEnded, State.setLink]

/-- A character that ends a frame badly moves the receivers and is counted (R12). -/
theorem State.linkChar_of_failure {s : State} {ch : Option Byte} {failure : RxFailure}
    (h : (frameStep ⟨s.link.frameRx, s.link.content⟩ ch).ended = some (.inl failure)) :
    s.linkChar ch =
      { s with
        link := { s.link with
          rx := if ch.isSome then .atRest else .waitMark
          frameRx := (frameStep ⟨s.link.frameRx, s.link.content⟩ ch).after.state
          content := (frameStep ⟨s.link.frameRx, s.link.content⟩ ch).after.content
          counters := s.link.counters.countFailure failure } } := by
  simp [State.linkChar, h, State.frameEnded, State.setLink]

/-- A plain character is a content byte in COLLECT (R6). -/
theorem frameStep_plain (content : List Byte) {b : Byte} (plain : b ≠ delimiter) (unescaped : b ≠ escape) :
    frameStep ⟨.collect, content⟩ (some b) = storeContent content b := by
  simp [frameStep, plain, unescaped]

/-- An escaped delimiter or escape is a content byte in ESCAPED (R6). -/
theorem frameStep_escaped (content : List Byte) {b : Byte} (two : b = delimiter ∨ b = escape) :
    frameStep ⟨.escaped, content⟩ (some (b ^^^ 0x20)) = storeContent content b := by
  rcases two with rfl | rfl <;> rfl

/-- A delimiter in ESCAPED aborts the frame (R7). -/
theorem frameStep_abort (content : List Byte) :
    frameStep ⟨.escaped, content⟩ (some delimiter) = ⟨⟨.collect, []⟩, some (.inl .abort)⟩ := rfl

/-- Any other character in ESCAPED is a bad escape (R7). -/
theorem frameStep_badEscape (content : List Byte) {b : Byte} (plain : b ≠ delimiter) (notF5 : b ≠ 0xF5) (notF6 : b ≠ 0xF6) :
    frameStep ⟨.escaped, content⟩ (some b) = ⟨⟨.skip, []⟩, some (.inl .badEscape)⟩ := by
  show (if b = 0xF5 then _ else if b = 0xF6 then _ else if b = delimiter then _ else _) = _
  rw [if_neg notF5, if_neg notF6, if_neg plain]

/-- A content byte stored, or the frame ended as LONG (R6, R7). -/
theorem storeContent_cases (content : List Byte) (b : Byte) :
    (content.length < 245 ∧ storeContent content b = ⟨⟨.collect, content ++ [b]⟩, none⟩) ∨
      (¬content.length < 245 ∧ storeContent content b = ⟨⟨.skip, []⟩, some (.inl .long)⟩) := by
  by_cases h : content.length < 245 <;> simp [storeContent, Config.maxContent, h]

/-- A character that gives a content byte stores it, or ends the frame as LONG (R6, R7). -/
theorem State.linkChar_of_store {s : State} {b c : Byte}
    (h : frameStep ⟨s.link.frameRx, s.link.content⟩ (some c) = storeContent s.link.content b) :
    s.linkChar (some c) =
      { s with
        link := { (if s.link.content.length < 245 then
            { s.link with frameRx := .collect, content := s.link.content ++ [b] }
          else
            { s.link with
              frameRx := .skip, content := []
              counters := { s.link.counters with rxLong := bump s.link.counters.rxLong } }) with rx := .atRest } } := by
  rcases storeContent_cases s.link.content b with ⟨room, stored⟩ | ⟨full, stored⟩ <;> rw [stored] at h
  · rw [State.linkChar_of_none (by rw [h]), h]
    simp [room]
  · rw [State.linkChar_of_failure (failure := .long) (by rw [h]), h]
    simp [full, LinkCounters.countFailure]

end Sys2Proof.Machine

namespace Sys2Proof.Proofs

open Sys2Proof.Machine

/-- Settles O12, state by state of the two receivers. -/
theorem linkReceiverAndFrameReceiver : Obligations.LinkReceiverAndFrameReceiver := by
  intro s accepted stop b data
  refine ⟨fun rest => ⟨?_, ?_⟩, fun busy => ?_, fun waits => ⟨?_, ?_⟩, fun other => ?_, fun listens => ?_⟩
  · simp [exec, execLinkStartEdge, finish, rest, State.setLink]
  · simp [exec, execLinkStartEdge, finish, rest, State.setLink]
  · simp [exec, execLinkStartEdge, finish, busy]
  · simp [exec, execLrxdAtMark, finish, waits, State.setLink]
  · simp [exec, execLinkCharacter, finish, waits]
  · simp [exec, execLrxdAtMark, finish, other]
  · have good := fun c => exec_linkCharacter_good (s := s) c listens
    have broken := fun c => exec_linkCharacter_broken (s := s) c listens
    refine ⟨fun idle => ⟨?_, ?_, fun plain => ?_⟩, fun collect => ⟨fun empty => ?_, ?_, ?_, fun plain unescaped => ?_⟩,
      fun escaped => ⟨fun two => ?_, ?_, ?_, fun plain notF5 notF6 => ?_⟩⟩
    · rcases idle with state | state <;> rw [good, State.linkChar_of_none] <;> simp [frameStep, state]
    · rcases idle with state | state <;> rw [broken, State.linkChar_of_none] <;> simp [frameStep, state]
    · rcases idle with state | state <;> rw [good, State.linkChar_of_none] <;> simp [frameStep, state, plain]
    · rw [good, State.linkChar_of_none] <;> simp [frameStep, collect, empty]
    · have other : escape ≠ delimiter := by decide
      rw [good, State.linkChar_of_none] <;> simp [frameStep, collect, other]
    · rw [broken, State.linkChar_of_failure (failure := .badChar)] <;>
        simp [frameStep, collect, LinkCounters.countFailure]
    · have stored : frameStep ⟨s.link.frameRx, s.link.content⟩ (some b) = storeContent s.link.content b := by
        rw [collect, frameStep_plain _ plain unescaped]
      rw [good, State.linkChar_of_store stored]
      simp [collect]
    · have stored : frameStep ⟨s.link.frameRx, s.link.content⟩ (some (b ^^^ 0x20)) = storeContent s.link.content b := by
        rw [escaped, frameStep_escaped _ two]
      rw [good, State.linkChar_of_store stored]
    · rw [good, State.linkChar_of_failure (failure := .abort)] <;>
        simp [frameStep_abort, escaped, LinkCounters.countFailure]
    · rw [broken, State.linkChar_of_failure (failure := .badChar)] <;>
        simp [frameStep, escaped, LinkCounters.countFailure]
    · rw [good, State.linkChar_of_failure (failure := .badEscape)] <;>
        simp [frameStep_badEscape _ plain notF5 notF6, escaped, LinkCounters.countFailure]

end Sys2Proof.Proofs
end

section
/-! SUPPORT. The closing delimiter of a received frame. -/

namespace Sys2Proof.Machine

/-! ### Two-byte numbers (R182) -/

@[simp] theorem hiByte_word16 (hi lo : Byte) : hiByte (word16 hi lo) = hi := by
  unfold hiByte word16
  ext i h
  rw [BitVec.getElem_extractLsb', BitVec.getLsbD_append]
  simp [h]

@[simp] theorem loByte_word16 (hi lo : Byte) : loByte (word16 hi lo) = lo := by
  unfold loByte word16
  ext i h
  rw [BitVec.getElem_extractLsb', BitVec.getLsbD_append]
  simp [h]

@[simp] theorem word16_hiByte_loByte (w : Word16) : word16 (hiByte w) (loByte w) = w := by
  unfold hiByte loByte word16
  apply BitVec.eq_of_getLsbD_eq
  intro i h
  rw [BitVec.getLsbD_append]
  simp
  grind

theorem word16_eq_iff (w : Word16) (hi lo : Byte) : w = word16 hi lo ↔ hiByte w = hi ∧ loByte w = lo := by
  constructor
  · rintro rfl
    exact ⟨hiByte_word16 hi lo, loByte_word16 hi lo⟩
  · rintro ⟨rfl, rfl⟩
    exact (word16_hiByte_loByte w).symm

/-! ### Closing checks (R8) -/

/-- Content ends with its own CRC exactly where its last two bytes spell it (R3). -/
theorem withCrc_take_eq_iff {content : List Byte} (long : 2 ≤ content.length) :
    withCrc (content.take (content.length - 2)) = content ↔
      crc (content.take (content.length - 2)) =
        word16 (content.getD (content.length - 2) 0) (content.getD (content.length - 1) 0) := by
  have tail : content.drop (content.length - 2) =
      [content.getD (content.length - 2) 0, content.getD (content.length - 1) 0] := by
    apply List.ext_getElem
    · simp; omega
    · intro i hi hj
      have : i = 0 ∨ i = 1 := by simp at hj; omega
      rcases this with rfl | rfl <;> simp <;> grind
  rw [word16_eq_iff]
  conv_lhs => rhs; rw [← List.take_append_drop (content.length - 2) content, tail]
  simp [withCrc]

/-- The closing checks, each read off the content by place (R8). -/
theorem closingChecks_eq (c : List Byte) :
    closingChecks c =
      if c.length < 5 then .inl .short
      else if crc (c.take (c.length - 2)) ≠ word16 (c.getD (c.length - 2) 0) (c.getD (c.length - 1) 0) then
        .inl .badCheck
      else if (c.getD 2 0).toNat ≠ c.length - 5 then .inl .badLength
      else addressed (c.getD 0 0) (c.getD 1 0) ((c.drop 3).take (c.length - 5)) := by
  by_cases short : c.length < 5
  · simp [closingChecks, short]
  · have check := withCrc_take_eq_iff (content := c) (by omega)
    match c with
    | [] | [_] | [_, _] => simp at short
    | node :: kind :: len :: tail =>
      simp only [closingChecks, if_neg short, ne_eq, check]
      rfl

/-- The delimiter that closes a frame in COLLECT ends it with its closing checks (R6). -/
theorem frameStep_closing {content : List Byte} (some : content ≠ []) :
    frameStep ⟨.collect, content⟩ (.some delimiter) = ⟨⟨.collect, []⟩, .some (closingChecks content)⟩ := by
  simp [frameStep, some]

/-- A frame that fails a closing check is counted, and nothing else happens. -/
theorem exec_delimiter_failure {s : State} {failure : RxFailure} (listens : s.link.rx ≠ .waitMark)
    (collect : s.link.frameRx = .collect) (some : s.link.content ≠ [])
    (fails : closingChecks s.link.content = .inl failure) :
    exec (.linkCharacter delimiter true) s =
      .next (State.selectNew
        { s with
          link := { s.link with
            rx := .atRest, frameRx := .collect, content := [], counters := s.link.counters.countFailure failure } }) := by
  rw [exec_linkCharacter_good _ listens, State.linkChar_of_failure (failure := failure)] <;>
    simp [collect, frameStep_closing some, fails]

/-- A frame that passes every closing check is dispatched, and one selection follows. -/
theorem exec_delimiter_good {s : State} {good : GoodFrame} (listens : s.link.rx ≠ .waitMark)
    (collect : s.link.frameRx = .collect) (some : s.link.content ≠ [])
    (passes : closingChecks s.link.content = .inr good) :
    exec (.linkCharacter delimiter true) s = .next (s.frameClosed.dispatch good).selectByRank := by
  have closed : s.linkChar (.some delimiter) = (s.frameClosed.dispatch good).selectByRank := by
    simp [State.linkChar, collect, frameStep_closing some, passes, State.frameEnded, State.frameClosed]
  rw [exec_linkCharacter_good _ listens, closed, State.selectNew_selectByRank]

end Sys2Proof.Machine

namespace Sys2Proof.Proofs

open Sys2Proof.Machine

/-- Settles O13, check by check. -/
theorem closingChecksInOrder : Obligations.ClosingChecksInOrder := by
  intro s listens collect some _ c n node kind body k failed
  have checks := closingChecks_eq c
  have fails (failure : RxFailure) (h : closingChecks c = .inl failure) :
      exec (.linkCharacter delimiter true) s = failed (k.countFailure failure) :=
    exec_delimiter_failure listens collect some h
  have passes (good : GoodFrame) (h : closingChecks c = .inr good) :
      exec (.linkCharacter delimiter true) s = .next (s.frameClosed.dispatch good).selectByRank :=
    exec_delimiter_good listens collect some h
  by_cases short : n < 5
  · rw [if_pos short] at checks ⊢
    exact fails _ checks
  rw [if_neg short] at checks ⊢
  split at checks
  · next bad => exact (fails _ checks).trans (if_pos bad).symm
  next crcOk =>
  rw [if_neg crcOk]
  split at checks
  · next bad => exact (fails _ checks).trans (if_pos bad).symm
  next lenOk =>
  rw [if_neg lenOk]
  unfold addressed at checks
  split at checks
  · next lane =>
    rw [dif_pos lane]
    split at checks
    · next commands => exact (passes _ checks).trans (if_pos commands).symm
    · next other => exact (fails _ checks).trans (if_neg other).symm
  next notLane =>
  rw [dif_neg notLane]
  have address : c.getD 0 0 = 0x0F ↔ node = 0x0F := by
    simp only [node, ← BitVec.toNat_inj]
    rfl
  split at checks
  · next part =>
    rw [if_pos (address.mp part)]
    split at checks
    · next request => exact (passes _ checks).trans (if_pos request).symm
    · next other => exact (fails _ checks).trans (if_neg other).symm
  · next unknown => exact (fails _ checks).trans (if_neg (unknown ∘ address.mpr)).symm

end Sys2Proof.Proofs
end

section
/-! SUPPORT. Frames on the wire: escaping and its undoing by the frame receiver. -/

namespace Sys2Proof.Machine

@[simp] theorem toNat_byteOf {n : Nat} (small : n < 256) : (byteOf n).toNat = n := by
  simp [byteOf, Nat.mod_eq_of_lt small]

/-! ### Escaping (R4, R6) -/

/-- No escaped byte puts a delimiter on the wire (R4). -/
theorem delimiter_notMem_escapeByte (b : Byte) : delimiter ∉ escapeByte b := by
  unfold escapeByte
  split
  · next special => rcases special with rfl | rfl <;> decide
  · next plain => simpa [eq_comm] using fun h => plain (.inl h)

theorem collectRun_cons (r : FrameReceiver) (b : Byte) (bytes : List Byte) :
    collectRun r (b :: bytes) = collectRun (frameStep r (some b)).after bytes := rfl

theorem collectRun_append (r : FrameReceiver) (xs ys : List Byte) :
    collectRun r (xs ++ ys) = collectRun (collectRun r xs) ys := List.foldl_append ..

/-- The characters of one content byte store that byte while there is room (R6). -/
theorem collectRun_escapeByte {content : List Byte} (room : content.length < 245) (b : Byte) :
    collectRun ⟨.collect, content⟩ (escapeByte b) = ⟨.collect, content ++ [b]⟩ := by
  have stored : storeContent content b = ⟨⟨.collect, content ++ [b]⟩, none⟩ := by
    simp [storeContent, Config.maxContent, room]
  unfold escapeByte
  split
  · next special =>
    have escaped : (frameStep ⟨.collect, content⟩ (some escape)).after = ⟨.escaped, content⟩ := rfl
    rw [collectRun_cons, escaped, collectRun_cons, frameStep_escaped _ special, stored]
    rfl
  · next plain =>
    rw [collectRun_cons, frameStep_plain _ (fun h => plain (.inl h)) (fun h => plain (.inr h)), stored]
    rfl

/-- The characters of a run of content bytes store that run while there is room (R6). -/
theorem collectRun_flatMap_escapeByte (bytes content : List Byte) (room : content.length + bytes.length ≤ 245) :
    collectRun ⟨.collect, content⟩ (bytes.flatMap escapeByte) = ⟨.collect, content ++ bytes⟩ := by
  induction bytes generalizing content with
  | nil => simp [collectRun]
  | cons b rest ih =>
    have here : content.length < 245 := by simp at room; omega
    have later : (content ++ [b]).length + rest.length ≤ 245 := by simp at room ⊢; omega
    rw [List.flatMap_cons, collectRun_append, collectRun_escapeByte here, ih _ later]
    simp

/-- A delimiter opens a frame from every state but ESCAPED (R5, R6). -/
theorem frameStep_opening {start : FrameRx} (h : start ≠ .escaped) :
    (frameStep ⟨start, []⟩ (some delimiter)).after = ⟨.collect, []⟩ := by
  cases start <;> simp_all [frameStep]

/-! ### The closing checks of a frame that was sent (R8) -/

theorem Frame.length_content (f : Frame) : f.content.length = f.body.length + 5 := by
  simp [Frame.content, withCrc, Frame.header]

/-- A frame that was sent passes the checks on length, CRC and LEN (R3, R4, R8). -/
theorem closingChecks_content (f : Frame) (h : f.body.length ≤ 240) :
    closingChecks f.content = addressed f.node f.kind.code f.body := by
  have header : f.content.take (f.content.length - 2) = f.header := by
    simp [Frame.content, withCrc]
  have len : (byteOf f.body.length).toNat = f.body.length := toNat_byteOf (by omega)
  have crcOk : withCrc (f.content.take (f.content.length - 2)) = f.content := by rw [header]; rfl
  unfold closingChecks
  rw [if_neg (by rw [Frame.length_content]; omega), if_neg (by simp [crcOk]), Frame.length_content]
  simp [Frame.content, withCrc, Frame.header, len]

end Sys2Proof.Machine

namespace Sys2Proof.Proofs

open Sys2Proof.Machine

/-- Settles O14, by induction on the content bytes. -/
theorem framesSurviveTheWire : Obligations.FramesSurviveTheWire := by
  intro f start short open'
  have room : ([] : List Byte).length + f.content.length ≤ 245 := by
    rw [Frame.length_content]
    simp
    omega
  refine ⟨rfl, ?_, ?_, ?_⟩
  · simp [delimiter_notMem_escapeByte]
  · rw [collectRun_cons, frameStep_opening open', collectRun_flatMap_escapeByte _ _ room]
    rfl
  · rw [frameStep_closing, closingChecks_content f short]
    exact List.ne_nil_of_length_pos (by rw [Frame.length_content]; omega)

end Sys2Proof.Proofs
end

section
/-! SUPPORT. What a good frame does before it is dispatched, and what a sent frame does at its closing delimiter. -/

namespace Sys2Proof.Machine

/-! ### Good frames (R9) -/

/-- An idempotent change of every lane record in a list, made one after another, is made at once. -/
theorem State.foldl_setLane (f : LaneRecord → LaneRecord) (idem : ∀ r, f (f r) = f r) (ks : List LaneNo) (s : State) :
    ks.foldl (fun s k => s.setLane k (f (s.lane k))) s =
      { s with lanes := Vector.ofFn fun k => if k ∈ ks then f (s.lane k) else s.lane k } := by
  induction ks generalizing s with
  | nil => simp [State.lane]
  | cons k rest ih =>
    rw [List.foldl_cons, ih]
    show State.mk .. = State.mk ..
    congr 1
    ext1
    rename_i i hi
    simp only [Vector.getElem_ofFn, List.mem_cons, State.lane_setLane]
    by_cases same : (⟨i, hi⟩ : LaneNo) = k <;> by_cases later : (⟨i, hi⟩ : LaneNo) ∈ rest <;> simp_all

/-- Clearing the standby flags changes those flags and nothing else (R9). -/
theorem State.clearStandby_eq (s : State) :
    s.clearStandby = { s with lanes := s.lanes.map fun r => { r with standby := false } } := by
  rw [State.clearStandby, State.foldl_setLane (fun r => { r with standby := false }) (fun _ => rfl)]
  show State.mk .. = State.mk ..
  congr 1
  ext1
  simp [allLanes, State.lane]

/-- The part once a QUIET link is LIVE again: the standby flags are clear and LINK_RESUMED is raised (R9, R17). -/
def State.resumed (s : State) : State :=
  { s with
    link := { s.link with state := .live }
    notices := s.notices.set 4 (some (raisedEntry s.notices[4] 0 0))
    lanes := s.lanes.map fun r => { r with standby := false } }

/-- On a LIVE link R9's first three steps count the frame and restart the silence timer. -/
theorem State.goodFrame_live {s : State} (live : s.link.state = .live) : s.frameClosed.goodFrame = s.framed := by
  simp [State.goodFrame, State.frameClosed, State.setLink, State.framed, LinkPort.goodFrame, live]

/-- On a QUIET link they do the same once the link has resumed. -/
theorem State.goodFrame_quiet {s : State} (quiet : s.link.state = .quiet) :
    s.frameClosed.goodFrame = s.resumed.frameClosed.goodFrame := by
  have resumes : s.frameClosed.goodFrame = (s.frameClosed.setLink s.frameClosed.link.goodFrame).resume := by
    simp [State.goodFrame, State.frameClosed, quiet]
  rw [State.goodFrame_live (s := s.resumed) rfl, resumes, State.resume, State.clearStandby_eq]
  rfl

/-- A REQUEST frame is R9's first three steps, the latch, and one selection. -/
theorem exec_request (s : State) (body : List Byte) :
    exec (.request body) s = .next (s.frameClosed.goodFrame.latchRequest body).selectByRank := rfl

/-- A LANE_COMMANDS frame is R9's first three steps, the parsing of its body, and one selection. -/
theorem exec_laneCommands (s : State) (k : LaneNo) (body : List Byte) :
    exec (.laneCommands k body) s =
      .next (s.frameClosed.goodFrame.parseBody k body.length 1 false body).selectByRank := rfl

/-- The row of a lane command performs it at position 1 and goes on with the rest of the body (R134). -/
theorem exec_row (s : State) (k : LaneNo) (cmd : LaneCmd) (rest : List Byte) :
    exec (cmd.row k rest) s =
      .next (State.selectByRank
        ((s.frameClosed.goodFrame.perform k 1 false cmd).after.parseBody k rest.length 2
          (s.frameClosed.goodFrame.perform k 1 false cmd).lost rest)) := by
  cases cmd <;> rfl

/-! ### Closing delimiters (R13, R19) -/

/-- The delimiter that closes a sent frame: the frame is counted, its effects are carried out, the next is selected. -/
theorem exec_closingDelimiter_sending {s : State} {f : Frame} (h : s.link.tx = .sending f) :
    exec .closingDelimiter s =
      .next (State.selectByRank (State.carryOut
        { s with
          link := { s.link with
            tx := .idle, counters := { s.link.counters with txFrames := bump s.link.counters.txFrames } } } f.brings)) := by
  have sent : exec .closingDelimiter s = .next (s.frameSent f).selectNew := by
    simp [exec, execClosingDelimiter, finish, h]
  rw [sent, State.frameSent, State.selectNew_selectByRank]
  rfl

/-- Only the reply to an executed SET_LINK or SOFT_RESET brings anything about (R19, R21). -/
theorem replyBrings_nothing {body : List Byte}
    (h : (body.head? ≠ some 0x0A ∧ body.head? ≠ some 0x0F) ∨ body.getD 1 0 = 3) : replyBrings body = .nothing := by
  unfold replyBrings
  split
  · next code status p m t =>
    rw [if_neg]
    rintro ⟨rfl, done⟩
    rcases h with ⟨other, _⟩ | refused
    · exact other rfl
    · rw [show status = 3 from refused] at done
      exact absurd done (by decide)
  · next code status =>
    rw [if_neg]
    rintro ⟨rfl, done⟩
    rcases h with ⟨_, other⟩ | refused
    · exact other rfl
    · rw [show status = 3 from refused] at done
      exact absurd done (by decide)
  · rfl

theorem Frame.brings_nothing {f : Frame}
    (h : f.kind ≠ .reply ∨ (f.body.head? ≠ some 0x0A ∧ f.body.head? ≠ some 0x0F) ∨ f.body.getD 1 0 = 3) :
    f.brings = .nothing := by
  unfold Frame.brings
  cases kind : f.kind with
  | reply => exact replyBrings_nothing (h.resolve_left (by simp [kind]))
  | _ => rfl

/-- Link settings read back from the bytes that carry them (section 11.6). -/
theorem LinkSettings.ofBytes_bytes (r : LinkSettings) : LinkSettings.ofBytes r.bytes = .inr r := by
  obtain ⟨p, m, silence⟩ := r
  have hp : (byteOf p.val).toNat = p.val := toNat_byteOf (by omega)
  have hm : (byteOf m.val).toNat = m.val := toNat_byteOf (by omega)
  have hs : (byteOf silence.val).toNat = silence.val := toNat_byteOf (by omega)
  simp [LinkSettings.bytes, LinkSettings.ofBytes, below, rateM, silenceField, FieldCheck.andThen, hp, hm, hs]

/-- The reply to an executed SET_LINK brings its settings into force (R19). -/
theorem replyBrings_linkSettings {status : Byte} (done : status = 0 ∨ status = 1) (new : LinkSettings) :
    replyBrings (0x0A :: status :: new.bytes) = .linkSettings new := by
  have read := new.ofBytes_bytes
  rw [LinkSettings.bytes] at read ⊢
  show (if (0x0A : Byte) = 0x0A ∧ (status = 0 ∨ status = 1) then _ else _) = _
  rw [if_pos ⟨rfl, done⟩, read]

end Sys2Proof.Machine

namespace Sys2Proof.Proofs

open Sys2Proof.Machine

/-- Settles O15. -/
theorem requestsAndGoodFrames : Obligations.RequestsAndGoodFrames := by
  intro s k body rest cmd
  refine ⟨fun live => ⟨fun empty => ?_, fun occupied => ?_⟩, fun quiet => ?_⟩
  · have latch : s.framed.link.latch = none := empty
    rw [exec_request, State.goodFrame_live live, State.latchRequest, latch]
    rfl
  · obtain ⟨old, held⟩ := Option.ne_none_iff_exists'.mp occupied
    have latch : s.framed.link.latch = some old := held
    rw [exec_request, State.goodFrame_live live, State.latchRequest, latch]
    rfl
  · have same : s.frameClosed.goodFrame = s.resumed.frameClosed.goodFrame := State.goodFrame_quiet quiet
    refine ⟨?_, ?_, ?_⟩
    · rw [exec_request, exec_request, same]
      rfl
    · rw [exec_laneCommands, exec_laneCommands, same]
      rfl
    · rw [exec_row, exec_row, same]
      rfl

/-- Settles O16. -/
theorem closingDelimiters : Obligations.ClosingDelimiters := by
  intro s f status new
  refine ⟨fun sending plain => ?_, fun idle => ⟨?_, ?_⟩, fun sending => ?_, fun done sending => ?_⟩
  · rw [exec_closingDelimiter_sending sending, Frame.brings_nothing plain]
    rfl
  · simp [exec, execClosingDelimiter, finish, idle]
  · simp [LinkPort.output, idle]
  · simp only [LinkPort.output, sending]
    rfl
  · intro counted
    have brings := replyBrings_linkSettings done new
    rw [exec_closingDelimiter_sending sending]
    show Host.Outcome.next (State.selectByRank (State.carryOut _ (replyBrings (0x0A :: status :: new.bytes)))) = _
    rw [brings]
    simp only [State.carryOut, LinkPort.takeSettings]
    split <;> rfl

end Sys2Proof.Proofs
end

section
/-! SUPPORT. The soft reset. -/

namespace Sys2Proof.Machine

/-! ### Every staged record applied (R41) -/

/-- Applying a slot's staged record makes its effective record the current one; besides, only runtime records change. -/
theorem State.applyAnyStaged_eq (s : State) (n : SlotNo) :
    ∃ units, s.applyAnyStaged n =
      { s with
        units := units
        tables := { s.tables with units := s.tables.units.set n ⟨s.effective n, none⟩ } } := by
  unfold State.applyAnyStaged
  cases h : s.staged n with
  | none =>
    have same : (⟨s.effective n, none⟩ : SlotEntry) = s.tables.units[n] := by
      simp only [State.effective, h, Option.getD_none]
      rw [← h]
      rfl
    exact ⟨s.units, by rw [same]; simp⟩
  | some r =>
    have effective : s.effective n = r := by simp [State.effective, h]
    exact ⟨_, by rw [effective]; rfl⟩

/-- Applying the staged records of a list of slots makes their effective records the current ones. -/
theorem State.foldl_applyAnyStaged (ns : List SlotNo) (s : State) :
    ∃ units, ns.foldl State.applyAnyStaged s =
      { s with
        units := units
        tables := { s.tables with
          units := Vector.ofFn fun n => if n ∈ ns then ⟨s.effective n, none⟩ else s.tables.units[n] } } := by
  induction ns generalizing s with
  | nil => exact ⟨s.units, by simp⟩
  | cons n rest ih =>
    obtain ⟨units, first⟩ := s.applyAnyStaged_eq n
    obtain ⟨units', later⟩ := ih (s.applyAnyStaged n)
    have entry (m : SlotNo) :
        (s.applyAnyStaged n).tables.units[m] = if m = n then ⟨s.effective n, none⟩ else s.tables.units[m] := by
      rw [first]
      by_cases same : m = n
      · simp [same]
      · simp [same, Vector.getElem_set_ne, Fin.val_ne_of_ne (Ne.symm same)]
    have effective (m : SlotNo) : (s.applyAnyStaged n).effective m = s.effective m := by
      rw [State.effective, State.staged, State.record, entry]
      by_cases same : m = n
      · simp [same]
      · rw [if_neg same]
        rfl
    have slots :
        (Vector.ofFn fun m =>
          if m ∈ rest then (⟨(s.applyAnyStaged n).effective m, none⟩ : SlotEntry)
          else (s.applyAnyStaged n).tables.units[m]) =
        Vector.ofFn fun m => if m ∈ n :: rest then ⟨s.effective m, none⟩ else s.tables.units[m] := by
      congr 1
      funext m
      rw [effective, entry]
      by_cases same : m = n <;> by_cases more : m ∈ rest <;> simp [same, more]
    exact ⟨units', by rw [List.foldl_cons, later, slots, first]⟩

/-- Every effective record is the current one after a soft reset, and none is staged. -/
theorem State.applyEveryStaged_eq (s : State) :
    ∃ units, s.applyEveryStaged =
      { s with
        units := units
        tables := { s.tables with units := Vector.ofFn fun n => ⟨s.effective n, none⟩ } } := by
  obtain ⟨units, h⟩ := State.foldl_applyAnyStaged allSlots s
  exact ⟨units, by rw [State.applyEveryStaged, h]; simp [allSlots]⟩

/-- What a soft reset resets and what it keeps (R21, R41, R60, R101, R103, R131, R132). -/
theorem State.softReset_eq (s : State) :
    s.softReset =
      { s with
        link := s.link.softReset
        tables := { s.tables with units := Vector.ofFn fun n => ⟨s.effective n, none⟩ }
        reply := none
        softPending := false
        notices := restartedNotices
        inbound := Vector.replicate 8 []
        outbound := Vector.replicate 8 []
        lanes := Vector.replicate 8 {}
        units := Vector.ofFn fun n => resetRun (s.effective n)
        engines := ⟨resetEngine s.tables.lines.a.inForce.base, resetEngine s.tables.lines.b.inForce.base⟩ } := by
  obtain ⟨units, applied⟩ := s.applyEveryStaged_eq
  rw [State.softReset, applied]
  simp [State.record, State.lineInForce, PerLine.get]

/-- Nothing but the notice set has something to send after a soft reset (R21, R24). -/
theorem State.softReset_candidates (s : State) : s.softReset.candidates = [.notices] := by
  rw [← State.reset_candidates, State.softReset_eq]
  exact State.candidates_congr rfl rfl rfl rfl rfl

/-- Where one source alone is a candidate on an IDLE transmitter, a selection by rank takes it. -/
theorem State.selectByRank_of_one {s : State} {src : Source} (idle : s.link.tx = .idle) (one : s.candidates = [src]) :
    s.selectByRank = s.select src := by
  simp [State.selectByRank, idle, State.selectWinner, one, State.winner]

end Sys2Proof.Machine

namespace Sys2Proof.Proofs

open Sys2Proof.Machine

/-- Settles O17. -/
theorem softResetIsCarriedOut : Obligations.SoftResetIsCarriedOut := by
  intro s sending
  let sent : State :=
    { s with
      link := { s.link with
        tx := .idle, counters := { s.link.counters with txFrames := bump s.link.counters.txFrames } } }
  let t : State :=
    { s with
      link := { resetLinkPort with
        rx := s.link.rx, inForce := s.link.inForce, tx := .sending ⟨0x0F, .notice, [1, 0, 0, 1]⟩ }
      tables := { s.tables with units := Vector.ofFn fun n => ⟨s.effective n, none⟩ }
      reply := none
      softPending := false
      notices := Vector.replicate 5 none
      inbound := Vector.replicate 8 []
      outbound := Vector.replicate 8 []
      lanes := Vector.replicate 8 {}
      units := Vector.ofFn fun n => resetRun (s.effective n)
      engines := ⟨resetEngine s.tables.lines.a.inForce.base, resetEngine s.tables.lines.b.inForce.base⟩ }
  have selected : sent.softReset.selectByRank = t := by
    rw [State.selectByRank_of_one (by rw [State.softReset_eq]; rfl) sent.softReset_candidates, State.softReset_eq]
    rfl
  have carried : exec .closingDelimiter s = .next t := by
    rw [exec_closingDelimiter_sending sending, ← selected]
    rfl
  refine ⟨t, carried, rfl, fun n => ⟨?_, ?_, ?_⟩, rfl, rfl, rfl, rfl, fun k => ⟨?_, ?_, ?_⟩, rfl, rfl, rfl, rfl⟩
  · simp [t, State.record]
  · simp [t, State.staged]
  · simp [t, State.unit, resetRun]
  · simp [t, State.lane]
  · simp [t, State.inQueue]
  · simp [t, State.outQueue]

end Sys2Proof.Proofs
end

section
/-! SUPPORT. The order of a selection by rank, and what a selected source gives up. -/

namespace Sys2Proof.Machine

/-! ### The winner (R13, R14) -/

/-- One source leads another: a lower rank, or the same rank and no later place (R14). -/
def State.leads (s : State) (a b : Source) : Prop :=
  s.rank a < s.rank b ∨ (s.rank a = s.rank b ∧ s.placeInRank a ≤ s.placeInRank b)

theorem State.leads_refl (s : State) (a : Source) : s.leads a a := .inr ⟨rfl, le_rfl⟩

theorem State.leads_trans {s : State} {a b c : Source} (ab : s.leads a b) (bc : s.leads b c) : s.leads a c := by
  unfold State.leads at *
  omega

theorem State.leads_of_before {s : State} {a b : Source} (h : s.before a b = true) : s.leads a b := by
  have : s.rank a < s.rank b ∨ (s.rank a = s.rank b ∧ s.placeInRank a < s.placeInRank b) := by
    simpa [State.before] using h
  unfold State.leads
  omega

theorem State.leads_of_not_before {s : State} {a b : Source} (h : ¬s.before a b = true) : s.leads b a := by
  have : ¬(s.rank a < s.rank b ∨ (s.rank a = s.rank b ∧ s.placeInRank a < s.placeInRank b)) := by
    simpa [State.before] using h
  unfold State.leads
  omega

/-- The winner is one of the candidates and leads them all (R14). -/
theorem State.winner_leads {s : State} {cs : List Source} {w : Source} (won : s.winner cs = some w) :
    w ∈ cs ∧ ∀ c ∈ cs, s.leads w c := by
  induction cs generalizing w with
  | nil => simp [State.winner] at won
  | cons c rest ih =>
    cases next : s.winner rest with
    | none =>
      have empty : rest = [] := (s.winner_eq_none rest).mp next
      obtain rfl : c = w := by simpa [State.winner, next] using won
      simp [empty, State.leads_refl]
    | some v =>
      obtain ⟨mem, leads⟩ := ih next
      by_cases earlier : s.before v c = true
      · obtain rfl : v = w := by simpa [State.winner, next, earlier] using won
        exact ⟨List.mem_cons_of_mem _ mem, List.forall_mem_cons.mpr ⟨State.leads_of_before earlier, leads⟩⟩
      · obtain rfl : c = w := by simpa [State.winner, next, earlier] using won
        have first : s.leads c v := State.leads_of_not_before earlier
        exact ⟨List.mem_cons_self, List.forall_mem_cons.mpr
          ⟨State.leads_refl s c, fun d hd => State.leads_trans first (leads d hd)⟩⟩

/-- The place of a lane's source is its distance upward from the lane after the pointer (R14). -/
theorem cyclic_distance (k pointer : Fin 8) : (k.val + 7 - pointer.val) % 8 = (k - pointer - 1 : Fin 8).val := by
  revert k pointer
  decide

theorem State.placeInRank_alerts (s : State) (k : LaneNo) :
    s.placeInRank (.alerts k) = (k - s.link.pointer - 1 : Fin 8).val := cyclic_distance k s.link.pointer

theorem State.placeInRank_events (s : State) (k : LaneNo) :
    s.placeInRank (.events k) = (k - s.link.pointer - 1 : Fin 8).val := cyclic_distance k s.link.pointer

theorem State.rank_events (s : State) (k : LaneNo) : s.rank (.events k) = 4 ∨ s.rank (.events k) = 5 := by
  show (if s.link.penalty[k] then 5 else 4) = 4 ∨ (if s.link.penalty[k] then 5 else 4) = 5
  split <;> simp

/-- The order of sources of one rank: the reply slot before the notice set, lanes upward from the pointer (R14). -/
def State.noLater (s : State) : Source → Source → Prop
  | .reply, _ => True
  | .notices, c => c = .notices
  | .alerts j, .alerts k => (j - s.link.pointer - 1 : Fin 8) ≤ k - s.link.pointer - 1
  | .events j, .events k => (j - s.link.pointer - 1 : Fin 8) ≤ k - s.link.pointer - 1
  | _, _ => False

/-- What leading says of two sources, kind by kind (R13, R14). -/
theorem State.leads_cases {s : State} {w c : Source} (h : s.leads w c) :
    s.rank w < s.rank c ∨ (s.rank w = s.rank c ∧ s.noLater w c) := by
  rcases h with lower | ⟨same, place⟩
  · exact .inl lower
  have events := s.rank_events
  refine .inr ⟨same, ?_⟩
  cases w with
  | reply => trivial
  | notices =>
    cases c with
    | reply => simp [State.placeInRank] at place
    | notices => rfl
    | alerts k => simp [State.rank] at same
    | events k => rcases events k with e | e <;> rw [e] at same <;> simp [State.rank] at same
  | alerts j =>
    cases c with
    | alerts k => rwa [State.placeInRank_alerts, State.placeInRank_alerts] at place
    | reply => simp [State.rank] at same
    | notices => simp [State.rank] at same
    | events k => rcases events k with e | e <;> rw [e] at same <;> simp [State.rank] at same
  | events j =>
    cases c with
    | events k => rwa [State.placeInRank_events, State.placeInRank_events] at place
    | reply => rcases events j with e | e <;> rw [e] at same <;> simp [State.rank] at same
    | notices => rcases events j with e | e <;> rw [e] at same <;> simp [State.rank] at same
    | alerts k => rcases events j with e | e <;> rw [e] at same <;> simp [State.rank] at same

/-- A selection by rank takes a candidate that leads every candidate. -/
theorem State.selectWinner_leads {s : State} (some : s.candidates ≠ []) :
    ∃ w, s.isCandidate w = true ∧ s.selectWinner = s.select w ∧ ∀ c, s.isCandidate c = true → s.leads w c := by
  obtain ⟨w, won, selected⟩ := State.selectWinner_some some
  obtain ⟨mem, leads⟩ := State.winner_leads won
  exact ⟨w, (s.mem_candidates w).mp mem, selected, fun c hc => leads c ((s.mem_candidates c).mpr hc)⟩

theorem State.selectByRank_of_open {s : State} (h : s.link.tx = .idle ∨ s.link.tx = .gathering) :
    s.selectByRank = s.selectWinner := by
  rcases h with h | h <;> simp [State.selectByRank, h]

/-! ### A selection at once (R13) -/

theorem State.anyOf_mem {s : State} {cs : List Source} (some : cs ≠ []) : s.anyOf cs ∈ cs := by
  have room : Config.freeChoice s.choices % cs.length < cs.length :=
    Nat.mod_lt _ (List.length_pos_iff.mpr some)
  rw [State.anyOf, List.getD_eq_getElem _ _ room]
  exact List.getElem_mem room

/-- What is selected at once is one of the candidates. -/
theorem State.selectNew_of_idle {s : State} (idle : s.link.tx = .idle) (some : s.candidates ≠ []) :
    ∃ src, s.isCandidate src = true ∧
      (s.selectNew = s.select src ∨ s.selectNew = { s.select src with choices := s.choices + 1 }) := by
  rcases s.selectNew_cases with ⟨busy | none, _⟩ | ⟨_, src, one, h⟩ | ⟨_, _, h⟩
  · exact absurd idle busy
  · exact absurd none some
  · exact ⟨src, (s.mem_candidates src).mp (by simp [one]), .inl h⟩
  · exact ⟨_, (s.mem_candidates _).mp (State.anyOf_mem some), .inr h⟩

/-! ### What a source gives up (R13, R14, R15) -/

theorem State.penaltyCleared_live {s : State} (live : s.link.state = .live) :
    s.penaltyCleared = Vector.replicate 8 false := by
  simp [State.penaltyCleared, live]

theorem State.penaltyCleared_cases (s : State) :
    s.penaltyCleared = Vector.replicate 8 false ∨ s.penaltyCleared = s.link.penalty := by
  unfold State.penaltyCleared
  split <;> simp

theorem State.select_events {s : State} {k : LaneNo} {r : List Byte} {more : List (List Byte)}
    (h : s.inQueue k = r :: more) :
    s.select (.events k) =
      { s with
        inbound := s.inbound.set k more
        link := { s.link with
          tx := .sending ⟨byteOf k.val, .event, r⟩
          pointer := k
          penalty := (Vector.replicate 8 false).set k (!more.isEmpty) } } := by
  have left : (s.setInQueue k more).inQueue k = more := s.inQueue_setInQueue_same k more
  simp only [State.select, State.giveUpItem, State.frameFrom, State.penaltyAfter, pointerAfter, h, List.tail_cons,
    List.headD_cons, left]
  rfl

end Sys2Proof.Machine

namespace Sys2Proof.Proofs

open Sys2Proof.Machine

/-- Settles O18. -/
theorem selectionsByRankAndAtOnce : Obligations.SelectionsByRankAndAtOnce := by
  refine ⟨fun s k src => ⟨s.mem_candidates src, ?_, ?_, ?_, ?_, rfl, rfl, rfl, rfl⟩,
    fun before s => ⟨fun none => if_pos none, fun some => State.atOnce_waits s some⟩,
    fun s => ⟨fun free => ⟨fun none => ?_, fun some => ?_⟩, fun idle src one => ?_, State.selectNew_of_idle,
      fun idle none => State.selectNew_of_settled fun _ => none, fun f sending => State.selectByRank_sending sending,
      fun busy => State.selectNew_of_settled fun idle => absurd idle busy⟩,
    fun s k => ⟨⟨s.penaltyCleared, State.penaltyCleared_live, fun _ => s.penaltyCleared_cases, fun body held => ?_, rfl⟩,
      rfl, fun r more queued => State.select_events queued⟩⟩
  · simp [State.isCandidate, Option.isSome_iff_ne_none]
  · simp [State.isCandidate, noneHeld_toList]
  · simp [State.isCandidate, noneHeld_toList]
  · simp [State.isCandidate]
  · rw [State.selectByRank_of_open free, State.selectWinner_none none]
  · obtain ⟨w, candidate, selected, leads⟩ := State.selectWinner_leads some
    refine ⟨w, candidate, (State.selectByRank_of_open free).trans selected, fun c hc => ?_⟩
    have order := State.leads_cases (leads c hc)
    cases w <;> cases c <;> exact order
  · simp [State.selectNew, idle, one]
  · simp only [State.select, State.frameFrom, held, Option.getD_some]
    rfl

end Sys2Proof.Proofs
end

section
/-! SUPPORT. Settings that wait, and requests that name nothing. -/

namespace Sys2Proof.Machine

/-! ### Taking a latched request (R22) -/

theorem State.Latched.mguFree {s : State} {body : List Byte} (h : s.Latched body) : s.mguFree = true := by
  obtain ⟨_, reply, pending⟩ := h
  simp [State.mguFree, reply, pending]

/-- A latched request that MGU may take is executed on its argument bytes. -/
theorem State.Latched.takeRequest {s : State} {code : Byte} {args : List Byte} (h : s.Latched (code :: args))
    (execute : List Byte → State → State) : s.takeRequest code execute = execute args s.emptyLatch := by
  simp [State.takeRequest, h.1, h.mguFree]

/-! ### Fields clamped and read back (R35, R36) -/

theorem byteOf_eq_iff {n : Nat} (small : n < 256) (b : Byte) : byteOf n = b ↔ n = b.toNat := by
  rw [← BitVec.toNat_inj, toNat_byteOf small]

theorem rateM_eq (position : Nat) {b : Byte} (h : b.toNat ≤ 15) :
    rateM position b = .inr (Fin.ofNat 15 (Nat.min 14 b.toNat)) := by
  show rateM position b = .inr (Fin.ofNat 15 (min 14 b.toNat))
  unfold rateM
  split
  · next below =>
    have same : min 14 b.toNat = b.toNat := by omega
    simp [same, Fin.ofNat, Nat.mod_eq_of_lt below]
  · have top : b.toNat = 15 := by omega
    simp [top]

theorem silenceField_eq (b : Byte) : silenceField b = Fin.ofNat 61 (Nat.min 60 b.toNat) := by
  show silenceField b = Fin.ofNat 61 (min 60 b.toNat)
  unfold silenceField
  split
  · next below =>
    have same : min 60 b.toNat = b.toNat := by omega
    simp [same, Fin.ofNat, Nat.mod_eq_of_lt below]
  · have top : min 60 b.toNat = 60 := by omega
    rw [top]
    rfl

theorem stuckField_eq (b : Byte) : stuckField b = Fin.ofNat 251 (Nat.max 10 (Nat.min 250 b.toNat)) := by
  show stuckField b = Fin.ofNat 251 (max 10 (min 250 b.toNat))
  unfold stuckField
  split
  · next below =>
    split
    · have bottom : max 10 (min 250 b.toNat) = 10 := by omega
      rw [bottom]
      rfl
    · have same : max 10 (min 250 b.toNat) = b.toNat := by omega
      simp [same, Fin.ofNat, Nat.mod_eq_of_lt below]
  · have top : max 10 (min 250 b.toNat) = 250 := by omega
    rw [top]
    rfl

theorem below_byteOf (position : Nat) {bound : Nat} (small : bound ≤ 256) (x : Fin bound) :
    below position bound (byteOf x.val) = .inr x := by
  have value : (byteOf x.val).toNat = x.val := toNat_byteOf (by omega)
  simp [below, value]

@[simp] theorem DataBits.ofByte_code (d : DataBits) : DataBits.ofByte d.code = some d := by cases d <;> rfl
@[simp] theorem Parity.ofByte_code (p : Parity) : Parity.ofByte p.code = some p := by cases p <;> rfl
@[simp] theorem StopBits.ofByte_code (b : StopBits) : StopBits.ofByte b.code = some b := by cases b <;> rfl
@[simp] theorem Recovery.ofByte_code (r : Recovery) : Recovery.ofByte r.code = some r := by cases r <;> rfl
@[simp] theorem boolOfByte_flagByte (b : Bool) : boolOfByte (flagByte b) = some b := by cases b <;> rfl
@[simp] theorem lineOfByte_lineCode (l : Line) : lineOfByte (lineCode l) = some l := by cases l <;> rfl

/-- The fields of SET_LINK, clamped (R35). -/
theorem LinkSettings.ofBytes_clamped (p : Fin 8) {m : Byte} (time : Byte) (h : m.toNat ≤ 15) :
    LinkSettings.ofBytes [byteOf p.val, m, time] =
      .inr ⟨p, Fin.ofNat 15 (Nat.min 14 m.toNat), Fin.ofNat 61 (Nat.min 60 time.toNat)⟩ := by
  simp [LinkSettings.ofBytes, below_byteOf, rateM_eq _ h, silenceField_eq, FieldCheck.andThen]

/-- The fields of SET_LINE, clamped (R36). -/
theorem LineSettings.ofBytes_clamped (p : Fin 8) {m : Byte} (stuck : Byte) (data : DataBits) (parity : Parity)
    (stop : StopBits) (recovery : Recovery) (sweep : Bool) (h : m.toNat ≤ 15) :
    LineSettings.ofBytes
        [byteOf p.val, m, data.code, parity.code, stop.code, stuck, recovery.code, flagByte sweep] =
      .inr ⟨⟨data, parity, stop, p, Fin.ofNat 15 (Nat.min 14 m.toNat)⟩,
        Fin.ofNat 251 (Nat.max 10 (Nat.min 250 stuck.toNat)), recovery, sweep⟩ := by
  simp [LineSettings.ofBytes, below_byteOf, rateM_eq _ h, stuckField_eq, FieldCheck.andThen, named]

/-- DONE or CLAMPED, told by two fields that may have been clamped (R23). -/
theorem storedStatus_code {received stored : List Byte} {m t : Nat} (first second : Byte) (hm : m < 256) (ht : t < 256)
    (h : received = stored ↔ first = byteOf m ∧ second = byteOf t) :
    (storedStatus received stored).code = if m = first.toNat ∧ t = second.toNat then 0 else 1 := by
  rw [eq_comm (b := byteOf m), eq_comm (b := byteOf t), byteOf_eq_iff hm, byteOf_eq_iff ht] at h
  unfold storedStatus
  simp only [h]
  split <;> rfl

/-- An unknown code is refused with that code (R23). -/
theorem knownCode_eq_false {code : Byte} (h : code.toNat = 0 ∨ 15 < code.toNat) : knownCode code = false := by
  simp only [knownCode, decide_eq_false_iff_not]
  omega

end Sys2Proof.Machine

namespace Sys2Proof.Proofs

open Sys2Proof.Machine

/-- Settles O37. -/
theorem settingsAndSoftResetWait : Obligations.SettingsAndSoftResetWait := by
  intro s p m time stuck code args l data parity stop recovery sweep
  refine ⟨fun small => ?_, fun latched => ?_, fun latched some => ?_, fun latched unknown => ?_, fun latched => ?_⟩
  · intro rate seconds limit settings line
    refine ⟨fun latched => ?_, fun latched => ?_⟩
    · have status : (storedStatus [byteOf p.val, m, time] [byteOf p.val, byteOf rate.val, byteOf seconds.val]).code =
          if rate.val = m.toNat ∧ seconds.val = time.toNat then 0 else 1 :=
        storedStatus_code m time (by omega) (by omega) (by simp)
      have done : setLinkOn [byteOf p.val, m, time] s.emptyLatch =
          { s.replied
              [0x0A, if rate.val = m.toNat ∧ seconds.val = time.toNat then 0 else 1, byteOf p.val, byteOf rate.val,
                byteOf seconds.val] with
            tables := { s.tables with link := ⟨p, rate, seconds⟩ } } := by
        rw [setLinkOn, if_neg (by simp), LinkSettings.ofBytes_clamped p time small, ← status]
        rfl
      show Host.Outcome.next (s.takeRequest 10 setLinkOn).selectNew = _
      rw [latched.takeRequest, done]
    · have lineByte : line = lineCode l := by cases l <;> rfl
      have sweepByte : (if sweep then (1 : Byte) else 0) = flagByte sweep := rfl
      rw [sweepByte, lineByte] at latched ⊢
      have status : (storedStatus
            [byteOf p.val, m, data.code, parity.code, stop.code, stuck, recovery.code, flagByte sweep]
            settings.bytes).code = if rate.val = m.toNat ∧ limit.val = stuck.toNat then 0 else 1 :=
        storedStatus_code m stuck (by omega) (by omega) (by simp [LineSettings.bytes, settings])
      have done : setLineOn (lineCode l ::
            [byteOf p.val, m, data.code, parity.code, stop.code, stuck, recovery.code, flagByte sweep]) s.emptyLatch =
          { s.replied
              (0x0B :: (if rate.val = m.toNat ∧ limit.val = stuck.toNat then 0 else 1) :: lineCode l :: settings.bytes) with
            tables := { s.tables with lines := s.tables.lines.set l ⟨s.lineInForce l, some settings⟩ } } := by
        rw [setLineOn, if_neg (by simp), lineOfByte_lineCode, ← status]
        simp only [State.setLine, LineSettings.ofBytes_clamped p stuck data parity stop recovery sweep small]
        rfl
      show Host.Outcome.next (s.takeRequest 11 setLineOn).selectNew = _
      rw [latched.takeRequest, done]
      rfl
  · show Host.Outcome.next (s.takeRequest 15 softResetOn).selectNew = _
    rw [latched.takeRequest]
    rfl
  · show Host.Outcome.next (s.takeRequest 15 softResetOn).selectNew = _
    rw [latched.takeRequest, softResetOn, if_neg some]
    rfl
  · show Host.Outcome.next s.takeUnknown.selectNew = _
    simp only [State.takeUnknown, latched.1, latched.mguFree, knownCode_eq_false unknown, and_self, if_true]
    rfl
  · show Host.Outcome.next s.takeUnknown.selectNew = _
    simp only [State.takeUnknown, latched.1, latched.mguFree, if_true]
    rfl

end Sys2Proof.Proofs
end

section
/-! SUPPORT. Lane commands read from a body, and a body taken one command at a time. -/

namespace Sys2Proof.Machine

/-! ### Reading a command (R134, section 11.3) -/

/-- The lengths of its arguments that a code admits (section 11.3); no length for a code that names no command. -/
def admitsLength (code length : Nat) : Bool :=
  match code with
  | 1 => length == 2
  | 2 => length == 0
  | 3 => length == 0
  | 4 => decide (2 ≤ length ∧ length ≤ 22)
  | 5 => length == 2
  | 6 => length == 2
  | 7 => length == 5
  | 8 => length == 4
  | 9 => length == 1
  | 10 => length == 1
  | _ => false

/-- A code and its arguments give a command exactly where the code admits their number. -/
theorem LaneCmd.ofArgs_isSome (code : Byte) (args : List Byte) :
    (LaneCmd.ofArgs code args).isSome = admitsLength code.toNat args.length := by
  unfold LaneCmd.ofArgs
  generalize code.toNat = c
  match c with
  | 0 => rcases args with _ | ⟨_, _⟩ <;> rfl
  | 1 => rcases args with _ | ⟨_, _ | ⟨_, _ | ⟨_, _⟩⟩⟩ <;> rfl
  | 2 => rcases args with _ | ⟨_, _⟩ <;> rfl
  | 3 => rcases args with _ | ⟨_, _⟩ <;> rfl
  | 4 =>
    match args with
    | [] => rfl
    | [_] => rfl
    | row :: report :: text =>
      show (if text.length ≤ 20 then some (LaneCmd.showText row report text) else none).isSome =
        decide (2 ≤ text.length + 2 ∧ text.length + 2 ≤ 22)
      by_cases short : text.length ≤ 20 <;> simp [short]
  | 5 => rcases args with _ | ⟨_, _ | ⟨_, _ | ⟨_, _⟩⟩⟩ <;> rfl
  | 6 => rcases args with _ | ⟨_, _ | ⟨_, _ | ⟨_, _⟩⟩⟩ <;> rfl
  | 7 => rcases args with _ | ⟨_, _ | ⟨_, _ | ⟨_, _ | ⟨_, _ | ⟨_, _ | ⟨_, _⟩⟩⟩⟩⟩⟩ <;> rfl
  | 8 => rcases args with _ | ⟨_, _ | ⟨_, _ | ⟨_, _ | ⟨_, _ | ⟨_, _⟩⟩⟩⟩⟩ <;> rfl
  | 9 => rcases args with _ | ⟨_, _ | ⟨_, _⟩⟩ <;> rfl
  | 10 => rcases args with _ | ⟨_, _ | ⟨_, _⟩⟩ <;> rfl
  | _ + 11 => rcases args with _ | ⟨_, _⟩ <;> rfl

/-- A body is malformed exactly where it begins with no well-formed command (R134). -/
theorem LaneCmd.take_eq_none_iff (body : List Byte) : LaneCmd.take body = none ↔ beginsWithCommand body = false := by
  match body with
  | [] => simp [LaneCmd.take, beginsWithCommand]
  | [_] => simp [LaneCmd.take, beginsWithCommand]
  | code :: len :: tail =>
    have begins : beginsWithCommand (code :: len :: tail) =
        (decide (len.toNat ≤ tail.length) && admitsLength code.toNat len.toNat) := rfl
    rw [begins]
    by_cases fits : len.toNat ≤ tail.length
    · have read := LaneCmd.ofArgs_isSome code (tail.take len.toNat)
      rw [List.length_take_of_le fits] at read
      rw [← read, LaneCmd.take, if_pos fits]
      cases LaneCmd.ofArgs code (tail.take len.toNat) <;> simp [fits]
    · simp [LaneCmd.take, fits]

/-- A command is read from the bytes that carry it, whatever follows (section 11.3). -/
theorem LaneCmd.take_bytes (cmd : LaneCmd) (rest : List Byte) (fits : cmd.fits = true) :
    LaneCmd.take (cmd.bytes ++ rest) = some (cmd, rest) := by
  cases cmd with
  | showText row report text =>
    have short : text.length ≤ 20 := by simpa [LaneCmd.fits] using fits
    have len : (byteOf (2 + text.length)).toNat = 2 + text.length := toNat_byteOf (by omega)
    have args : (row :: report :: (text ++ rest)).take (2 + text.length) = row :: report :: text := by
      rw [Nat.add_comm]; simp
    have read : LaneCmd.ofArgs 4 (row :: report :: text) = some (.showText row report text) := by
      show (if text.length ≤ 20 then some (LaneCmd.showText row report text) else none) = _
      rw [if_pos short]
    show LaneCmd.take (4 :: byteOf (2 + text.length) :: row :: report :: (text ++ rest)) = _
    rw [LaneCmd.take, len, if_pos (by simp; omega), args, read]
    simp [Nat.add_comm 2]
  | openLane tag =>
    show some (LaneCmd.openLane (word16 (hiByte tag) (loByte tag)), rest) = _
    rw [word16_hiByte_loByte]
  | _ => rfl

/-- What follows a command is shorter than the body. -/
theorem LaneCmd.length_of_take {body rest : List Byte} {cmd : LaneCmd} (h : LaneCmd.take body = some (cmd, rest)) :
    rest.length < body.length := by
  match body with
  | [] => simp [LaneCmd.take] at h
  | [_] => simp [LaneCmd.take] at h
  | code :: len :: tail =>
    rw [LaneCmd.take] at h
    split at h
    · split at h
      · cases h
        simp
        omega
      · cases h
    · cases h

/-! ### Taking a body one command at a time (R134) -/

theorem State.parseBody_nil (s : State) (k : LaneNo) (fuel position : Nat) (lost : Bool) :
    s.parseBody k fuel position lost [] = s := by
  cases fuel <;> rfl

theorem State.parseBody_step (s : State) (k : LaneNo) (fuel position : Nat) (lost : Bool) {body rest : List Byte}
    {cmd : LaneCmd} (h : LaneCmd.take body = some (cmd, rest)) :
    s.parseBody k (fuel + 1) position lost body =
      (s.perform k position lost cmd).after.parseBody k fuel (position + 1) (s.perform k position lost cmd).lost
        rest := by
  have some : body ≠ [] := by
    rintro rfl
    simp [LaneCmd.take] at h
  rw [State.parseBody, if_neg some, h]

/-- Fuel beyond the length of the body changes nothing. -/
theorem State.parseBody_fuel (s : State) (k : LaneNo) (fuel position : Nat) (lost : Bool) (body : List Byte)
    (enough : body.length ≤ fuel) :
    s.parseBody k fuel position lost body = s.parseBody k body.length position lost body := by
  induction body using WellFounded.induction (measure List.length).wf generalizing s fuel position lost with
  | _ body ih =>
    cases body with
    | nil => rw [State.parseBody_nil, State.parseBody_nil]
    | cons b more =>
      obtain ⟨fuel, rfl⟩ : ∃ n, fuel = n + 1 := ⟨fuel - 1, by simp at enough; omega⟩
      cases read : LaneCmd.take (b :: more) with
      | none => simp [State.parseBody, read]
      | some found =>
        obtain ⟨cmd, rest⟩ := found
        have shorter : rest.length < (b :: more).length := LaneCmd.length_of_take read
        have room : rest.length ≤ fuel := by simp at enough shorter; omega
        have room' : rest.length ≤ more.length := by simp at shorter; omega
        rw [List.length_cons, State.parseBody_step _ _ _ _ _ read, State.parseBody_step _ _ _ _ _ read,
          ih rest shorter _ _ _ _ room, ih rest shorter _ _ _ _ room']

/-- A well-formed command is performed at its position, and parsing goes on behind it. -/
theorem State.parseBody_command (s : State) (k : LaneNo) {fuel : Nat} (position : Nat) (lost : Bool) {cmd : LaneCmd}
    {rest : List Byte} (fits : cmd.fits = true) (enough : (cmd.bytes ++ rest).length ≤ fuel) :
    s.parseBody k fuel position lost (cmd.bytes ++ rest) =
      (s.perform k position lost cmd).after.parseBody k rest.length (position + 1) (s.perform k position lost cmd).lost
        rest := by
  have read := LaneCmd.take_bytes cmd rest fits
  have shorter := LaneCmd.length_of_take read
  obtain ⟨fuel, rfl⟩ : ∃ n, fuel = n + 1 := ⟨fuel - 1, by omega⟩
  rw [State.parseBody_step _ _ _ _ _ read, State.parseBody_fuel _ _ _ _ _ _ (by omega)]

/-- A malformed command is refused with BAD_CODE, and the rest is discarded. -/
theorem State.parseBody_malformed (s : State) (k : LaneNo) {fuel : Nat} (position : Nat) (lost : Bool)
    {body : List Byte} (some : body ≠ []) (enough : body.length ≤ fuel) (bad : beginsWithCommand body = false) :
    s.parseBody k fuel position lost body = s.badCommand k .badCode position := by
  have read := (LaneCmd.take_eq_none_iff body).mpr bad
  have long : 0 < body.length := List.length_pos_iff.mpr some
  obtain ⟨fuel, rfl⟩ : ∃ n, fuel = n + 1 := ⟨fuel - 1, by omega⟩
  rw [State.parseBody, if_neg some, read]

/-! ### Performing one command (R135) -/

/-- A CLEAR outside the rest of a lost frame is checked, whatever the overflow flag (R138, R145). -/
theorem State.perform_clear (s : State) (k : LaneNo) (position : Nat) :
    s.perform k position false .clear = s.checked k position .clear := by
  simp [State.perform]

/-- A command that meets no overflow is checked (R138). -/
theorem State.perform_checked {s : State} {k : LaneNo} (room : (s.lane k).overflow = false) (position : Nat)
    (cmd : LaneCmd) : s.perform k position false cmd = s.checked k position cmd := by
  cases cmd with
  | clear => exact s.perform_clear k position
  | _ => simp [State.perform, room]

/-- A command that passes the checks of phase, target and value acts (R135). -/
theorem State.checked_act {s : State} {k : LaneNo} {cmd : LaneCmd} (admitted : cmd.admitted (s.lane k).phase = true)
    (target : s.hasTarget k cmd = true) (good : cmd.badValue (s.keypadKind k) = false) (position : Nat) :
    s.checked k position cmd = s.act k position cmd := by
  simp [State.checked, admitted, target, good]

/-- A command that queues no record needs no unit (R135, R137). -/
theorem State.hasTarget_of_record_none {s : State} {k : LaneNo} {cmd : LaneCmd} {kind : UnitKind}
    (direct : cmd.record kind = none) : s.hasTarget k cmd = true := by
  cases cmd with
  | openLane | close | clear | decideCard => rfl
  | _ => simp [LaneCmd.record] at direct

/-- A command that acts at once does so whatever its position, but for an OPEN that is refused (R140). -/
theorem State.act_position {s : State} {k : LaneNo} {cmd : LaneCmd} {kind : UnitKind}
    (direct : cmd.record kind = none) (up : ∀ tag, cmd = .openLane tag → s.unitDown k = false) (p q : Nat) :
    s.act k p cmd = s.act k q cmd := by
  cases cmd with
  | openLane tag => simp [State.act, State.actOpen, up tag rfl]
  | close | clear | decideCard => rfl
  | _ => simp [LaneCmd.record] at direct

end Sys2Proof.Machine

namespace Sys2Proof.Proofs

open Sys2Proof.Machine

/-- Settles O20. -/
theorem laneFramesAreTakenInOrder : Obligations.LaneFramesAreTakenInOrder := by
  intro s k fuel position lost cmd rest body
  refine ⟨fun fits => ?_, fun live => ?_, fun live some bad => ?_, fun live => ?_,
    fun room direct admitted good up => ?_, fun fits enough => State.parseBody_command _ _ _ _ fits enough,
    fun some enough bad => State.parseBody_malformed _ _ _ _ some enough bad, State.parseBody_nil ..⟩
  · rw [exec_laneCommands, exec_row, State.parseBody_command _ _ _ _ fits le_rfl]
  · rw [exec_laneCommands, State.goodFrame_live live, State.parseBody_nil]
  · rw [exec_laneCommands, State.goodFrame_live live, State.parseBody_malformed _ _ _ _ some le_rfl bad]
    rfl
  · rw [exec_row, State.goodFrame_live live]
  · have target := State.hasTarget_of_record_none (s := s) (k := k) direct
    rw [State.perform_checked room, State.perform_checked room, State.checked_act admitted target good,
      State.checked_act admitted target good, State.act_position direct up]

end Sys2Proof.Proofs
end

section
/-! SUPPORT. CLEAR. -/

namespace Sys2Proof.Machine

/-- Lane `k` in a phase, its overflow flag clear and both its queues flushed (R116, R126, R130, R145). -/
def State.flushed (s : State) (k : LaneNo) (phase : LanePhase) : State :=
  { s with
    lanes := s.lanes.set k { s.lane k with overflow := false, phase := phase }
    inbound := s.inbound.set k []
    outbound := s.outbound.set k []
    units := Vector.ofFn fun n => if s.bound k n then { s.unit n with headAttempts := 0 } else s.unit n
    link := { s.link with penalty := s.link.penalty.set k false } }

/-- The flushes of a CLEAR (R145). -/
theorem State.flushes_eq (s : State) (k : LaneNo) :
    ((s.setLane k { s.lane k with overflow := false }).flushOut k).flushIn k = s.flushed k (s.lane k).phase := by
  rw [State.flushOut, State.clearHeadAttempts_eq]
  rfl

theorem State.flushed_lane (s : State) (k : LaneNo) (phase : LanePhase) :
    (s.flushed k phase).lane k = { s.lane k with overflow := false, phase := phase } := by
  simp [State.lane, State.flushed]

/-- Steps 1 to 6 of a CLOSE do not look at the phase they leave (R142). -/
theorem State.beginClosing_flushed (s : State) (k : LaneNo) (p q : LanePhase) :
    (s.flushed k p).beginClosing k = (s.flushed k q).beginClosing k := by
  have first (phase : LanePhase) :
      (s.flushed k phase).setLane k
        { (s.flushed k phase).lane k with phase := .closing, standby := false, wakeMarks := [], pinShadow := false } =
      (s.flushed k .closed).setLane k
        { s.lane k with
          overflow := false, phase := .closing, standby := false, wakeMarks := [], pinShadow := false } := by
    rw [State.flushed_lane]
    simp [State.setLane, State.flushed]
  unfold State.beginClosing
  simp only [first]

theorem State.enterClosing_flushed (s : State) (k : LaneNo) (p q : LanePhase) :
    (s.flushed k p).enterClosing k = (s.flushed k q).enterClosing k := by
  rw [State.enterClosing, State.enterClosing, State.beginClosing_flushed s k p q]

/-- CLEAR in CLOSED and CLOSING does the flushes only (R145). -/
theorem State.actClear_flushes {s : State} {k : LaneNo} (h : (s.lane k).phase = .closed ∨ (s.lane k).phase = .closing) :
    s.actClear k = s.flushed k (s.lane k).phase := by
  simp only [State.actClear, State.flushes_eq, State.flushed_lane]
  rcases h with h | h <;> simp [h]

/-- CLEAR in OPENING, OPEN and FAULTED does the flushes, then closes as CLOSE does in OPEN (R145). -/
theorem State.actClear_closes {s : State} {k : LaneNo}
    (h : (s.lane k).phase = .opening ∨ (s.lane k).phase = .opened ∨ (s.lane k).phase = .faulted) :
    s.actClear k = (s.flushed k .opened).enterClosing k := by
  rw [← s.enterClosing_flushed k (s.lane k).phase]
  simp only [State.actClear, State.flushes_eq, State.flushed_lane]
  rcases h with h | h | h <;> simp [h]

/-- CLEAR is admitted in every phase and needs no unit (section 8.2). -/
theorem State.perform_clear_eq (s : State) (k : LaneNo) (position : Nat) :
    s.perform k position false .clear = ⟨s.actClear k, false⟩ := by
  rw [State.perform_clear, State.checked_act rfl rfl rfl]
  rfl

/-- CLOSE in OPEN closes the lane (R142). -/
theorem State.perform_close_eq {s : State} {k : LaneNo} (room : (s.lane k).overflow = false)
    (opened : (s.lane k).phase = .opened) (position : Nat) :
    s.perform k position false .close = ⟨s.enterClosing k, false⟩ := by
  rw [State.perform_checked room, State.checked_act (by simp [opened, LaneCmd.admitted]) rfl rfl]
  rfl

theorem exec_clearLane (s : State) (k : LaneNo) (rest : List Byte) :
    exec (.clearLane k rest) s =
      .next (State.selectByRank ((s.frameClosed.goodFrame.actClear k).parseBody k rest.length 2 false rest)) := by
  have row := exec_row s k .clear rest
  rwa [State.perform_clear_eq] at row

end Sys2Proof.Machine

namespace Sys2Proof.Proofs

open Sys2Proof.Machine

/-- Settles O26. -/
theorem clearFlushesThenCloses : Obligations.ClearFlushesThenCloses := by
  intro s k rest live flushed
  have framed (phase : LanePhase) : (flushed phase).framed = s.framed.flushed k phase := rfl
  refine ⟨fun stays => ?_, fun closes => ?_⟩
  · have clears : s.framed.actClear k = s.framed.flushed k (s.lane k).phase := State.actClear_flushes stays
    rw [exec_clearLane, State.goodFrame_live live, clears, framed]
  · have clears : s.framed.actClear k = (s.framed.flushed k .opened).enterClosing k := State.actClear_closes closes
    have lane : ((s.framed.flushed k .opened).lane k) = _ := State.flushed_lane ..
    have performed : (s.framed.flushed k .opened).perform k 1 false .close =
        ⟨(s.framed.flushed k .opened).enterClosing k, false⟩ :=
      State.perform_close_eq (by rw [lane]) (by rw [lane]) 1
    have row := exec_row (flushed .opened) k .close rest
    rw [State.goodFrame_live (s := flushed .opened) live, framed, performed] at row
    rw [exec_clearLane, State.goodFrame_live live, clears]
    exact row.symm

end Sys2Proof.Proofs
end

section
/-! SUPPORT. The link goes quiet: lanes in standby. -/

namespace Sys2Proof.Machine

/-! ### What an act at one lane leaves alone -/

/-- Presence, REST, and the presence of EJECT and STANDBY outlive a change of a slot's runtime record. -/
structure UnitRun.KeptBy (u v : UnitRun) : Prop where
  presence : v.presence = u.presence
  rest : v.directives.rest = u.directives.rest
  eject : u.directives.eject.isSome = true → v.directives.eject.isSome = true
  standby : u.directives.standby.isSome = true → v.directives.standby.isSome = true

theorem UnitRun.KeptBy.refl (u : UnitRun) : u.KeptBy u := ⟨rfl, rfl, id, id⟩

theorem UnitRun.KeptBy.trans {u v w : UnitRun} (uv : u.KeptBy v) (vw : v.KeptBy w) : u.KeptBy w :=
  ⟨vw.presence.trans uv.presence, vw.rest.trans uv.rest, vw.eject ∘ uv.eject, vw.standby ∘ uv.standby⟩

/-- Setting EJECT or STANDBY removes neither, and leaves REST alone (R113). -/
theorem Directives.join_keeps (ds : Directives) {d : Directive} (h : d = .eject ∨ d = .standby) (x : Pending) :
    (ds.join d x).rest = ds.rest ∧ (ds.eject.isSome = true → (ds.join d x).eject.isSome = true) ∧
      (ds.standby.isSome = true → (ds.join d x).standby.isSome = true) := by
  rcases h with rfl | rfl
  · unfold Directives.join
    split <;> simp
  · unfold Directives.join
    split
    · simp
    · dsimp only
      split <;> simp

/-- What an act at lanes that go into standby leaves alone: all but lanes, inbound queues and directives. -/
structure State.QuietStep (s t : State) : Prop where
  link : t.link = s.link
  tables : t.tables = s.tables
  outbound : t.outbound = s.outbound
  engines : t.engines = s.engines
  notices : t.notices = s.notices
  units : ∀ n, (s.unit n).KeptBy (t.unit n)

theorem State.QuietStep.refl (s : State) : s.QuietStep s := ⟨rfl, rfl, rfl, rfl, rfl, fun _ => .refl _⟩

theorem State.QuietStep.trans {s t u : State} (st : s.QuietStep t) (tu : t.QuietStep u) : s.QuietStep u :=
  ⟨tu.link.trans st.link, tu.tables.trans st.tables, tu.outbound.trans st.outbound, tu.engines.trans st.engines,
    tu.notices.trans st.notices, fun n => (st.units n).trans (tu.units n)⟩

theorem State.quietStep_setLane (s : State) (k : LaneNo) (r : LaneRecord) : s.QuietStep (s.setLane k r) :=
  ⟨rfl, rfl, rfl, rfl, rfl, fun _ => .refl _⟩

theorem State.quietStep_storeIn (s : State) (k : LaneNo) (r : List Byte) : s.QuietStep (s.storeIn k r) :=
  ⟨rfl, rfl, rfl, rfl, rfl, fun _ => .refl _⟩

theorem State.quietStep_setDirective (s : State) (n : SlotNo) {d : Directive} (h : d = .eject ∨ d = .standby) :
    s.QuietStep (s.setDirective n d) := by
  rcases s.setDirective_eq n d with same | ⟨_, set⟩
  · rw [same]
    exact .refl s
  · rw [set]
    refine ⟨rfl, rfl, rfl, rfl, rfl, fun m => ?_⟩
    obtain ⟨rest, eject, standby⟩ := Directives.join_keeps (s.unit n).directives h ⟨0, s.serial⟩
    show (s.unit m).KeptBy ((s.setUnit n _).unit m)
    by_cases same : m = n
    · subst same
      rw [State.unit_setUnit_same]
      exact ⟨rfl, rest, eject, standby⟩
    · rw [State.unit_setUnit_other _ _ same]
      exact .refl _

/-- A directive that is set changes runtime records and the serial number only. -/
theorem State.setDirective_units (s : State) (n : SlotNo) (d : Directive) :
    ∃ units serial, s.setDirective n d = { s with units := units, serial := serial } := by
  rcases s.setDirective_eq n d with same | ⟨_, set⟩
  · exact ⟨s.units, s.serial, same⟩
  · exact ⟨_, _, set⟩

/-- A directive that is set for a slot that is not DISABLED joins its set by the table of R113. -/
theorem State.setDirective_directives {s : State} {n : SlotNo} (d : Directive) (h : (s.unit n).presence ≠ .disabled) :
    ((s.setDirective n d).unit n).directives = (s.unit n).directives.join d ⟨0, s.serial⟩ := by
  unfold State.setDirective
  split
  · next skips => exact (skips.resolve_left h).symm
  · show ((s.setUnit n _).unit n).directives = _
    rw [State.unit_setUnit_same]

/-- EJECT set for a slot that is not DISABLED is in its set. -/
theorem State.setDirective_eject {s : State} {n : SlotNo} (h : (s.unit n).presence ≠ .disabled) :
    ((s.setDirective n .eject).unit n).directives.eject.isSome = true := by
  rw [State.setDirective_directives _ h]
  rcases Directives.join_get (s.unit n).directives .eject ⟨0, s.serial⟩ with set | ⟨present, same⟩ | ⟨other, _⟩
  · exact Option.isSome_of_eq_some set
  · rw [same]
    exact present
  · cases other

/-- STANDBY set for a slot that is neither DISABLED nor to take REST is in its set. -/
theorem State.setDirective_standby {s : State} {n : SlotNo} (h : (s.unit n).presence ≠ .disabled)
    (rest : (s.unit n).directives.rest = none) :
    ((s.setDirective n .standby).unit n).directives.standby.isSome = true := by
  rw [State.setDirective_directives _ h]
  rcases Directives.join_get (s.unit n).directives .standby ⟨0, s.serial⟩ with set | ⟨present, same⟩ | ⟨_, resting, _⟩
  · exact Option.isSome_of_eq_some set
  · rw [same]
    exact present
  · simp [rest] at resting

/-! ### Directives of a lane that goes into standby (R152) -/

theorem State.dropDecision_of_none {s : State} {k : LaneNo} (h : (s.lane k).decision = none) :
    s.dropDecision k = s := by
  have same : { s.lane k with decision := none } = s.lane k := by rw [← h]
  rw [State.dropDecision, same, State.setLane]
  simp [State.lane]

/-- A decision removed with EJECT set: the decision, and besides only runtime records and the serial number. -/
theorem State.returnCard_units (s : State) (k : LaneNo) :
    ∃ units serial, s.returnCard k = { s.dropDecision k with units := units, serial := serial } := by
  unfold State.returnCard
  split
  · next none =>
    rw [State.dropDecision_of_none (by simpa using none)]
    exact ⟨s.units, s.serial, rfl⟩
  · cases s.readerOf k with
    | none => exact ⟨s.units, s.serial, rfl⟩
    | some n => exact (s.dropDecision k).setDirective_units n .eject

theorem State.quietStep_returnCard (s : State) (k : LaneNo) : s.QuietStep (s.returnCard k) := by
  unfold State.returnCard
  split
  · exact .refl s
  · cases s.readerOf k with
    | none => exact s.quietStep_setLane k _
    | some n => exact (s.quietStep_setLane k _).trans ((s.dropDecision k).quietStep_setDirective n (.inl rfl))

/-- A lane that held a decision has EJECT set for its reader. -/
theorem State.returnCard_eject {s : State} {k : LaneNo} {n : SlotNo} (held : (s.lane k).decision ≠ none)
    (reader : s.readerOf k = some n) (enabled : (s.unit n).presence ≠ .disabled) :
    ((s.returnCard k).unit n).directives.eject.isSome = true := by
  have dropped : s.returnCard k = (s.dropDecision k).setDirective n .eject := by
    rw [State.returnCard, if_neg (by simpa using held), reader]
    rfl
  rw [dropped]
  exact State.setDirective_eject (s := s.dropDecision k) enabled

/-- STANDBY set for a list of slots: only runtime records and the serial number change. -/
theorem State.foldl_standby_units (ns : List SlotNo) (s : State) :
    ∃ units serial,
      ns.foldl (fun s n => s.setDirective n .standby) s = { s with units := units, serial := serial } := by
  refine State.foldl_setDirective (fun t => ∃ units serial, t = { s with units := units, serial := serial }) .standby
    ?_ ns s ⟨s.units, s.serial, rfl⟩
  rintro _ n ⟨units, serial, rfl⟩
  obtain ⟨units', serial', set⟩ := State.setDirective_units { s with units := units, serial := serial } n .standby
  exact ⟨units', serial', set⟩

theorem State.quietStep_foldl_standby (ns : List SlotNo) (s : State) :
    s.QuietStep (ns.foldl (fun s n => s.setDirective n .standby) s) :=
  State.foldl_setDirective (s.QuietStep ·) .standby
    (fun t n step => step.trans (t.quietStep_setDirective n (.inr rfl))) ns s (.refl s)

/-- Each slot of the list that is neither DISABLED nor to take REST gets STANDBY. -/
theorem State.foldl_standby_sets {ns : List SlotNo} {s : State} {n : SlotNo} (mem : n ∈ ns)
    (enabled : (s.unit n).presence ≠ .disabled) (rest : (s.unit n).directives.rest = none) :
    ((ns.foldl (fun s n => s.setDirective n .standby) s).unit n).directives.standby.isSome = true := by
  induction ns generalizing s with
  | nil => simp at mem
  | cons m more ih =>
    rw [List.foldl_cons]
    have kept := (s.quietStep_setDirective m (.inr rfl : Directive.standby = .eject ∨ _)).units n
    by_cases same : n = m
    · subst same
      exact ((State.quietStep_foldl_standby more _).units n).standby (State.setDirective_standby enabled rest)
    · have later : n ∈ more := (List.mem_cons.mp mem).resolve_left same
      exact ih later (by rwa [kept.presence]) (by rwa [kept.rest])

/-! ### The window of a lane that goes into standby (R152, section 9.2) -/

/-- Has the lane a window whose ending is reported (section 9.2)? -/
def LaneRecord.windowLive (r : LaneRecord) : Prop := ∃ w, r.window = some w ∧ w.phase.live = true

theorem State.dropWindow_of_none {s : State} {k : LaneNo} (h : (s.lane k).window = none) : s.dropWindow k = s := by
  have same : { s.lane k with window := none } = s.lane k := by rw [← h]
  rw [State.dropWindow, same, State.setLane]
  simp [State.lane]

/-- A window that is not live ends without a record. -/
theorem State.cancelWindow_quiet {s : State} {k : LaneNo} (h : ¬(s.lane k).windowLive) (reason : CancelReason) :
    s.cancelWindow k reason = (s.dropWindow k, false) := by
  unfold State.cancelWindow
  cases window : (s.lane k).window with
  | none => simp [State.dropWindow_of_none window]
  | some w =>
    have still : w.phase.live = false := by
      by_contra live
      exact h ⟨w, window, by simpa using live⟩
    simp [still]

/-- A live window ends with an ENTRY_CANCELLED record. -/
theorem State.cancelWindow_live {s : State} {k : LaneNo} (h : (s.lane k).windowLive) (reason : CancelReason) :
    s.cancelWindow k reason = (s.dropWindow k).writeInternal k .entryCancelled [reason.code] := by
  obtain ⟨w, window, live⟩ := h
  simp [State.cancelWindow, window, live]

end Sys2Proof.Machine
end

section
/-! SUPPORT. One lane's standby, and all of them one after another. -/

namespace Sys2Proof.Machine

/-! ### What one lane's standby leaves alone -/

theorem State.quietStep_writeInternal (s : State) (k : LaneNo) (kind : EventKind) (content : List Byte) :
    s.QuietStep (s.writeInternal k kind content).1 := by
  rcases s.writeInternal_cases k kind content with ⟨_, h⟩ | ⟨_, h⟩ <;> rw [h]
  · exact s.quietStep_storeIn k _
  · exact s.quietStep_setLane k _

theorem State.quietStep_cancelWindow (s : State) (k : LaneNo) (reason : CancelReason) :
    s.QuietStep (s.cancelWindow k reason).1 := by
  by_cases live : (s.lane k).windowLive
  · rw [State.cancelWindow_live live]
    exact (s.quietStep_setLane k _).trans ((s.dropWindow k).quietStep_writeInternal k _ _)
  · rw [State.cancelWindow_quiet live]
    exact s.quietStep_setLane k _

/-- A fault of a lane that holds no decision (R146). -/
theorem State.faultLane_of_none {s : State} {k : LaneNo} (none : (s.lane k).decision = none) (reason : FaultReason) :
    s.faultLane k reason = s.faultedFor k reason.code := by
  have undecided (r : LaneRecord) (h : r.decision = Option.none) : (s.setLane k r).faultDecision k = s.setLane k r := by
    simp [State.faultDecision, h]
  rw [State.faultLane, State.enterFaulted, undecided]
  · have none' : s.lanes[k].decision = Option.none := none
    simp only [State.raiseAlert, State.faultedFor, State.setLane, State.lane, Fin.getElem_fin, Vector.getElem_set_self,
      Vector.set_set] at none' ⊢
    rw [none']
    rfl
  · exact none

theorem State.quietStep_faultDecision (s : State) (k : LaneNo) : s.QuietStep (s.faultDecision k) := by
  unfold State.faultDecision
  split
  · exact .refl s
  · cases s.readerOf k with
    | none => exact s.quietStep_setLane k _
    | some n =>
      dsimp only
      split
      · exact (s.quietStep_setLane k _).trans ((s.dropDecision k).quietStep_setDirective n (.inl rfl))
      · exact s.quietStep_setLane k _

theorem State.quietStep_overrun (s : State) (k : LaneNo) : s.QuietStep (s.overrun k) := by
  rcases s.overrun_cases k with ⟨_, h⟩ | ⟨_, h⟩ <;> rw [h]
  · exact .refl s
  · exact ((s.quietStep_setLane k _).trans (State.quietStep_faultDecision _ k)).trans (State.quietStep_setLane _ k _)

theorem State.quietStep_overrunIf (s : State) (k : LaneNo) (lost : Bool) : s.QuietStep (s.overrunIf k lost) := by
  cases lost
  · exact .refl s
  · exact s.quietStep_overrun k

/-! ### One lane's standby (R152) -/

/-- Does the link's silence take the lane into standby: is it OPENING or OPEN? -/
def LaneRecord.served (r : LaneRecord) : Prop := r.phase = .opening ∨ r.phase = .opened

/-- A lane record in standby: its window and its decision are gone (R152, R168). -/
def LaneRecord.inStandby (r : LaneRecord) : LaneRecord :=
  { r with standby := true, window := none, decision := none, pinShadow := r.pinShadow || r.shadowCast }

/-- The part once the lane's flag and shadow are set and its window is ended; whether the record was lost. -/
def State.standbyTold (s : State) (k : LaneNo) : State × Bool :=
  (s.setLane k { s.lane k with
    standby := true
    pinShadow := (s.lane k).pinShadow || (s.lane k).shadowCast }).cancelWindow k .link

theorem State.standbyLane_unserved {s : State} {k : LaneNo} (h : ¬(s.lane k).served) : s.standbyLane k = s := if_neg h

theorem State.standbyLane_served {s : State} {k : LaneNo} (h : (s.lane k).served) :
    s.standbyLane k =
      ((((s.standbyTold k).1.returnCard k).setStandbys k).overrunIf k (s.standbyTold k).2) := if_pos h

theorem State.quietStep_standbyTold (s : State) (k : LaneNo) : s.QuietStep (s.standbyTold k).1 :=
  (s.quietStep_setLane k _).trans (State.quietStep_cancelWindow _ k _)

theorem State.quietStep_standbyLane (s : State) (k : LaneNo) : s.QuietStep (s.standbyLane k) := by
  by_cases h : (s.lane k).served
  · rw [State.standbyLane_served h]
    exact (((s.quietStep_standbyTold k).trans (State.quietStep_returnCard _ k)).trans
      (State.quietStep_foldl_standby _ _)).trans (State.quietStep_overrunIf _ k _)
  · rw [State.standbyLane_unserved h]
    exact .refl s

/-- Behind the window, the card is returned and the units get STANDBY: the decision goes, and besides only runtime records
and the serial number change. -/
theorem State.standbyDirectives_units (s : State) (k : LaneNo) :
    ∃ units serial, (s.returnCard k).setStandbys k = { s.dropDecision k with units := units, serial := serial } := by
  obtain ⟨units, serial, returned⟩ := s.returnCard_units k
  obtain ⟨units', serial', set⟩ := State.foldl_standby_units ((s.returnCard k).boundSlots k) (s.returnCard k)
  exact ⟨units', serial', by rw [State.setStandbys, set, returned]⟩

/-- Standby of a served lane without a live window. -/
theorem State.standbyLane_quiet {s : State} {k : LaneNo} (served : (s.lane k).served) (quiet : ¬(s.lane k).windowLive) :
    ∃ units serial, s.standbyLane k =
      { s with lanes := s.lanes.set k (s.lane k).inStandby, units := units, serial := serial } := by
  have told : s.standbyTold k = ((s.setLane k { s.lane k with
      standby := true, pinShadow := (s.lane k).pinShadow || (s.lane k).shadowCast }).dropWindow k, false) :=
    State.cancelWindow_quiet (by simpa [LaneRecord.windowLive] using quiet) .link
  obtain ⟨units, serial, directives⟩ := (s.standbyTold k).1.standbyDirectives_units k
  refine ⟨units, serial, ?_⟩
  rw [State.standbyLane_served served, directives, told]
  simp [State.dropDecision, State.dropWindow, State.setLane, State.lane, LaneRecord.inStandby]

/-- The ENTRY_CANCELLED record of a lane that goes into standby. -/
theorem standby_record (tag : Word16) :
    eventRecord .entryCancelled tag [CancelReason.link.code] = [5, 7, hiByte tag, loByte tag, 4] := rfl

/-- A live window ends with a record that is stored or lost (R124). -/
theorem State.standbyTold_live {s : State} {k : LaneNo} (live : (s.lane k).windowLive) :
    (s.inFits k 5 = true ∧
        s.standbyTold k =
          ((s.setLane k { (s.lane k).inStandby with decision := (s.lane k).decision }).storeIn k
            [5, 7, hiByte (s.lane k).tag, loByte (s.lane k).tag, 4], false)) ∨
      (s.inFits k 5 = false ∧
        s.standbyTold k =
          ((s.setLane k { (s.lane k).inStandby with decision := (s.lane k).decision }).raiseAlert k .inOverrun 7 0,
            true)) := by
  let shown := s.setLane k { (s.lane k).inStandby with decision := (s.lane k).decision }
  have tag : (shown.lane k).tag = (s.lane k).tag := by simp [shown, LaneRecord.inStandby]
  have told : s.standbyTold k = shown.writeInternal k .entryCancelled [CancelReason.link.code] := by
    rw [State.standbyTold, State.cancelWindow_live (by simpa [LaneRecord.windowLive] using live)]
    simp [shown, State.dropWindow, State.setLane, State.lane, LaneRecord.inStandby]
  rw [told]
  have written := shown.writeInternal_cases k .entryCancelled [CancelReason.link.code]
  rwa [tag, standby_record] at written

/-- Standby of a served lane with a live window whose record fits. -/
theorem State.standbyLane_told {s : State} {k : LaneNo} (served : (s.lane k).served) (live : (s.lane k).windowLive)
    (fits : s.inFits k 5 = true) :
    ∃ units serial, s.standbyLane k =
      { s with
        lanes := s.lanes.set k (s.lane k).inStandby
        inbound := s.inbound.set k (s.inQueue k ++ [[5, 7, hiByte (s.lane k).tag, loByte (s.lane k).tag, 4]])
        units := units
        serial := serial } := by
  rcases s.standbyTold_live live with ⟨_, told⟩ | ⟨full, _⟩
  · obtain ⟨units, serial, directives⟩ := (s.standbyTold k).1.standbyDirectives_units k
    refine ⟨units, serial, ?_⟩
    rw [State.standbyLane_served served, directives, told]
    simp [State.dropDecision, State.storeIn, State.setInQueue, State.setLane, State.lane, LaneRecord.inStandby,
      State.inQueue]
  · exact absurd fits (by simp [full])

/-- Standby of a served lane with a live window whose record does not fit: the lane is FAULTED (R124, R147). -/
theorem State.standbyLane_lost {s : State} {k : LaneNo} (served : (s.lane k).served) (live : (s.lane k).windowLive)
    (full : s.inFits k 5 = false) :
    ∃ units serial, s.standbyLane k =
      { s with
        lanes := s.lanes.set k
          { s.lane k with
            phase := .faulted, standby := false, wakeMarks := [], confirms := [], window := none
            assembly := none, decision := none, pinShadow := false
            alerts :=
              ((s.lane k).alerts.set 4 (some (raisedEntry (s.lane k).alerts[4] 7 0))).set 7
                (some (raisedEntry (s.lane k).alerts[7] 4 0)) }
        units := units
        serial := serial } := by
  rcases s.standbyTold_live live with ⟨fits, _⟩ | ⟨_, told⟩
  · exact absurd full (by simp [fits])
  · obtain ⟨units, serial, directives⟩ := (s.standbyTold k).1.standbyDirectives_units k
    refine ⟨units, serial, ?_⟩
    rw [State.standbyLane_served served, directives, told, State.overrunIf_true]
    let w : State :=
      { s.setLane k { (s.lane k).inStandby with alerts := (s.lane k).alerts.raise .inOverrun 7 0 } with
        units := units, serial := serial }
    have lane : w.lane k = { (s.lane k).inStandby with alerts := (s.lane k).alerts.raise .inOverrun 7 0 } :=
      s.lane_setLane_same k _
    have before : { ((s.setLane k { (s.lane k).inStandby with decision := (s.lane k).decision }).raiseAlert k
        .inOverrun 7 0).dropDecision k with units := units, serial := serial } = w := by
      simp [w, State.dropDecision, State.raiseAlert, State.setLane, State.lane, LaneRecord.inStandby]
    have faults : w.overrun k = w.faultLane k .inOverrun := by
      rcases w.overrun_cases k with ⟨idle, _⟩ | ⟨_, faults⟩
      · rw [lane] at idle
        rcases served with phase | phase <;> simp [LaneRecord.inStandby, phase] at idle
      · exact faults
    rw [before, faults, State.faultLane_of_none (by rw [lane]; rfl), State.faultedFor, lane]
    simp [w, State.setLane, AlertSet.raise, AlertKind.ix, FaultReason.code, LaneRecord.inStandby]

end Sys2Proof.Machine
end

section
/-! SUPPORT. The silence timer's expiry. -/

namespace Sys2Proof.Machine

/-! ### Directives of a lane that goes into standby (R152) -/

/-- The readers of the tables are the same before and after an act that leaves the tables alone. -/
theorem State.QuietStep.bound {s t : State} (h : s.QuietStep t) (k : LaneNo) (n : SlotNo) : t.bound k n = s.bound k n := by
  simp [State.bound, State.record, h.tables]

theorem State.QuietStep.readerOf {s t : State} (h : s.QuietStep t) (k : LaneNo) : t.readerOf k = s.readerOf k := by
  simp [State.readerOf, State.boundSlots, State.bound, State.record, h.tables]

theorem State.QuietStep.inFits {s t : State} (h : s.QuietStep t) {k : LaneNo} (queue : t.inQueue k = s.inQueue k)
    (n : Nat) : t.inFits k n = s.inFits k n := by
  rw [State.inFits, State.inOccupancy, State.inCapacity, h.tables, queue]
  rfl

/-- Ending the window leaves the decision to be returned. -/
theorem State.standbyTold_decision (s : State) (k : LaneNo) :
    ((s.standbyTold k).1.lane k).decision = (s.lane k).decision := by
  by_cases live : (s.lane k).windowLive
  · rcases s.standbyTold_live live with ⟨_, told⟩ | ⟨_, told⟩ <;> rw [told]
    · simp [State.storeIn]
    · simp [State.raiseAlert]
  · rw [State.standbyTold, State.cancelWindow_quiet (by simpa [LaneRecord.windowLive] using live)]
    simp [State.dropWindow]

/-- A served lane that holds a decision has EJECT set for its reader. -/
theorem State.standbyLane_eject {s : State} {k : LaneNo} {n : SlotNo} (served : (s.lane k).served)
    (held : (s.lane k).decision ≠ none) (reader : s.readerOf k = some n) (enabled : (s.unit n).presence ≠ .disabled) :
    ((s.standbyLane k).unit n).directives.eject.isSome = true := by
  have told := s.quietStep_standbyTold k
  have returned : (((s.standbyTold k).1.returnCard k).unit n).directives.eject.isSome = true :=
    State.returnCard_eject (by rwa [State.standbyTold_decision]) (by rwa [told.readerOf]) (by rwa [(told.units n).presence])
  rw [State.standbyLane_served served]
  exact ((State.quietStep_foldl_standby _ _).trans (State.quietStep_overrunIf _ k _)).units n |>.eject returned

/-- Every bound unit of a served lane that is neither DISABLED nor to take REST has STANDBY set. -/
theorem State.standbyLane_standby {s : State} {k : LaneNo} {n : SlotNo} (served : (s.lane k).served)
    (bound : s.bound k n = true) (enabled : (s.unit n).presence ≠ .disabled)
    (rest : (s.unit n).directives.rest = none) :
    ((s.standbyLane k).unit n).directives.standby.isSome = true := by
  have returned := (s.quietStep_standbyTold k).trans (State.quietStep_returnCard _ k)
  have mem : n ∈ ((s.standbyTold k).1.returnCard k).boundSlots k := by
    rw [State.mem_boundSlots, returned.bound, bound]
  rw [State.standbyLane_served served]
  refine ((State.quietStep_overrunIf _ k _).units n).standby (State.foldl_standby_sets mem ?_ ?_)
  · rwa [(returned.units n).presence]
  · rwa [(returned.units n).rest]

/-! ### Every lane in its turn (R152) -/

/-- A lane's record and its inbound queue are the same in two states. -/
def State.SameLane (s t : State) (k : LaneNo) : Prop := t.lane k = s.lane k ∧ t.inQueue k = s.inQueue k

theorem State.SameLane.trans {s t u : State} {k : LaneNo} (st : s.SameLane t k) (tu : t.SameLane u k) :
    s.SameLane u k := ⟨tu.1.trans st.1, tu.2.trans st.2⟩

theorem State.sameLane_standbyLane (s : State) {j k : LaneNo} (other : j ≠ k) : s.SameLane (s.standbyLane k) j := by
  have apart : k.val ≠ j.val := Fin.val_ne_of_ne other.symm
  by_cases served : (s.lane k).served
  · by_cases live : (s.lane k).windowLive
    · cases fits : s.inFits k 5
      · obtain ⟨units, serial, h⟩ := State.standbyLane_lost served live fits
        rw [h]
        simp [State.SameLane, State.lane, State.inQueue, Vector.getElem_set_ne, apart]
      · obtain ⟨units, serial, h⟩ := State.standbyLane_told served live fits
        rw [h]
        simp [State.SameLane, State.lane, State.inQueue, Vector.getElem_set_ne, apart]
    · obtain ⟨units, serial, h⟩ := State.standbyLane_quiet served live
      rw [h]
      simp [State.SameLane, State.lane, State.inQueue, Vector.getElem_set_ne, apart]
  · rw [State.standbyLane_unserved served]
    exact ⟨rfl, rfl⟩

/-- Lanes that are not in the list keep their record and their inbound queue. -/
theorem State.foldl_standbyLane_other {ks : List LaneNo} {k : LaneNo} (out : k ∉ ks) (s : State) :
    s.SameLane (ks.foldl State.standbyLane s) k := by
  induction ks generalizing s with
  | nil => exact ⟨rfl, rfl⟩
  | cons j rest ih =>
    obtain ⟨other, later⟩ : k ≠ j ∧ k ∉ rest := by simpa using out
    exact (s.sameLane_standbyLane other).trans (ih later _)

theorem State.quietStep_foldl_standbyLane (ks : List LaneNo) (s : State) :
    s.QuietStep (ks.foldl State.standbyLane s) := by
  induction ks generalizing s with
  | nil => exact .refl s
  | cons k rest ih => exact (s.quietStep_standbyLane k).trans (ih _)

/-- A lane of the list goes into standby from the record and the queue that it had at first, and keeps what comes of it. -/
theorem State.foldl_standbyLane_turn {ks : List LaneNo} {k : LaneNo} (mem : k ∈ ks) (once : ks.Nodup) (s : State) :
    ∃ m, s.QuietStep m ∧ s.SameLane m k ∧ (m.standbyLane k).QuietStep (ks.foldl State.standbyLane s) ∧
      (m.standbyLane k).SameLane (ks.foldl State.standbyLane s) k := by
  induction ks generalizing s with
  | nil => simp at mem
  | cons j rest ih =>
    obtain ⟨out, once'⟩ := List.nodup_cons.mp once
    rw [List.foldl_cons]
    by_cases same : k = j
    · subst same
      exact ⟨s, .refl s, ⟨rfl, rfl⟩, State.quietStep_foldl_standbyLane _ _, State.foldl_standbyLane_other out _⟩
    · obtain ⟨m, before, lane, after, result⟩ := ih ((List.mem_cons.mp mem).resolve_left same) once' (s.standbyLane j)
      exact ⟨m, (s.quietStep_standbyLane j).trans before, (s.sameLane_standbyLane same).trans lane, after, result⟩

/-! ### Words of the statement -/

theorem WindowPhase.live_iff (p : WindowPhase) : p.live = true ↔ p = .collecting ∨ p = .awaitBlock := by
  cases p <;> simp [WindowPhase.live]

/-- The silence timer's expiry, told of the whole part. -/
theorem exec_silenceTimerExpiry_running {s : State} (live : s.link.state = .live) (on : s.link.inForce.silence ≠ 0) :
    exec .silenceTimerExpiry s = .next s.goQuiet.selectNew := by
  simp [exec, execSilenceTimerExpiry, finish, State.silenceRuns, live, on]

theorem exec_silenceTimerExpiry_stopped {s : State} (h : s.link.state = .quiet ∨ s.link.inForce.silence = 0) :
    exec .silenceTimerExpiry s = .next s.selectNew := by
  rcases h with h | h <;> simp [exec, execSilenceTimerExpiry, finish, State.silenceRuns, h]

end Sys2Proof.Machine

namespace Sys2Proof.Proofs

open Sys2Proof.Machine

/-- Settles O29: each lane goes into standby in its turn, and no other lane's turn touches its record or its queue. -/
theorem silenceTakesLanesIntoStandby : Obligations.SilenceTakesLanesIntoStandby := by
  intro s
  refine ⟨exec_silenceTimerExpiry_stopped, fun live on => ?_⟩
  let q : State := s.setLink { s.link with state := .quiet, silenceCount := 0 }
  have all : q.QuietStep s.goQuiet := State.quietStep_foldl_standbyLane allLanes q
  refine ⟨s.goQuiet, exec_silenceTimerExpiry_running live on, all.link, all.tables, all.outbound, all.engines, all.notices,
    fun k => ?_⟩
  obtain ⟨m, before, ⟨lane, queue⟩, after, ⟨lane', queue'⟩⟩ :=
    State.foldl_standbyLane_turn (List.mem_finRange k) (List.nodup_finRange 8) q
  change s.goQuiet.lane k = _ at lane'
  change s.goQuiet.inQueue k = _ at queue'
  change (m.standbyLane k).QuietStep s.goQuiet at after
  change m.lane k = s.lane k at lane
  change m.inQueue k = s.inQueue k at queue
  have fits : m.inFits k 5 = s.inFits k 5 := before.inFits queue 5
  intro served windowLive pinLive
  have isLive : windowLive ↔ (m.lane k).windowLive := by
    simp only [windowLive, LaneRecord.windowLive, WindowPhase.live_iff, lane]
  have isServed : served ↔ (m.lane k).served := by rw [lane]; rfl
  have shadow : ((s.lane k).pinShadow = true ∨ pinLive) ↔ (s.lane k).inStandby.pinShadow = true := by
    have cast : pinLive ↔ (s.lane k).shadowCast = true := by
      simp only [pinLive, LaneRecord.shadowCast]
      cases (s.lane k).window with
      | none => simp
      | some w =>
        obtain ⟨phase, what, chain, mark⟩ := w
        cases what <;> cases phase <;> simp [Window.castsShadow]
    simp [LaneRecord.inStandby, cast]
  refine ⟨fun unserved => ?_, fun yes room => ⟨fun shadow' same => ?_, fun quiet => ?_, fun live => ?_⟩,
    fun yes live full => ?_, fun yes held n reader enabled => ?_, fun yes n bound enabled rest => ?_⟩
  · rw [lane', queue', State.standbyLane_unserved (unserved ∘ isServed.mpr)]
    exact ⟨lane, queue⟩
  · have result : (m.standbyLane k).lane k = (m.lane k).inStandby := by
      by_cases live : (m.lane k).windowLive
      · obtain ⟨units, serial, h⟩ :=
          State.standbyLane_told (isServed.mp yes) live (fits.trans (room (isLive.mpr live)))
        rw [h]
        simp [State.lane]
      · obtain ⟨units, serial, h⟩ := State.standbyLane_quiet (isServed.mp yes) live
        rw [h]
        simp [State.lane]
    have flag : (s.lane k).inStandby.pinShadow = shadow' := Bool.eq_iff_iff.mpr (shadow.symm.trans same)
    rw [lane', result, lane, ← flag]
    rfl
  · obtain ⟨units, serial, h⟩ := State.standbyLane_quiet (isServed.mp yes) (quiet ∘ isLive.mpr)
    rw [queue', h, ← queue]
    rfl
  · obtain ⟨units, serial, h⟩ := State.standbyLane_told (isServed.mp yes) (isLive.mp live) (fits.trans (room live))
    rw [queue', h, ← queue, ← lane]
    simp [State.inQueue]
  · obtain ⟨units, serial, h⟩ := State.standbyLane_lost (isServed.mp yes) (isLive.mp live) (fits.trans full)
    rw [queue', lane', h, ← queue, ← lane]
    simp [State.inQueue, State.lane]
  · refine (after.units n).eject (State.standbyLane_eject (isServed.mp yes) (by rwa [lane]) ?_ ?_)
    · rw [before.readerOf]
      exact reader
    · rw [(before.units n).presence]
      exact enabled
  · refine (after.units n).standby (State.standbyLane_standby (isServed.mp yes) ?_ ?_ ?_)
    · rw [before.bound]
      exact bound
    · rw [(before.units n).presence]
      exact enabled
    · rw [(before.units n).rest]
      exact rest

end Sys2Proof.Proofs
end

section
/-! SUPPORT. What any command but a good frame can do to the transmitter, the penalty flags and the inbound queues: store
records, flush a queue, select a source. Said once for each operation of the model, in the order of the model's files. -/

namespace Sys2Proof.Machine

/-- `t` comes of `s` by acts that leave the transmitter, the penalty flags and the inbound queues alone, by records stored
in inbound queues, by flushes of inbound queues, and by selections. -/
inductive State.Moves (s : State) : State → Prop
  | refl : State.Moves s s
  | same {t u : State} (h : State.Moves s t) (tx : u.link.tx = t.link.tx) (penalty : u.link.penalty = t.link.penalty)
      (inbound : u.inbound = t.inbound) : State.Moves s u
  | storeIn {t : State} (h : State.Moves s t) (k : LaneNo) (r : List Byte) : State.Moves s (t.storeIn k r)
  | flushIn {t : State} (h : State.Moves s t) (k : LaneNo) : State.Moves s (t.flushIn k)
  | select {t : State} (h : State.Moves s t) (src : Source) : State.Moves s (t.select src)

namespace State.Moves

variable {s t : State}

/-! ### Named operations (Ops) -/

@[simp] theorem storeIn' (h : s.Moves t) (k : LaneNo) (r : List Byte) : s.Moves (t.storeIn k r) := h.storeIn k r
@[simp] theorem flushIn' (h : s.Moves t) (k : LaneNo) : s.Moves (t.flushIn k) := h.flushIn k
@[simp] theorem setLane (h : s.Moves t) (k : LaneNo) (r : LaneRecord) : s.Moves (t.setLane k r) := h.same rfl rfl rfl
@[simp] theorem setUnit (h : s.Moves t) (n : SlotNo) (u : UnitRun) : s.Moves (t.setUnit n u) := h.same rfl rfl rfl
@[simp] theorem setEngine (h : s.Moves t) (l : Line) (e : Engine) : s.Moves (t.setEngine l e) := h.same rfl rfl rfl
@[simp] theorem setNotices (h : s.Moves t) (n : NoticeSet) : s.Moves (t.setNotices n) := h.same rfl rfl rfl
@[simp] theorem setReply (h : s.Moves t) (r : Option (List Byte)) : s.Moves (t.setReply r) := h.same rfl rfl rfl
@[simp] theorem setTables (h : s.Moves t) (x : Tables) : s.Moves (t.setTables x) := h.same rfl rfl rfl
@[simp] theorem setEntry (h : s.Moves t) (n : SlotNo) (x : SlotEntry) : s.Moves (t.setEntry n x) := h.same rfl rfl rfl

@[simp] theorem setOutQueue (h : s.Moves t) (k : LaneNo) (q : List OutRecord) : s.Moves (t.setOutQueue k q) :=
  h.same rfl rfl rfl

@[simp] theorem storeOut (h : s.Moves t) (k : LaneNo) (r : List Byte) : s.Moves (t.storeOut k r) := h.same rfl rfl rfl

theorem setLink (h : s.Moves t) {p : LinkPort} (tx : p.tx = t.link.tx) (penalty : p.penalty = t.link.penalty) :
    s.Moves (t.setLink p) := h.same tx penalty rfl

@[simp] theorem raiseAlert (h : s.Moves t) (k : LaneNo) (kind : AlertKind) (d1 d2 : Byte) :
    s.Moves (t.raiseAlert k kind d1 d2) := h.setLane k _

@[simp] theorem raiseNotice (h : s.Moves t) (kind : NoticeKind) (d1 d2 : Byte) : s.Moves (t.raiseNotice kind d1 d2) :=
  h.setNotices _

/-- Acts made one after another for the members of a list. -/
theorem foldl {α : Type} {f : State → α → State} (step : ∀ t x, s.Moves t → s.Moves (f t x)) (xs : List α)
    (h : s.Moves t) : s.Moves (xs.foldl f t) := by
  induction xs generalizing t with
  | nil => exact h
  | cons x rest ih => exact ih (step t x h)

@[simp] theorem clearHeadAttempts (h : s.Moves t) (k : LaneNo) : s.Moves (t.clearHeadAttempts k) :=
  foldl (fun _ _ h => h.setUnit _ _) _ h

@[simp] theorem flushOut (h : s.Moves t) (k : LaneNo) : s.Moves (t.flushOut k) := (h.setOutQueue k _).clearHeadAttempts k
@[simp] theorem dropHead (h : s.Moves t) (k : LaneNo) : s.Moves (t.dropHead k) := (h.setOutQueue k _).clearHeadAttempts k

@[simp] theorem setDirective (h : s.Moves t) (n : SlotNo) (d : Directive) : s.Moves (t.setDirective n d) := by
  rcases t.setDirective_eq n d with e | ⟨_, e⟩ <;> rw [e]
  · exact h
  · exact h.same rfl rfl rfl

@[simp] theorem setDirectiveFor (h : s.Moves t) (n : Option SlotNo) (d : Directive) : s.Moves (t.setDirectiveFor n d) := by
  cases n with
  | none => exact h
  | some n => exact h.setDirective n d

@[simp] theorem countIgnored (h : s.Moves t) (n : SlotNo) (count : Nat) : s.Moves (t.countIgnored n count) :=
  h.setUnit n _

/-! ### Selections (Arbiter) -/

@[simp] theorem selectNew (h : s.Moves t) : s.Moves t.selectNew := by
  rcases t.selectNew_cases with ⟨_, e⟩ | ⟨_, src, _, e⟩ | ⟨_, _, e⟩ <;> rw [e]
  · exact h
  · exact h.select src
  · exact (h.select _).same rfl rfl rfl

@[simp] theorem atOnce (h : s.Moves t) (before : State) : s.Moves (before.atOnce t) := by
  unfold State.atOnce
  split
  · exact h.selectNew
  · exact h

/-! ### Records -/

@[simp] theorem applyRecord (h : s.Moves t) (n : SlotNo) (r : UnitRecord) : s.Moves (t.applyRecord n r) :=
  (h.setUnit n _).setEntry n _

@[simp] theorem applyStaged (h : s.Moves t) (n : SlotNo) : s.Moves (t.applyStaged n) := by
  unfold State.applyStaged
  split
  · exact h
  · split
    · exact h.applyRecord n _
    · exact h

@[simp] theorem applyAllStaged (h : s.Moves t) : s.Moves t.applyAllStaged := foldl (fun _ n h => h.applyStaged n) _ h

/-! ### Lanes -/

@[simp] theorem dropDecision (h : s.Moves t) (k : LaneNo) : s.Moves (t.dropDecision k) := h.setLane k _

@[simp] theorem faultDecision (h : s.Moves t) (k : LaneNo) : s.Moves (t.faultDecision k) := by
  unfold State.faultDecision
  split
  · exact h
  · split
    · exact h.dropDecision k
    · split
      · exact (h.dropDecision k).setDirective _ _
      · exact h.dropDecision k

@[simp] theorem faultLane (h : s.Moves t) (k : LaneNo) (reason : FaultReason) : s.Moves (t.faultLane k reason) :=
  ((h.setLane k _).faultDecision k).raiseAlert k _ _ _

@[simp] theorem overrun (h : s.Moves t) (k : LaneNo) : s.Moves (t.overrun k) := by
  rcases t.overrun_cases k with ⟨_, e⟩ | ⟨_, e⟩ <;> simp [e, h]

@[simp] theorem overrunIf (h : s.Moves t) (k : LaneNo) (lost : Bool) : s.Moves (t.overrunIf k lost) := by
  cases lost <;> simp [h]

@[simp] theorem writeInternal (h : s.Moves t) (k : LaneNo) (kind : EventKind) (content : List Byte) :
    s.Moves (t.writeInternal k kind content).1 := by
  rcases t.writeInternal_cases k kind content with ⟨_, e⟩ | ⟨_, e⟩ <;> simp [e, h]

@[simp] theorem written {w : State × Bool} (h : s.Moves w.1) (before : State) (k : LaneNo) :
    s.Moves (before.written k w) := by
  unfold State.written
  split <;> simp [h]

@[simp] theorem report (h : s.Moves t) (k : LaneNo) (kind : EventKind) (content : List Byte) :
    s.Moves (t.report k kind content) := (h.writeInternal k kind content).written t k

@[simp] theorem endClosing (h : s.Moves t) (k : LaneNo) : s.Moves (t.endClosing k) :=
  (((h.setLane k _).writeInternal k _ _).setLane k _).applyAllStaged

@[simp] theorem checkClosing (h : s.Moves t) (k : LaneNo) : s.Moves (t.checkClosing k) := by
  unfold State.checkClosing
  split <;> simp [h]

@[simp] theorem confirmMove (h : s.Moves t) (k : LaneNo) (n : SlotNo) (f : Confirmation → Confirmation) :
    s.Moves (t.confirmMove k n f) := by
  unfold State.confirmMove
  split <;> simp [h]

@[simp] theorem dropWindow (h : s.Moves t) (k : LaneNo) : s.Moves (t.dropWindow k) := h.setLane k _

@[simp] theorem cancelWindow (h : s.Moves t) (k : LaneNo) (reason : CancelReason) :
    s.Moves (t.cancelWindow k reason).1 := by
  by_cases live : (t.lane k).windowLive
  · simp [State.cancelWindow_live live, h]
  · simp [State.cancelWindow_quiet live, h]

@[simp] theorem returnCard (h : s.Moves t) (k : LaneNo) : s.Moves (t.returnCard k) := by
  unfold State.returnCard
  split <;> simp [h]

@[simp] theorem setRests (h : s.Moves t) (k : LaneNo) : s.Moves (t.setRests k) := by
  refine foldl (fun t n h => ?_) _ h
  split <;> simp [h]

@[simp] theorem beginClosing (h : s.Moves t) (k : LaneNo) : s.Moves (t.beginClosing k).1 :=
  ((((((h.setLane k _).flushOut k).cancelWindow k .closed).setLane k _).returnCard k).setLane k _).setRests k

@[simp] theorem enterClosing (h : s.Moves t) (k : LaneNo) : s.Moves (t.enterClosing k) :=
  ((h.beginClosing k).checkClosing k).overrunIf k _

@[simp] theorem checkOpening (h : s.Moves t) (k : LaneNo) : s.Moves (t.checkOpening k) := by
  unfold State.checkOpening
  split <;> simp [h]

@[simp] theorem wakeTaken (h : s.Moves t) (k : LaneNo) (n : SlotNo) : s.Moves (t.wakeTaken k n) := by
  unfold State.wakeTaken
  split <;> simp [h]

@[simp] theorem setWakes (h : s.Moves t) (k : LaneNo) : s.Moves (t.setWakes k) :=
  foldl (fun _ n h => h.setDirective n _) _ h

@[simp] theorem beginOpening (h : s.Moves t) (k : LaneNo) (tag : Word16) : s.Moves (t.beginOpening k tag) :=
  ((h.setLane k _).setWakes k).checkOpening k

@[simp] theorem laneUnitLost (h : s.Moves t) (k : LaneNo) (n : SlotNo) : s.Moves (t.laneUnitLost k n) := by
  have told := (h.raiseAlert k .unitLost (t.record n).kind.role 0).atOnce t
  unfold State.laneUnitLost
  dsimp only
  split
  · exact told.faultLane k _
  · exact told.faultLane k _
  · exact told.confirmMove k n _
  · exact told
  · exact told

@[simp] theorem laneUnitRestart (h : s.Moves t) (k : LaneNo) (n : SlotNo) : s.Moves (t.laneUnitRestart k n) := by
  unfold State.laneUnitRestart
  split <;> simp [h]

@[simp] theorem restartDetected (h : s.Moves t) (n : SlotNo) : s.Moves (t.restartDetected n) := by
  unfold State.restartDetected
  dsimp only
  split <;> simp [h]

@[simp] theorem setStandbys (h : s.Moves t) (k : LaneNo) : s.Moves (t.setStandbys k) :=
  foldl (fun _ n h => h.setDirective n _) _ h

@[simp] theorem standbyLane (h : s.Moves t) (k : LaneNo) : s.Moves (t.standbyLane k) := by
  unfold State.standbyLane
  split
  · exact ((((h.setLane k _).cancelWindow k .link).returnCard k).setStandbys k).overrunIf k _
  · exact h

@[simp] theorem standbyAll (h : s.Moves t) : s.Moves t.standbyAll := foldl (fun _ k h => h.standbyLane k) _ h

@[simp] theorem clearStandby (h : s.Moves t) : s.Moves t.clearStandby := foldl (fun _ k h => h.setLane k _) _ h

@[simp] theorem resolveDecision (h : s.Moves t) (k : LaneNo) (d : CardDecision) (keep : Bool) (cause : Byte) :
    s.Moves (t.resolveDecision k d keep cause) :=
  ((h.dropDecision k).setDirective d.slot _).report k _ _

/-! ### Delivery -/

@[simp] theorem dropDirective (h : s.Moves t) (n : SlotNo) (d : Directive) : s.Moves (t.dropDirective n d) := h.setUnit n _

@[simp] theorem keypadTook (h : s.Moves t) (n : SlotNo) : s.Moves (t.keypadTook n) := by
  unfold State.keypadTook
  split
  · exact h
  · split <;> simp [h]

@[simp] theorem beginTaken (h : s.Moves t) (k : LaneNo) (n : SlotNo) (r : List Byte) : s.Moves (t.beginTaken k n r) := by
  have replaced := (h.cancelWindow k .replaced).written t k
  unfold State.beginTaken
  dsimp only
  split
  · split
    · simp [h]
    · split <;> simp [replaced]
  · exact h

@[simp] theorem unlockTaken (h : s.Moves t) (k : LaneNo) : s.Moves (t.unlockTaken k) := by
  unfold State.unlockTaken
  split
  · exact h
  · split <;> simp [h]

@[simp] theorem windowEffect (h : s.Moves t) (k : LaneNo) (n : SlotNo) (r : List Byte) :
    s.Moves (t.windowEffect k n r) := by
  unfold State.windowEffect
  split <;> simp [h]

@[simp] theorem recordTaken (h : s.Moves t) (k : LaneNo) (n : SlotNo) (r : List Byte) (attempts : Nat) :
    s.Moves (t.recordTaken k n r attempts) := by
  have effect := (h.windowEffect k n r).atOnce t
  unfold State.recordTaken
  dsimp only
  split
  · exact effect.report k _ _
  · exact effect

@[simp] theorem directiveTaken (h : s.Moves t) (n : SlotNo) (d : Directive) : s.Moves (t.directiveTaken n d) := by
  unfold State.directiveTaken
  split <;> simp [h]

@[simp] theorem takeItem (h : s.Moves t) (n : SlotNo) (it : Item) : s.Moves (t.takeItem n it) := by
  cases it with
  | directive d serial => exact ((h.dropDirective n d).keypadTook n).directiveTaken n d
  | record k serial =>
    unfold State.takeItem
    dsimp only
    split
    · exact h
    · exact ((h.dropHead k).keypadTook n).recordTaken k n _ _

@[simp] theorem settleTaken (h : s.Moves t) (n : SlotNo) (it : Item) : s.Moves (t.settleTaken n it) := by
  unfold State.settleTaken
  dsimp only
  split <;> simp [h]

@[simp] theorem undelivered (h : s.Moves t) (n : SlotNo) (code : Byte) : s.Moves (t.undelivered n code) := by
  unfold State.undelivered
  split <;> simp [h]

@[simp] theorem directiveGivenUp (h : s.Moves t) (n : SlotNo) (d : Directive) : s.Moves (t.directiveGivenUp n d) := by
  unfold State.directiveGivenUp
  split
  · split <;> simp [h]
  all_goals simp [h]

@[simp] theorem giveUp (h : s.Moves t) (n : SlotNo) (it : Item) : s.Moves (t.giveUp n it) := by
  cases it with
  | directive d serial => exact (((h.dropDirective n d).undelivered n d.code).atOnce t).directiveGivenUp n d
  | record k serial =>
    unfold State.giveUp
    dsimp only
    split <;> simp [h]

@[simp] theorem countAttempt (h : s.Moves t) (n : SlotNo) (it : Item) : s.Moves (t.countAttempt n it) := by
  unfold State.countAttempt
  split
  · split <;> simp [h]
  · exact h

@[simp] theorem setDoubt (h : s.Moves t) (n : SlotNo) (d : Option Item) : s.Moves (t.setDoubt n d) := h.setUnit n _

@[simp] theorem commandEnds (h : s.Moves t) (n : SlotNo) (it : Item) (o : ExchangeOutcome) :
    s.Moves (t.commandEnds n it o) := by
  unfold State.commandEnds
  split
  · split <;> simp [h]
  · simp [h]

@[simp] theorem settleDoubt (h : s.Moves t) (n : SlotNo) (r : Reply) : s.Moves (t.settleDoubt n r) := by
  unfold State.settleDoubt
  split
  · exact h
  · split <;> simp [h]

@[simp] theorem settleItems (h : s.Moves t) (x : Exchange) (o : ExchangeOutcome) (trusted : Bool) :
    s.Moves (t.settleItems x o trusted) := by
  unfold State.settleItems
  split
  case h_3 | h_4 => split <;> simp [h]
  all_goals simp [h]


end State.Moves
end Sys2Proof.Machine
end

section
/-! SUPPORT. The same for replies, exchanges and the drop line engines. -/

namespace Sys2Proof.Machine.State.Moves

variable {s t : State}

/-! ### Replies -/

@[simp] theorem setWindow (h : s.Moves t) (k : LaneNo) (w : Window) : s.Moves (t.setWindow k w) := h.setLane k _

theorem acceptWith (h : s.Moves t) (k : LaneNo) (record : Option (List Byte)) {changed : State → State}
    (hc : s.Moves (changed t)) : s.Moves (t.acceptWith k record changed).after := by
  rcases t.acceptWith_cases k record changed with ⟨_, e⟩ | ⟨r, _, _, e⟩ | ⟨r, _, _, e⟩ <;> simp [e, h, hc]

@[simp] theorem discardKeys (h : s.Moves t) (n : SlotNo) (count : Nat) : s.Moves (t.discardKeys n count).after :=
  h.countIgnored n count

@[simp] theorem collectKeys (h : s.Moves t) (k : LaneNo) (n : SlotNo) (w : Window) (keys : List LogicalKey) :
    s.Moves (t.collectKeys k n w keys).after := by
  unfold State.collectKeys
  split <;> exact h.acceptWith k _ ((h.setWindow k _).countIgnored n _)

@[simp] theorem openKeys (h : s.Moves t) (k : LaneNo) (n : SlotNo) (keys : List LogicalKey) :
    s.Moves (t.openKeys k n keys).after := by
  unfold State.openKeys
  split
  · exact h
  · split
    · split
      · exact h.discardKeys n _
      · exact h.acceptWith k _ h
    · split <;> simp [h]

@[simp] theorem laneCall (h : s.Moves t) (k : LaneNo) (cause : Byte) : s.Moves (t.laneCall k cause).after := by
  unfold State.laneCall
  split
  · exact h
  · exact h.acceptWith k _ (h.setLane k _)

@[simp] theorem takeKeys (h : s.Moves t) (k : LaneNo) (n : SlotNo) (marked : Prop) [Decidable marked] (raws : List Byte) :
    s.Moves (t.takeKeys k n marked raws).after := by
  unfold State.takeKeys
  split
  case h_3 =>
    split
    · split <;> simp [h]
    · exact h.discardKeys n _
  all_goals simp [h]

@[simp] theorem takeFragment (h : s.Moves t) (k : LaneNo) (n : SlotNo) (flags : Byte) (chars : List Byte) :
    s.Moves (t.takeFragment k n flags chars).after := by
  unfold State.takeFragment
  split
  · exact h.countIgnored n _
  · exact (h.setLane k _).countIgnored n _
  · exact h.acceptWith k _ ((h.setLane k _).countIgnored n _)

@[simp] theorem takeCard (h : s.Moves t) (k : LaneNo) (n : SlotNo) (payload : List Byte) :
    s.Moves (t.takeCard k n payload).after := by
  unfold State.takeCard
  split
  case h_2 => split <;> simp [h]
  case h_3 =>
    split
    · exact h
    · split
      · exact h
      · split <;> simp [h]
  all_goals simp [h]

@[simp] theorem applyStatus (h : s.Moves t) (n : SlotNo) (e : StatusEffect) : s.Moves (t.applyStatus n e) := by
  cases e <;> simp [State.applyStatus, h]

@[simp] theorem takeStatus (h : s.Moves t) (k : LaneNo) (n : SlotNo) (b : Byte) : s.Moves (t.takeStatus k n b).after := by
  unfold State.takeStatus
  dsimp only
  split
  · exact h.applyStatus n _
  · exact h.acceptWith k _ (h.applyStatus n _)

@[simp] theorem refuseBlock (h : s.Moves t) (n : SlotNo) : s.Moves (t.refuseBlock n).after := h.countIgnored n 1

@[simp] theorem openBlock (h : s.Moves t) (k : LaneNo) (n : SlotNo) (block : List Byte) :
    s.Moves (t.openBlock k n block).after := by
  unfold State.openBlock
  split
  · exact h.refuseBlock n
  · split
    · split
      · exact h.acceptWith k _ (h.setWindow k _)
      · exact h.refuseBlock n
    · exact h.refuseBlock n

@[simp] theorem takeBlock (h : s.Moves t) (k : LaneNo) (n : SlotNo) (block : List Byte) :
    s.Moves (t.takeBlock k n block).after := by
  unfold State.takeBlock
  split <;> simp [h]

@[simp] theorem dropMark (h : s.Moves t) (k : LaneNo) : s.Moves (t.dropMark k) := by
  unfold State.dropMark
  split <;> simp [h]

@[simp] theorem takeData (h : s.Moves t) (k : LaneNo) (n : SlotNo) (r : Reply) : s.Moves (t.takeData k n r).after := by
  have marked : s.Moves (if (t.markMet k n).isSome then t.dropMark k else t) := by split <;> simp [h]
  unfold State.takeData
  dsimp only
  split
  · exact marked.takeKeys k n _ _
  · exact marked.takeCard k n _
  · exact marked.takeStatus k n _
  · exact marked.takeBlock k n _
  · exact marked

@[simp] theorem newData (h : s.Moves t) (k : LaneNo) (n : SlotNo) (r : Reply) : s.Moves (t.newData k n r) :=
  ((h.takeData k n r).setUnit n _).confirmMove k n _

@[simp] theorem handleKind (h : s.Moves t) (k : LaneNo) (n : SlotNo) (r : Reply) : s.Moves (t.handleKind k n r) := by
  unfold State.handleKind
  split
  · exact (h.setUnit n _).confirmMove k n _
  · split <;> simp [h]

@[simp] theorem shutDone (h : s.Moves t) (k : LaneNo) : s.Moves (t.shutDone k) := by
  unfold State.shutDone
  split
  · exact h
  · split
    · split <;> simp [h]
    · exact h

@[simp] theorem handleReply (h : s.Moves t) (n : SlotNo) (kind : TelegramKind) (r : Reply) :
    s.Moves (t.handleReply n kind r) := by
  unfold State.handleReply
  split
  · exact h
  · split <;> simp [h]

/-! ### Exchanges -/

@[simp] theorem countOutcome (h : s.Moves t) (n : SlotNo) (o : ExchangeOutcome) : s.Moves (t.countOutcome n o) :=
  h.setUnit n _

@[simp] theorem unitBack (h : s.Moves t) (n : SlotNo) : s.Moves (t.unitBack n) := by
  unfold State.unitBack
  split <;> simp [h]

@[simp] theorem lockUnit (h : s.Moves t) (n : SlotNo) : s.Moves (t.lockUnit n) := by
  unfold State.lockUnit
  dsimp only
  split <;> simp [h]

@[simp] theorem loseUnit (h : s.Moves t) (n : SlotNo) : s.Moves (t.loseUnit n) := by
  unfold State.loseUnit
  dsimp only
  split <;> simp [h]

@[simp] theorem presenceValid (h : s.Moves t) (n : SlotNo) (kind : TelegramKind) : s.Moves (t.presenceValid n kind) := by
  unfold State.presenceValid
  dsimp only
  split
  case h_4 | h_5 => split <;> simp [h]
  all_goals simp [h]

@[simp] theorem presenceFailed (h : s.Moves t) (n : SlotNo) : s.Moves (t.presenceFailed n) := by
  unfold State.presenceFailed
  split
  case h_3 => split <;> simp [h]
  all_goals simp [h]

@[simp] theorem outcomePresence (h : s.Moves t) (n : SlotNo) (kind : TelegramKind) (o : ExchangeOutcome) :
    s.Moves (t.outcomePresence n kind o) := by
  unfold State.outcomePresence
  split <;> simp [h]

@[simp] theorem outcomeReply (h : s.Moves t) (x : Exchange) (trusted : Bool) (o : ExchangeOutcome) :
    s.Moves (t.outcomeReply x trusted o) := by
  unfold State.outcomeReply
  split
  · split <;> simp [h]
  · exact h

@[simp] theorem outcomeSettled (h : s.Moves t) (x : Exchange) (o : ExchangeOutcome) : s.Moves (t.outcomeSettled x o) :=
  ((h.outcomePresence x.slot x.kind o).atOnce t).settleItems x o _

@[simp] theorem handleOutcome (h : s.Moves t) (x : Exchange) (o : ExchangeOutcome) : s.Moves (t.handleOutcome x o) :=
  ((h.outcomeSettled x o).atOnce t).outcomeReply x _ o

@[simp] theorem giveOutcome (h : s.Moves t) (x : Exchange) (o : ExchangeOutcome) : s.Moves (t.giveOutcome x o) := by
  unfold State.giveOutcome
  split <;> simp [h]

/-! ### Engines -/

@[simp] theorem retune (h : s.Moves t) (l : Line) : s.Moves (t.retune l) := by
  simp [State.retune_eq, h]

@[simp] theorem refresh (h : s.Moves t) (l : Line) : s.Moves (t.refresh l) := by
  simp [State.refresh_eq, h]

@[simp] theorem startRun (h : s.Moves t) (l : Line) (n : SlotNo) (atEntry : Bool) : s.Moves (t.startRun l n atEntry) :=
  (h.setUnit n _).setEngine l _

@[simp] theorem entryDue (h : s.Moves t) (l : Line) (p : Nat) (n : SlotNo) (a : EntryAction) :
    s.Moves (t.entryDue l p n a) := by
  unfold State.entryDue
  dsimp only
  split <;> simp [h]

@[simp] theorem sweepDue (h : s.Moves t) (l : Line) : s.Moves (t.sweepDue l) := h.setEngine l _
@[simp] theorem waitTick (h : s.Moves t) (l : Line) : s.Moves (t.waitTick l) := h.setEngine l _

@[simp] theorem beginPass (h : s.Moves t) (l : Line) : s.Moves (t.beginPass l) := by
  unfold State.beginPass
  dsimp only
  split
  · simp [h]
  · split <;> simp [h]

@[simp] theorem endPass (h : s.Moves t) (l : Line) : s.Moves (t.endPass l) := by
  unfold State.endPass
  split
  · exact h.sweepDue l
  · split <;> simp [h]

@[simp] theorem reachNext (h : s.Moves t) (l : Line) : s.Moves (t.reachNext l) := by
  unfold State.reachNext
  split
  · exact h.endPass l
  · split <;> simp [h]

@[simp] theorem passEntry (h : s.Moves t) (l : Line) : s.Moves (t.passEntry l) := h.setEngine l _

@[simp] theorem endRun (h : s.Moves t) (l : Line) (r : ConfirmRun) : s.Moves (t.endRun l r) := by
  unfold State.endRun
  dsimp only
  split <;> simp [h]

@[simp] theorem nextDue (h : s.Moves t) (l : Line) : s.Moves (t.nextDue l) := by
  unfold State.nextDue
  split <;> simp [h]

@[simp] theorem advance (h : s.Moves t) (l : Line) : s.Moves (t.advance l) := by
  unfold State.advance
  split
  · exact h.nextDue l
  · split <;> simp [h]

@[simp] theorem wakeEngine (h : s.Moves t) (l : Line) : s.Moves (t.wakeEngine l) := by
  unfold State.wakeEngine
  split <;> simp [h]

@[simp] theorem adopt (h : s.Moves t) (l : Line) : s.Moves (t.adopt l) := by
  unfold State.adopt
  split
  · exact h
  · exact h.setTables _

@[simp] theorem recheck (h : s.Moves t) (l : Line) : s.Moves (t.recheck l) := by
  unfold State.recheck
  split
  · split <;> simp [h]
  · split
    · exact h.reachNext l
    · split <;> simp [h]
  · exact h

@[simp] theorem beginExchange (h : s.Moves t) (l : Line) (n : SlotNo) : s.Moves (t.beginExchange l n) :=
  (h.adopt l).setEngine l _

@[simp] theorem beginTelegram (h : s.Moves t) (l : Line) : s.Moves (t.beginTelegram l) := by
  unfold State.beginTelegram
  dsimp only
  split <;> simp [h]

@[simp] theorem beginProbe (h : s.Moves t) (l : Line) : s.Moves (t.beginProbe l) := (h.adopt l).setEngine l _
@[simp] theorem beginAgain (h : s.Moves t) (l : Line) : s.Moves (t.beginAgain l) := h.setEngine l _

@[simp] theorem settleRun (h : s.Moves t) (l : Line) (n : SlotNo) (failed : Bool) : s.Moves (t.settleRun l n failed) := by
  unfold State.settleRun
  split <;> split <;> simp [h]

@[simp] theorem endExchange (h : s.Moves t) (l : Line) (x : Exchange) (o : ExchangeOutcome) (after : XState) :
    s.Moves (t.endExchange l x o after) := ((h.setEngine l _).giveOutcome x o).settleRun l x.slot _

@[simp] theorem cleanAnswer (h : s.Moves t) (l : Line) (address : Nat) : s.Moves (t.cleanAnswer l address) := by
  unfold State.cleanAnswer
  split
  · exact h.raiseNotice _ _ _
  · split <;> simp [h]

@[simp] theorem garble (h : s.Moves t) (l : Line) (r : AddrRange) : s.Moves (t.garble l r) := by
  unfold State.garble
  split <;> simp [h]

@[simp] theorem judgeAnswer (h : s.Moves t) (l : Line) (r : AddrRange) (answers : List (Byte × Bool)) :
    s.Moves (t.judgeAnswer l r answers) := by
  unfold State.judgeAnswer
  split <;> simp [h]

@[simp] theorem endProbe (h : s.Moves t) (l : Line) (p : Probe) (answers : List (Byte × Bool)) :
    s.Moves (t.endProbe l p answers) := (h.setEngine l _).judgeAnswer l _ _

@[simp] theorem takeChar (h : s.Moves t) (l : Line) (err : CharError) (count : Bool) : s.Moves (t.takeChar l err count) :=
  h.setEngine l _

@[simp] theorem replyChar (h : s.Moves t) (l : Line) (x : Exchange) (err : CharError) (value : Byte) :
    s.Moves (t.replyChar l x err value) := by
  unfold State.replyChar
  dsimp only
  split
  · exact h.endExchange l x _ _
  · split
    · exact h.endExchange l x _ _
    · split <;> simp [h]

@[simp] theorem answerChar (h : s.Moves t) (l : Line) (p : Probe) (err : CharError) (value : Byte) :
    s.Moves (t.answerChar l p err value) := by
  unfold State.answerChar
  dsimp only
  split <;> simp [h]

@[simp] theorem strayChar (h : s.Moves t) (l : Line) : s.Moves (t.strayChar l) := h.setEngine l _

@[simp] theorem deliver (h : s.Moves t) (l : Line) (ch : Sampled) : s.Moves (t.deliver l ch) := by
  unfold State.deliver
  dsimp only
  split
  case h_5 => split <;> simp [h]
  all_goals simp [h]

@[simp] theorem countConflict (h : s.Moves t) (l : Line) (readBack : Option Sampled) :
    s.Moves (t.countConflict l readBack) := h.setEngine l _

@[simp] theorem giveUpProbe (h : s.Moves t) (l : Line) (p : Probe) : s.Moves (t.giveUpProbe l p) :=
  (h.setEngine l _).beginPass l

@[simp] theorem afterConflict (h : s.Moves t) (l : Line) : s.Moves (t.afterConflict l) := by
  unfold State.afterConflict
  split
  · exact h
  · split <;> simp [h]

@[simp] theorem lineReset (h : s.Moves t) (l : Line) : s.Moves (t.lineReset l) := by
  unfold State.lineReset
  dsimp only
  split <;> simp [h]

@[simp] theorem countStuck (h : s.Moves t) (l : Line) : s.Moves (t.countStuck l) := (h.setEngine l _).raiseNotice _ _ _

@[simp] theorem recover (h : s.Moves t) (l : Line) : s.Moves (t.recover l) := by
  unfold State.recover
  dsimp only
  split <;> simp [h]

@[simp] theorem watchdogExpires (h : s.Moves t) (l : Line) : s.Moves (t.watchdogExpires l) :=
  ((h.countStuck l).atOnce t).recover l

@[simp] theorem bothWatchdogsExpire (h : s.Moves t) (l : Line) : s.Moves (t.bothWatchdogsExpire l) := by
  have told := ((h.countStuck l).countStuck (otherLine l)).atOnce t
  exact ((told.recover l).atOnce _).recover (otherLine l)

@[simp] theorem ringLoaded (h : s.Moves t) (l : Line) : s.Moves (t.ringLoaded l) := by
  unfold State.ringLoaded
  dsimp only
  split
  case h_1 =>
    split
    · exact ((h.setEngine l _).setEngine l _).endPass l
    · exact h.setEngine l _
  all_goals simp [h]

@[simp] theorem sendTelegram (h : s.Moves t) (l : Line) : s.Moves (t.sendTelegram l) := by
  unfold State.sendTelegram
  split <;> simp [h]

@[simp] theorem sendProbe (h : s.Moves t) (l : Line) : s.Moves (t.sendProbe l) := by
  unfold State.sendProbe
  split <;> simp [h]

@[simp] theorem sendingDone (h : s.Moves t) (l : Line) : s.Moves (t.sendingDone l) := h.setEngine l _

@[simp] theorem startEdge (h : s.Moves t) (l : Line) (accepted : Bool) : s.Moves (t.startEdge l accepted) := by
  unfold State.startEdge
  dsimp only
  split
  · exact h.setEngine l _
  · split <;> simp [h]

@[simp] theorem deliverRun (h : s.Moves t) (l : Line) (chars : List Sampled) : s.Moves (t.deliverRun l chars) :=
  foldl (fun _ ch h => (h.deliver l ch).refresh l) chars h

end Sys2Proof.Machine.State.Moves
end

section
/-! SUPPORT. The same for lane commands, requests and ticks. -/

namespace Sys2Proof.Machine

namespace State.Moves

variable {s t : State}

/-! ### Lane commands -/

@[simp] theorem badCommand (h : s.Moves t) (k : LaneNo) (reason : BadReason) (position : Nat) :
    s.Moves (t.badCommand k reason position) := h.raiseAlert k _ _ _

@[simp] theorem lostCommand (h : s.Moves t) (k : LaneNo) (position : Nat) : s.Moves (t.lostCommand k position) :=
  h.raiseAlert k _ _ _

@[simp] theorem queueRecord (h : s.Moves t) (k : LaneNo) (position : Nat) (r : List Byte) :
    s.Moves (t.queueRecord k position r).after := by
  unfold State.queueRecord
  split <;> simp [h]

@[simp] theorem queueCommand (h : s.Moves t) (k : LaneNo) (position : Nat) (cmd : LaneCmd) :
    s.Moves (t.queueCommand k position cmd).after := by
  unfold State.queueCommand
  split <;> simp [h]

@[simp] theorem actOpen (h : s.Moves t) (k : LaneNo) (tag : Word16) (position : Nat) :
    s.Moves (t.actOpen k tag position) := by
  unfold State.actOpen
  split <;> simp [h]

@[simp] theorem actClear (h : s.Moves t) (k : LaneNo) : s.Moves (t.actClear k) := by
  have flushed := ((h.setLane k { t.lane k with overflow := false }).flushOut k).flushIn k
  unfold State.actClear
  dsimp only
  split
  case h_4 | h_5 => exact flushed
  all_goals exact flushed.enterClosing k

@[simp] theorem actDecide (h : s.Moves t) (k : LaneNo) (choice : Byte) : s.Moves (t.actDecide k choice) := by
  unfold State.actDecide
  split <;> simp [h]

@[simp] theorem act (h : s.Moves t) (k : LaneNo) (position : Nat) (cmd : LaneCmd) :
    s.Moves (t.act k position cmd).after := by
  cases cmd <;> simp [State.act, h]

@[simp] theorem checked (h : s.Moves t) (k : LaneNo) (position : Nat) (cmd : LaneCmd) :
    s.Moves (t.checked k position cmd).after := by
  unfold State.checked
  split
  · exact h.badCommand k _ _
  · split
    · exact h.badCommand k _ _
    · split <;> simp [h]

@[simp] theorem perform (h : s.Moves t) (k : LaneNo) (position : Nat) (lost : Bool) (cmd : LaneCmd) :
    s.Moves (t.perform k position lost cmd).after := by
  unfold State.perform
  split <;> split <;> simp [h]

@[simp] theorem parseBody (h : s.Moves t) (k : LaneNo) (fuel position : Nat) (lost : Bool) (body : List Byte) :
    s.Moves (t.parseBody k fuel position lost body) := by
  induction fuel generalizing t position lost body with
  | zero => exact h
  | succ fuel ih =>
    rw [State.parseBody]
    split
    · exact h
    · split
      · exact h.badCommand k _ _
      · exact ih (h.perform k _ _ _) _ _ _

@[simp] theorem latchRequest (h : s.Moves t) (body : List Byte) : s.Moves (t.latchRequest body) := by
  unfold State.latchRequest
  split
  · exact h.setLink rfl rfl
  · have counted : s.Moves (t.setLink { t.link with counters :=
        { t.link.counters with reqDropped := bump t.link.counters.reqDropped } }) := h.setLink rfl rfl
    exact counted.raiseNotice _ _ _

@[simp] theorem decisionExpires (h : s.Moves t) (k : LaneNo) : s.Moves (t.decisionExpires k) := by
  unfold State.decisionExpires
  split <;> simp [h]

@[simp] theorem goQuiet (h : s.Moves t) : s.Moves t.goQuiet :=
  standbyAll (h.setLink rfl rfl)

/-! ### Requests -/

@[simp] theorem answer (h : s.Moves t) (code : Byte) (status : Status) (data : List Byte) :
    s.Moves (t.answer code status data) := h.setReply _

@[simp] theorem refuse (h : s.Moves t) (code : Byte) (reason : ReqReason) (detail : Byte) :
    s.Moves (t.refuse code reason detail) := h.setReply _

@[simp] theorem emptyLatch (h : s.Moves t) : s.Moves t.emptyLatch := h.setLink rfl rfl

/-- MGU takes a request whose execution moves the part. -/
theorem takeRequest (h : s.Moves t) (code : Byte) {execute : List Byte → State → State}
    (he : ∀ args u, s.Moves u → s.Moves (execute args u)) : s.Moves (t.takeRequest code execute) := by
  rcases t.takeRequest_cases code execute with e | ⟨args, _, _, e⟩ <;> rw [e]
  · exact h
  · exact he args _ h.emptyLatch

@[simp] theorem takeUnknown (h : s.Moves t) : s.Moves t.takeUnknown := by
  unfold State.takeUnknown
  split
  · exact h
  · split <;> simp [h]
  · split <;> simp [h]

theorem indexed (h : s.Moves t) (code : Byte) (len bound : Nat) (args : List Byte)
    {execute : Fin bound → List Byte → State} (he : ∀ i fields, s.Moves (execute i fields)) :
    s.Moves (t.indexed code len bound args execute) := by
  unfold State.indexed
  split
  · exact h.refuse _ _ _
  · split
    · exact h.refuse _ _ _
    · split
      · exact he _ _
      · exact h.refuse _ _ _

theorem valued {α : Type} (h : s.Moves t) (code : Byte) (check : FieldCheck α) {execute : α → State}
    (he : ∀ x, s.Moves (execute x)) : s.Moves (t.valued code check execute) := by
  unfold State.valued
  split
  · exact h.refuse _ _ _
  · exact he _

theorem counterScoped (h : s.Moves t) (code : Byte) (args : List Byte) {execute : Scope → State}
    (he : ∀ scope, s.Moves (execute scope)) : s.Moves (t.scoped code args execute) := by
  unfold State.scoped
  split
  · split
    · exact h.refuse _ _ _
    · exact he _
  · exact h.refuse _ _ _

@[simp] theorem acceptUnit (h : s.Moves t) (n : SlotNo) (r : UnitRecord) (received : List Byte) :
    s.Moves (t.acceptUnit n r received) := by
  unfold State.acceptUnit
  split
  · exact (h.applyRecord n r).answer _ _ _
  · split
    · exact (h.applyRecord n r).answer _ _ _
    · exact (h.setEntry n _).answer _ _ _

theorem loadUnitOn (args : List Byte) (t : State) (h : s.Moves t) : s.Moves (Machine.loadUnitOn args t) := by
  refine h.indexed _ _ _ _ fun n fields => h.valued _ _ fun r => ?_
  split
  · exact h.refuse _ _ _
  · split <;> simp [h]

theorem readUnitOn (args : List Byte) (t : State) (h : s.Moves t) : s.Moves (Machine.readUnitOn args t) :=
  h.indexed _ _ _ _ fun _ _ => h.answer _ _ _

theorem loadLaneOn (args : List Byte) (t : State) (h : s.Moves t) : s.Moves (Machine.loadLaneOn args t) := by
  refine h.indexed _ _ _ _ fun k fields => h.valued _ _ fun r => ?_
  split
  · exact (h.setTables _).answer _ _ _
  · exact h.refuse _ _ _

theorem readLaneOn (args : List Byte) (t : State) (h : s.Moves t) : s.Moves (Machine.readLaneOn args t) :=
  h.indexed _ _ _ _ fun _ _ => h.answer _ _ _

theorem loadKeymapOn (args : List Byte) (t : State) (h : s.Moves t) : s.Moves (Machine.loadKeymapOn args t) :=
  h.indexed _ _ _ _ fun _ _ => (h.setTables _).answer _ _ _

theorem loadPolicyOn (args : List Byte) (t : State) (h : s.Moves t) : s.Moves (Machine.loadPolicyOn args t) :=
  h.indexed _ _ _ _ fun _ _ => h.valued _ _ fun _ => (h.setTables _).answer _ _ _

theorem loadPromptOn (args : List Byte) (t : State) (h : s.Moves t) : s.Moves (Machine.loadPromptOn args t) :=
  h.indexed _ _ _ _ fun _ _ => (h.setTables _).answer _ _ _

theorem loadRingOn (args : List Byte) (t : State) (h : s.Moves t) : s.Moves (Machine.loadRingOn args t) := by
  unfold Machine.loadRingOn
  split
  · split
    · exact h.refuse _ _ _
    · split
      · exact h.refuse _ _ _
      · refine h.valued _ _ fun ring => ?_
        split
        · exact h.refuse _ _ _
        · exact ((h.setTables _).ringLoaded _).answer _ _ _
  · exact h.refuse _ _ _

theorem loadPartitionOn (args : List Byte) (t : State) (h : s.Moves t) : s.Moves (Machine.loadPartitionOn args t) := by
  unfold Machine.loadPartitionOn
  split
  · exact h.refuse _ _ _
  · refine h.valued _ _ fun sizes => ?_
    split
    · exact h.refuse _ _ _
    · exact (h.setTables _).answer _ _ _

theorem setLinkOn (args : List Byte) (t : State) (h : s.Moves t) : s.Moves (Machine.setLinkOn args t) := by
  unfold Machine.setLinkOn
  split
  · exact h.refuse _ _ _
  · exact h.valued _ _ fun _ => (h.setTables _).answer _ _ _

theorem setLineOn (args : List Byte) (t : State) (h : s.Moves t) : s.Moves (Machine.setLineOn args t) := by
  unfold Machine.setLineOn
  split
  · exact h.refuse _ _ _
  · split
    · exact h.refuse _ _ _
    · split
      · exact h.refuse _ _ _
      · exact h.valued _ _ fun _ => (h.setTables _).answer _ _ _

theorem readStatusOn (args : List Byte) (t : State) (h : s.Moves t) : s.Moves (Machine.readStatusOn args t) := by
  unfold Machine.readStatusOn
  split <;> simp [h]

theorem readCountersOn (args : List Byte) (t : State) (h : s.Moves t) : s.Moves (Machine.readCountersOn args t) :=
  h.counterScoped _ _ fun _ => h.answer _ _ _

@[simp] theorem clearCounters (h : s.Moves t) (scope : Scope) : s.Moves (t.clearCounters scope) := by
  have link : s.Moves t.clearLinkCounters := h.setLink rfl rfl
  cases scope with
  | link => exact link
  | line l => exact h.setEngine l _
  | slot n => exact h.setUnit n _
  | all => exact foldl (fun _ n h => h.setUnit n _) _ ((link.setEngine .a _).setEngine .b _)

theorem clearCountersOn (args : List Byte) (t : State) (h : s.Moves t) : s.Moves (Machine.clearCountersOn args t) :=
  h.counterScoped _ _ fun scope => (h.clearCounters scope).answer _ _ _

theorem softResetOn (args : List Byte) (t : State) (h : s.Moves t) : s.Moves (Machine.softResetOn args t) := by
  unfold Machine.softResetOn
  split
  · exact (h.answer 15 .done []).same rfl rfl rfl
  · exact h.refuse _ _ _

/-! ### Ticks -/

theorem countTick (h : s.Moves t) : s.Moves t.countTick := by
  rw [State.countTick_eq]
  exact h.same rfl rfl rfl

@[simp] theorem watchdogTick (h : s.Moves t) (l : Line) : s.Moves (t.watchdogTick l) := by
  unfold State.watchdogTick
  split
  · exact ((h.bothWatchdogsExpire l).refresh l).refresh _
  · exact (h.watchdogExpires l).refresh l

@[simp] theorem tickEvent (h : s.Moves t) (e : TickEvent) : s.Moves (t.tickEvent e) := by
  unfold State.tickEvent
  split
  · refine selectNew ?_
    cases e with
    | silence => exact h.goQuiet
    | decision k => exact h.decisionExpires k
    | watchdog l => exact h.watchdogTick l
    | pass l => exact (h.beginPass l).refresh l
  · exact h

@[simp] theorem countChoice (h : s.Moves t) (n : Nat) : s.Moves (t.countChoice n) := by
  unfold State.countChoice
  split
  · exact h
  · exact h.same rfl rfl rfl

theorem takeEvents (h : s.Moves t) (fuel : Nat) (events : List TickEvent) : s.Moves (t.takeEvents fuel events) := by
  induction fuel generalizing t events with
  | zero => exact h
  | succ fuel ih =>
    rw [State.takeEvents]
    split
    · exact h
    · exact ih ((h.countChoice _).tickEvent _) _

/-! ### What a move keeps -/

/-- No move holds a selection back (R9). -/
theorem notGathering (h : s.Moves t) (none : s.NotGathering) : t.NotGathering := by
  induction h with
  | refl => exact none
  | same _ tx _ _ ih => exact fun gathering => ih (tx.symm.trans gathering)
  | storeIn _ k r ih => exact ih
  | flushIn _ k ih => exact ih
  | select _ src ih => simp [State.NotGathering]

end State.Moves

end Sys2Proof.Machine
end

section
/-! SUPPORT. The penalty flags (R15) and the order every command leaves the transmitter in. -/

namespace Sys2Proof.Machine

/-! ### Penalty flags (R15) -/

theorem State.penaltyOk_congr {s t : State} (penalty : t.link.penalty = s.link.penalty) (inbound : t.inbound = s.inbound)
    (ok : s.PenaltyOk) : t.PenaltyOk := by
  simpa only [State.PenaltyOk, State.inQueue, penalty, inbound] using ok

/-- No flag is set. -/
theorem State.penaltyOk_of_clear {s : State} (clear : s.link.penalty = Vector.replicate 8 false) : s.PenaltyOk := by
  simp [State.PenaltyOk, clear]

/-- One flag at most, that of a queue which holds a record where the flag is set. -/
theorem State.penaltyOk_of_one {s : State} {k : LaneNo} {left : Bool}
    (one : s.link.penalty = (Vector.replicate 8 false).set k left) (held : left = true → s.inQueue k ≠ []) :
    s.PenaltyOk := by
  have only : ∀ j : LaneNo, s.link.penalty[j] = true → j = k ∧ left = true := by
    intro j flag
    by_cases same : j = k
    · subst same
      exact ⟨rfl, by simpa [one] using flag⟩
    · simp [one, Vector.getElem_set_ne, Fin.val_ne_of_ne (Ne.symm same)] at flag
  refine ⟨fun i j fi fj => (only i fi).1.trans (only j fj).1.symm, fun j fj => ?_⟩
  obtain ⟨rfl, set⟩ := only j fj
  exact held set

/-- A selection leaves at most the winning inbound queue's flag, where records are left there (R15). -/
theorem State.select_penaltyOk {s : State} (ok : s.PenaltyOk) (src : Source) : (s.select src).PenaltyOk := by
  have cleared {t : State} (penalty : t.link.penalty = s.penaltyCleared) (inbound : t.inbound = s.inbound) :
      t.PenaltyOk := by
    rcases s.penaltyCleared_cases with clear | kept
    · exact State.penaltyOk_of_clear (penalty.trans clear)
    · exact State.penaltyOk_congr (penalty.trans kept) inbound ok
  cases src with
  | reply => exact cleared rfl rfl
  | notices => exact cleared rfl rfl
  | alerts k => exact State.penaltyOk_of_clear rfl
  | events k =>
    refine State.penaltyOk_of_one (k := k) rfl fun left => ?_
    show (s.giveUpItem (.events k)).inQueue k ≠ []
    simpa using left

theorem State.selectByRank_penaltyOk {s : State} (ok : s.PenaltyOk) : s.selectByRank.PenaltyOk := by
  rcases s.selectByRank_eq with ⟨_, h⟩ | ⟨_, h⟩ <;> rw [h]
  · exact ok
  · by_cases none : s.candidates = []
    · rw [State.selectWinner_none none]
      exact State.penaltyOk_congr rfl rfl ok
    · obtain ⟨w, _, h⟩ := State.selectWinner_some none
      rw [h]
      exact State.select_penaltyOk ok w

theorem State.storeIn_penaltyOk {s : State} (ok : s.PenaltyOk) (k : LaneNo) (r : List Byte) :
    (s.storeIn k r).PenaltyOk := by
  obtain ⟨one, held⟩ := ok
  refine ⟨one, fun j flag => ?_⟩
  by_cases same : j = k
  · subst same
    simp
  · rw [State.inQueue_storeIn_other _ _ same]
    exact held j flag

/-- A flushed queue loses its flag (R15). -/
theorem State.flushIn_penaltyOk {s : State} (ok : s.PenaltyOk) (k : LaneNo) : (s.flushIn k).PenaltyOk := by
  obtain ⟨one, held⟩ := ok
  have flag_of : ∀ j : LaneNo, (s.flushIn k).link.penalty[j] = true → j ≠ k ∧ s.link.penalty[j] = true := by
    intro j flag
    change (s.link.penalty.set k false)[j] = true at flag
    by_cases same : j = k
    · subst same
      simp at flag
    · simpa [same, Vector.getElem_set_ne, Fin.val_ne_of_ne (Ne.symm same)] using flag
  refine ⟨fun i j fi fj => one i j (flag_of i fi).2 (flag_of j fj).2, fun j flag => ?_⟩
  obtain ⟨other, set⟩ := flag_of j flag
  show (s.setInQueue k []).inQueue j ≠ []
  rw [State.inQueue_setInQueue_other _ _ other]
  exact held j set

theorem State.Moves.penaltyOk {s t : State} (h : s.Moves t) (ok : s.PenaltyOk) : t.PenaltyOk := by
  induction h with
  | refl => exact ok
  | same _ _ penalty inbound ih => exact State.penaltyOk_congr penalty inbound ih
  | storeIn _ k r ih => exact State.storeIn_penaltyOk ih k r
  | flushIn _ k ih => exact State.flushIn_penaltyOk ih k
  | select _ src ih => exact State.select_penaltyOk ih src

/-! ### How commands end -/

/-- Every state `o` leads to has its IDLE transmitter settled, and keeps what `s` had: the penalty flags in order, and no
selection held back (R9, R13, R15). -/
def State.EndsOrderly (s : State) (o : Host.Outcome State Fault Refusal) : Prop :=
  ∀ t, o = .next t → t.Settled ∧ (s.PenaltyOk → t.PenaltyOk) ∧ (s.NotGathering → t.NotGathering)

namespace State.EndsOrderly

variable {s t : State}

/-- Acts that move the part, and the selection at a command's end (R13). -/
theorem selectNew (h : s.Moves t) : s.EndsOrderly (.next t.selectNew) := by
  rintro _ ⟨⟩
  exact ⟨t.selectNew_settled, h.selectNew.penaltyOk, h.selectNew.notGathering⟩

theorem finish (h : s.Moves t) : s.EndsOrderly (finish t) := selectNew h

theorem finishLine (l : Line) (h : s.Moves t) : s.EndsOrderly (finishLine l t) := finish (h.refresh l)

/-- An act that ends in a selection by rank (R9, R13). -/
theorem selectByRank (ok : s.PenaltyOk → t.PenaltyOk) : s.EndsOrderly (.next t.selectByRank) := by
  rintro _ ⟨⟩
  exact ⟨t.selectByRank_settled, fun before => State.selectByRank_penaltyOk (ok before),
    fun _ => t.selectByRank_notGathering⟩

/-- A line command that acts only in its moment. -/
theorem lineIf (l : Line) {p : Prop} [Decidable p] (h : s.Moves t) :
    s.EndsOrderly (if p then Machine.finishLine l t else Machine.finish s) := by
  split
  · exact finishLine l h
  · exact finish .refl

end State.EndsOrderly

/-! ### Good frames -/

/-- R9's first three steps leave the penalty flags and the inbound queues alone. -/
theorem State.goodFrame_penaltyOk {s : State} (ok : s.PenaltyOk) : s.goodFrame.PenaltyOk := by
  unfold State.goodFrame
  split
  · rw [State.resume, State.clearStandby_eq]
    exact State.penaltyOk_congr rfl rfl ok
  · exact State.penaltyOk_congr rfl rfl ok

/-- What a good frame does once the receivers have closed it, up to the selection by rank (R9). -/
theorem State.endsOrderly_goodFrame {s closed t : State} (h : closed.goodFrame.Moves t)
    (penalty : closed.link.penalty = s.link.penalty) (inbound : closed.inbound = s.inbound) :
    s.EndsOrderly (.next t.selectByRank) :=
  .selectByRank fun ok => h.penaltyOk (State.goodFrame_penaltyOk (State.penaltyOk_congr penalty inbound ok))

theorem State.dispatch_moves (s : State) (good : GoodFrame) : s.goodFrame.Moves (s.dispatch good) := by
  cases good with
  | laneCommands k body => exact State.Moves.refl.parseBody k _ _ _ body
  | request body => exact State.Moves.refl.latchRequest body

theorem endsOrderly_row (s : State) (k : LaneNo) (cmd : LaneCmd) (rest : List Byte) :
    s.EndsOrderly (exec (cmd.row k rest) s) := by
  rw [exec_row]
  exact State.endsOrderly_goodFrame ((State.Moves.refl.perform k 1 false cmd).parseBody k _ _ _ rest) rfl rfl

/-- A character that ends a good frame moves the receivers, and the frame is dispatched (R8, R9). -/
theorem State.linkChar_of_good {s : State} {ch : Option Byte} {good : GoodFrame}
    (h : (frameStep ⟨s.link.frameRx, s.link.content⟩ ch).ended = some (.inr good)) :
    s.linkChar ch =
      (State.dispatch
        { s with
          link := { s.link with
            rx := if ch.isSome then .atRest else .waitMark
            frameRx := (frameStep ⟨s.link.frameRx, s.link.content⟩ ch).after.state
            content := (frameStep ⟨s.link.frameRx, s.link.content⟩ ch).after.content } }
        good).selectByRank := by
  simp [State.linkChar, h, State.frameEnded, State.setLink]

/-- Characters: what a receiver counts or stores, or a good frame. -/
theorem endsOrderly_linkCharacter (s : State) (data : Byte) (stop : Bool) :
    s.EndsOrderly (exec (.linkCharacter data stop) s) := by
  show s.EndsOrderly (finish _)
  split
  · exact .finish .refl
  · generalize (if stop then some data else none) = ch
    cases ended : (frameStep ⟨s.link.frameRx, s.link.content⟩ ch).ended with
    | none =>
      rw [State.linkChar_of_none ended]
      exact .finish (State.Moves.refl.same rfl rfl rfl)
    | some result =>
      cases result with
      | inl failure =>
        rw [State.linkChar_of_failure ended]
        exact .finish (State.Moves.refl.same rfl rfl rfl)
      | inr good =>
        rw [State.linkChar_of_good ended, finish, State.selectNew_selectByRank]
        exact State.endsOrderly_goodFrame (State.dispatch_moves _ good) rfl rfl

theorem LinkPort.takeSettings_penalty (p : LinkPort) (new : LinkSettings) : (p.takeSettings new).penalty = p.penalty := by
  unfold LinkPort.takeSettings
  split <;> rfl

/-- The delimiter that closes a sent frame: a soft reset clears the penalty flags, nothing else touches them. -/
theorem endsOrderly_closingDelimiter (s : State) : s.EndsOrderly (exec .closingDelimiter s) := by
  cases tx : s.link.tx with
  | idle | gathering =>
    have unsent : exec .closingDelimiter s = finish s := by simp [exec, execClosingDelimiter, tx]
    rw [unsent]
    exact .finish .refl
  | sending f =>
    rw [exec_closingDelimiter_sending tx]
    refine .selectByRank fun ok => ?_
    cases f.brings with
    | nothing => exact ok
    | linkSettings new => exact State.penaltyOk_congr (s := s) (LinkPort.takeSettings_penalty _ new) rfl ok
    | softReset =>
      rw [State.carryOut, State.softReset_eq]
      exact State.penaltyOk_of_clear rfl

/-! ### Drop lines -/

theorem endsOrderly_noReply (s : State) (l : Line) : s.EndsOrderly (exec (.noReply l) s) := by
  show s.EndsOrderly (execNoReply l s)
  unfold execNoReply
  split
  · exact .finishLine l (State.Moves.refl.endExchange l _ _ _)
  · exact .finish .refl

theorem endsOrderly_truncated (s : State) (l : Line) : s.EndsOrderly (exec (.truncated l) s) := by
  show s.EndsOrderly (execTruncated l s)
  unfold execTruncated
  split
  · split
    · exact .finish .refl
    · exact .finishLine l (State.Moves.refl.endExchange l _ _ _)
  · exact .finish .refl

theorem endsOrderly_sweepReplyWindow (s : State) (l : Line) : s.EndsOrderly (exec (.sweepReplyWindow l) s) := by
  show s.EndsOrderly (execSweepReplyWindow l s)
  unfold execSweepReplyWindow
  split
  · exact .finishLine l (State.Moves.refl.endProbe l _ _)
  · exact .finish .refl

theorem endsOrderly_sweepGap (s : State) (l : Line) : s.EndsOrderly (exec (.sweepGap l) s) := by
  show s.EndsOrderly (execSweepGap l s)
  unfold execSweepGap
  split
  · split
    · exact .finish .refl
    · exact .finishLine l (State.Moves.refl.endProbe l _ _)
  · exact .finish .refl

theorem endsOrderly_reply (s : State) (l : Line) (chars : List Sampled) : s.EndsOrderly (exec (.reply l chars) s) := by
  show s.EndsOrderly (execReply l chars s)
  unfold execReply
  split
  · exact .finish (State.Moves.refl.deliverRun l chars)
  · exact .finish .refl

theorem endsOrderly_passBegins (s : State) (l : Line) : s.EndsOrderly (exec (.passBegins l) s) := by
  show s.EndsOrderly (execPassBegins l s)
  unfold execPassBegins
  have began : s.EndsOrderly (finishLine l (s.beginPass l)) := .finishLine l (State.Moves.refl.beginPass l)
  split
  · exact began
  · split
    · exact began
    · exact .finish .refl

/-! ### Every command -/

/-- The two acts of the link receiver that are not characters. -/
theorem endsOrderly_linkStartEdge (s : State) (accepted : Bool) : s.EndsOrderly (exec (.linkStartEdge accepted) s) := by
  refine .finish ?_
  split
  · split <;> exact State.Moves.refl.setLink rfl rfl
  · exact .refl

theorem endsOrderly_lrxdAtMark (s : State) : s.EndsOrderly (exec .lrxdAtMark s) := by
  refine .finish ?_
  split
  · exact State.Moves.refl.setLink rfl rfl
  · exact .refl

theorem endsOrderly_silenceTimerExpiry (s : State) : s.EndsOrderly (exec .silenceTimerExpiry s) := by
  refine .finish ?_
  split
  · exact State.Moves.refl.goQuiet
  · exact .refl

theorem endsOrderly_exec (c : Instr) (s : State) : s.EndsOrderly (exec c s) := by
  have still : s.Moves s := .refl
  cases c with
  | hardwareReset => exact .selectByRank fun _ => State.reset_penaltyOk
  | linkCharacter data stop => exact endsOrderly_linkCharacter s data stop
  | linkStartEdge accepted => exact endsOrderly_linkStartEdge s accepted
  | lrxdAtMark => exact endsOrderly_lrxdAtMark s
  | request body => exact State.endsOrderly_goodFrame (s.frameClosed.dispatch_moves (.request body)) rfl rfl
  | laneCommands k body => exact State.endsOrderly_goodFrame (s.frameClosed.dispatch_moves (.laneCommands k body)) rfl rfl
  | openLane k tag rest => exact endsOrderly_row s k (.openLane tag) rest
  | closeLane k rest => exact endsOrderly_row s k .close rest
  | clearLane k rest => exact endsOrderly_row s k .clear rest
  | showText k row report text rest => exact endsOrderly_row s k (.showText row report text) rest
  | tone k pattern report rest => exact endsOrderly_row s k (.tone pattern report) rest
  | reader k onOff report rest => exact endsOrderly_row s k (.reader onOff report) rest
  | entry k count dot echo chain report rest => exact endsOrderly_row s k (.entry count dot echo chain report) rest
  | pin k min max chain report rest => exact endsOrderly_row s k (.pin min max chain report) rest
  | unlock k report rest => exact endsOrderly_row s k (.unlock report) rest
  | decideCard k choice rest => exact endsOrderly_row s k (.decideCard choice) rest
  | closingDelimiter => exact endsOrderly_closingDelimiter s
  | silenceTimerExpiry => exact endsOrderly_silenceTimerExpiry s
  | decisionTimerExpiry k => exact .finish (still.decisionExpires k)
  | loadUnit => exact .finish (still.takeRequest 1 State.Moves.loadUnitOn)
  | readUnit => exact .finish (still.takeRequest 2 State.Moves.readUnitOn)
  | loadLane => exact .finish (still.takeRequest 3 State.Moves.loadLaneOn)
  | readLane => exact .finish (still.takeRequest 4 State.Moves.readLaneOn)
  | loadKeymap => exact .finish (still.takeRequest 5 State.Moves.loadKeymapOn)
  | loadPolicy => exact .finish (still.takeRequest 6 State.Moves.loadPolicyOn)
  | loadRing => exact .finish (still.takeRequest 7 State.Moves.loadRingOn)
  | loadPrompt => exact .finish (still.takeRequest 8 State.Moves.loadPromptOn)
  | loadPartition => exact .finish (still.takeRequest 9 State.Moves.loadPartitionOn)
  | setLink => exact .finish (still.takeRequest 10 State.Moves.setLinkOn)
  | setLine => exact .finish (still.takeRequest 11 State.Moves.setLineOn)
  | readStatus => exact .finish (still.takeRequest 12 State.Moves.readStatusOn)
  | readCounters => exact .finish (still.takeRequest 13 State.Moves.readCountersOn)
  | clearCounters => exact .finish (still.takeRequest 14 State.Moves.clearCountersOn)
  | softReset => exact .finish (still.takeRequest 15 State.Moves.softResetOn)
  | unknownRequest => exact .finish still.takeUnknown
  | telegram l => exact .lineIf l ((still.wakeEngine l).sendTelegram l)
  | sweep l => exact .lineIf l ((still.wakeEngine l).sendProbe l)
  | transmissionComplete l => exact .lineIf l (still.sendingDone l)
  | echoConflict l index readBack => exact .lineIf l ((still.countConflict l readBack).afterConflict l)
  | noReply l => exact endsOrderly_noReply s l
  | replyCharacter l ch => exact .lineIf l (still.deliver l ch)
  | reply l chars => exact endsOrderly_reply s l chars
  | truncated l => exact endsOrderly_truncated s l
  | guardRunsOut l => exact .lineIf l ((still.setEngine l _).advance l)
  | passBegins l => exact endsOrderly_passBegins s l
  | sweepReplyWindow l => exact endsOrderly_sweepReplyWindow s l
  | sweepAnswerCharacter l ch => exact .lineIf l (still.deliver l ch)
  | sweepGap l => exact endsOrderly_sweepGap s l
  | strayCharacter l ch => exact .lineIf l (still.deliver l ch)
  | chatterIntervalEnds l => exact .lineIf l (still.setEngine l _)
  | breakEnds l => exact .lineIf l (still.setEngine l _)
  | lineWatchdog l => exact .lineIf l (still.watchdogExpires l)
  | startEdge l accepted => exact .lineIf l (still.startEdge l accepted)

theorem endsOrderly_tick (s : State) : s.EndsOrderly (.next s.tick) :=
  .selectNew ((State.Moves.refl.countTick).takeEvents _ _)

end Sys2Proof.Machine

namespace Sys2Proof.Proofs

open Sys2Proof.Machine

/-- Settles O4: whatever a command or a tick does, it moves the transmitter, the penalty flags and the inbound queues only
by selections, stores and flushes, and it ends in a selection (R9, R13, R15). -/
theorem transmitterStaysInOrder : Obligations.TransmitterStaysInOrder := by
  intro s t next
  cases pending : s.pending with
  | nil =>
    rw [step, pending] at next
    exact endsOrderly_tick s t next
  | cons c rest =>
    rw [step, pending] at next
    exact endsOrderly_exec c { s with pending := rest } t next

end Sys2Proof.Proofs
end

section
/-! SUPPORT. What an act of the part may touch. An act is made of replaced lane records, runtime records, engines and
tables, of records stored and dropped, and of selections; `State.Acts` says which of these a reach admits, and under which
conditions. Said once for each operation of the model, in the order of the model's files: what a lane's operation does. -/

namespace Sys2Proof.Machine

/-- What an act may touch: the lanes and the drop lines it may, whether every slot and the notice set, whether a penalty
flag, and whether the Link Port, the reply slot and the tables that hold settings. -/
structure Reach where
  lane : LaneNo → Prop
  line : Line → Prop
  slots : Prop
  penalty : Prop
  port : Prop

/-- May an act touch the runtime record of slot `n`: a slot bound to a lane it may touch, or whose card a decision of that
lane is about, besides the slots that the reach names? -/
def State.MayTouch (t : State) (rc : Reach) (n : SlotNo) : Prop :=
  rc.slots ∨ ∃ k, rc.lane k ∧ (t.bound k n = true ∨ ∃ d, (t.lane k).decision = some d ∧ d.slot = n)

/-- `t` comes of `s` by acts within the reach `rc`: no lane becomes CLOSED but with every staged record applied whose moment
has come (R27, R144), records are stored only where they fit (R123), and nothing is selected while a frame is sent (R13). -/
inductive State.Acts (rc : Reach) (s : State) : State → Prop
  | refl : State.Acts rc s s
  | setLane {t : State} (h : State.Acts rc s t) {k : LaneNo} (hk : rc.lane k) {r : LaneRecord}
      (phase : r.phase = .closed → (t.lane k).phase = .closed)
      (decision : rc.slots ∨ ∀ d, r.decision = some d → (t.lane k).decision = some d) : State.Acts rc s (t.setLane k r)
  | close {t : State} (h : State.Acts rc s t) {k : LaneNo} (hk : rc.lane k) {r : LaneRecord}
      (decision : r.decision = (t.lane k).decision) : State.Acts rc s (t.setLane k r).applyAllStaged
  | setUnits {t : State} (h : State.Acts rc s t) (units : Vector UnitRun 16) (serial : Nat)
      (may : ∀ n : SlotNo, units[n] = t.unit n ∨ t.MayTouch rc n) :
      State.Acts rc s { t with units := units, serial := serial }
  | setEngine {t : State} (h : State.Acts rc s t) {l : Line} (hl : rc.line l) (e : Engine) :
      State.Acts rc s (t.setEngine l e)
  | setLine {t : State} (h : State.Acts rc s t) {l : Line} (hl : rc.line l) (x : LineTable) :
      State.Acts rc s { t with tables := { t.tables with lines := t.tables.lines.set l x } }
  | setNotices {t : State} (h : State.Acts rc s t) (hs : rc.slots) (n : NoticeSet) : State.Acts rc s (t.setNotices n)
  | storeIn {t : State} (h : State.Acts rc s t) {k : LaneNo} (hk : rc.lane k) {r : List Byte}
      (fits : t.inFits k r.length = true) : State.Acts rc s (t.storeIn k r)
  | storeOut {t : State} (h : State.Acts rc s t) {k : LaneNo} (hk : rc.lane k) {r : List Byte}
      (fits : t.outFits k r.length = true) : State.Acts rc s (t.storeOut k r)
  | emptyIn {t : State} (h : State.Acts rc s t) {k : LaneNo} (hk : rc.lane k) : State.Acts rc s (t.setInQueue k [])
  | dropOut {t : State} (h : State.Acts rc s t) {k : LaneNo} (hk : rc.lane k) {q : List OutRecord}
      (less : q.Sublist (t.outQueue k)) : State.Acts rc s (t.setOutQueue k q)
  | clearPenalty {t : State} (h : State.Acts rc s t) (hp : rc.penalty) (k : LaneNo) : State.Acts rc s (t.clearPenalty k)
  | setPort {t : State} (h : State.Acts rc s t) (hp : rc.port) (link : LinkPort) (reply : Option (List Byte))
      (softPending : Bool) (tables : Tables) (units : tables.units = t.tables.units)
      (partition : tables.partition = t.tables.partition) :
      State.Acts rc s { t with link := link, reply := reply, softPending := softPending, tables := tables }
  | select {t : State} (h : State.Acts rc s t) (unsent : ∀ f, t.link.tx ≠ .sending f) (src : Source) :
      State.Acts rc s (t.select src)
  | choose {t : State} (h : State.Acts rc s t) (choices : Nat) : State.Acts rc s { t with choices := choices }

/-! ### Slots of a lane -/

theorem State.mayTouch_of_bound {t : State} {rc : Reach} {k : LaneNo} {n : SlotNo} (hk : rc.lane k)
    (bound : t.bound k n = true) : t.MayTouch rc n := .inr ⟨k, hk, .inl bound⟩

theorem State.bound_of_readerOf {s : State} {k : LaneNo} {n : SlotNo} (h : s.readerOf k = some n) :
    s.bound k n = true :=
  (s.mem_boundSlots k n).mp (List.mem_of_find?_eq_some h)

/-- A directive is set and a lane's decision removed in either order. -/
theorem State.setDirective_dropDecision (s : State) (k : LaneNo) (n : SlotNo) (d : Directive) :
    (s.dropDecision k).setDirective n d = (s.setDirective n d).dropDecision k := by
  have unit : (s.dropDecision k).unit n = s.unit n := rfl
  have serial : (s.dropDecision k).serial = s.serial := rfl
  unfold State.setDirective
  rw [unit, serial]
  by_cases skips : (s.unit n).presence = .disabled ∨
      (s.unit n).directives.join d ⟨0, s.serial⟩ = (s.unit n).directives
  · simp only [if_pos skips]
  · simp only [if_neg skips]
    rfl

namespace State.Acts

variable {rc : Reach} {s t : State} {k : LaneNo}

/-! ### Named operations (Ops) -/

/-- A lane record replaced by one in the same phase with the same decision. -/
theorem sameLane (h : Acts rc s t) (hk : rc.lane k) {r : LaneRecord} (phase : r.phase = (t.lane k).phase := by rfl)
    (decision : r.decision = (t.lane k).decision := by rfl) : Acts rc s (t.setLane k r) :=
  h.setLane hk (fun closed => phase ▸ closed) (.inr fun _ held => decision ▸ held)

/-- A lane record replaced by one in a phase other than CLOSED with the same decision. -/
theorem unclosedLane (h : Acts rc s t) (hk : rc.lane k) {r : LaneRecord} (phase : r.phase ≠ .closed := by simp)
    (decision : r.decision = (t.lane k).decision := by rfl) : Acts rc s (t.setLane k r) :=
  h.setLane hk (fun closed => absurd closed phase) (.inr fun _ held => decision ▸ held)

theorem setUnit (h : Acts rc s t) {n : SlotNo} (may : t.MayTouch rc n) (u : UnitRun) : Acts rc s (t.setUnit n u) := by
  refine h.setUnits (t.units.set n u) t.serial fun m => ?_
  by_cases same : m = n
  · exact .inr (same ▸ may)
  · exact .inl (t.unit_setUnit_other u same)

@[simp] theorem setDirective (h : Acts rc s t) {n : SlotNo} (may : t.MayTouch rc n) (d : Directive) :
    Acts rc s (t.setDirective n d) := by
  rcases t.setDirective_eq n d with e | ⟨_, e⟩ <;> rw [e]
  · exact h
  · refine h.setUnits _ _ fun m => ?_
    by_cases same : m = n
    · exact .inr (same ▸ may)
    · exact .inl (t.unit_setUnit_other _ same)

@[simp] theorem raiseAlert (h : Acts rc s t) (hk : rc.lane k) (kind : AlertKind) (d1 d2 : Byte) :
    Acts rc s (t.raiseAlert k kind d1 d2) := h.sameLane hk

@[simp] theorem raiseNotice (h : Acts rc s t) (hs : rc.slots) (kind : NoticeKind) (d1 d2 : Byte) :
    Acts rc s (t.raiseNotice kind d1 d2) := h.setNotices hs _

/-- Acts made one after another for the members of a list. -/
theorem foldl {α : Type} {f : State → α → State} (step : ∀ t x, Acts rc s t → Acts rc s (f t x)) (xs : List α)
    (h : Acts rc s t) : Acts rc s (xs.foldl f t) := by
  induction xs generalizing t with
  | nil => exact h
  | cons x rest ih => exact ih (step t x h)

/-- Acts made for each slot bound to a lane, none of which changes a unit record. -/
theorem foldl_bound {f : State → SlotNo → State} (step : ∀ t n, Acts rc s t → t.bound k n = true → Acts rc s (f t n))
    (keeps : ∀ t n, (f t n).tables = t.tables) (h : Acts rc s t) : Acts rc s ((t.boundSlots k).foldl f t) := by
  have bound : ∀ n ∈ t.boundSlots k, t.bound k n = true := fun n => (t.mem_boundSlots k n).mp
  generalize t.boundSlots k = ns at bound
  induction ns generalizing t with
  | nil => exact h
  | cons n rest ih =>
    refine ih (step t n h (bound n (by simp))) fun m later => ?_
    have same : (f t n).bound k m = t.bound k m := by simp [State.bound, State.record, keeps]
    rw [same]
    exact bound m (by simp [later])

theorem setDirective_tables (t : State) (n : SlotNo) (d : Directive) : (t.setDirective n d).tables = t.tables := by
  obtain ⟨units, serial, e⟩ := t.setDirective_units n d
  rw [e]

/-- The same directive set for each slot bound to a lane. -/
theorem setDirectives (h : Acts rc s t) (hk : rc.lane k) (d : Directive) :
    Acts rc s ((t.boundSlots k).foldl (fun t n => t.setDirective n d) t) :=
  h.foldl_bound (fun _ _ h bound => h.setDirective (mayTouch_of_bound hk bound) d) fun t n => setDirective_tables t n d

@[simp] theorem clearHeadAttempts (h : Acts rc s t) (hk : rc.lane k) : Acts rc s (t.clearHeadAttempts k) :=
  h.foldl_bound (fun _ _ h bound => h.setUnit (mayTouch_of_bound hk bound) _) fun _ _ => rfl

@[simp] theorem flushOut (h : Acts rc s t) (hk : rc.lane k) : Acts rc s (t.flushOut k) :=
  (h.dropOut hk (List.nil_sublist _)).clearHeadAttempts hk

@[simp] theorem dropHead (h : Acts rc s t) (hk : rc.lane k) : Acts rc s (t.dropHead k) :=
  (h.dropOut hk (List.tail_sublist _)).clearHeadAttempts hk

@[simp] theorem flushIn (h : Acts rc s t) (hk : rc.lane k) (hp : rc.penalty) : Acts rc s (t.flushIn k) :=
  (h.emptyIn hk).clearPenalty hp k

/-! ### Selections (Arbiter) -/

@[simp] theorem selectNew (h : Acts rc s t) : Acts rc s t.selectNew := by
  rcases t.selectNew_cases with ⟨_, e⟩ | ⟨idle, src, _, e⟩ | ⟨idle, _, e⟩ <;> rw [e]
  · exact h
  · exact h.select (by simp [idle]) src
  · exact (h.select (by simp [idle]) _).choose _

@[simp] theorem atOnce (h : Acts rc s t) (before : State) : Acts rc s (before.atOnce t) := by
  unfold State.atOnce
  split
  · exact h.selectNew
  · exact h

/-! ### Lanes -/

theorem dropDecision (h : Acts rc s t) (hk : rc.lane k) : Acts rc s (t.dropDecision k) :=
  h.setLane hk id (.inr nofun)

@[simp] theorem faultDecision (h : Acts rc s t) (hk : rc.lane k) : Acts rc s (t.faultDecision k) := by
  unfold State.faultDecision
  split
  · exact h
  · split
    · exact h.dropDecision hk
    · next n reader =>
      split
      · exact (h.dropDecision hk).setDirective (mayTouch_of_bound hk (bound_of_readerOf reader)) _
      · exact h.dropDecision hk

@[simp] theorem faultLane (h : Acts rc s t) (hk : rc.lane k) (reason : FaultReason) : Acts rc s (t.faultLane k reason) :=
  ((h.unclosedLane hk).faultDecision hk).raiseAlert hk _ _ _

@[simp] theorem overrun (h : Acts rc s t) (hk : rc.lane k) : Acts rc s (t.overrun k) := by
  rcases t.overrun_cases k with ⟨_, e⟩ | ⟨_, e⟩ <;> simp [e, h, hk]

@[simp] theorem overrunIf (h : Acts rc s t) (hk : rc.lane k) (lost : Bool) : Acts rc s (t.overrunIf k lost) := by
  cases lost <;> simp [h, hk]

@[simp] theorem writeInternal (h : Acts rc s t) (hk : rc.lane k) (kind : EventKind) (content : List Byte) :
    Acts rc s (t.writeInternal k kind content).1 := by
  rcases t.writeInternal_cases k kind content with ⟨fits, e⟩ | ⟨_, e⟩ <;> rw [e]
  · exact h.storeIn hk fits
  · exact h.raiseAlert hk _ _ _

@[simp] theorem written {w : State × Bool} (h : Acts rc s w.1) (hk : rc.lane k) (before : State) :
    Acts rc s (before.written k w) := by
  unfold State.written
  split <;> simp [h, hk]

@[simp] theorem report (h : Acts rc s t) (hk : rc.lane k) (kind : EventKind) (content : List Byte) :
    Acts rc s (t.report k kind content) := (h.writeInternal hk kind content).written hk t

end State.Acts

/-- Closing ends with one replacement of the lane record, and the staged records whose moment has come applied (R144). -/
theorem State.endClosing_eq (s : State) (k : LaneNo) :
    ∃ r : LaneRecord, r.phase = .closed ∧ r.decision = ((s.writeInternal k .closed []).1.lane k).decision ∧
      s.endClosing k = ((s.writeInternal k .closed []).1.setLane k r).applyAllStaged := by
  refine ⟨{ (s.writeInternal k .closed []).1.lane k with phase := .closed, confirms := [], tag := 0 }, rfl, rfl, ?_⟩
  rw [State.endClosing]
  congr 1
  have told : (s.setLane k { s.lane k with phase := .closed, confirms := [] }).writeInternal k .closed [] =
      if s.inFits k (eventRecord .closed (s.lane k).tag []).length then
        ((s.setLane k { s.lane k with phase := .closed, confirms := [] }).storeIn k (eventRecord .closed (s.lane k).tag []),
          false)
      else
        ((s.setLane k { s.lane k with phase := .closed, confirms := [] }).raiseAlert k .inOverrun EventKind.closed.code 0,
          true) := by
    unfold State.writeInternal
    rw [State.lane_setLane_same]
    rfl
  rcases s.writeInternal_cases k .closed [] with ⟨fits, e⟩ | ⟨lost, e⟩
  · simp only [told, fits, e, if_true]
    simp [State.storeIn_eq, State.setLane, State.lane, State.inQueue]
  · simp only [told, lost, e]
    simp [State.raiseAlert, State.setLane, State.lane]

namespace State.Acts

variable {rc : Reach} {s t : State} {k : LaneNo}

@[simp] theorem endClosing (h : Acts rc s t) (hk : rc.lane k) : Acts rc s (t.endClosing k) := by
  obtain ⟨r, _, decision, e⟩ := t.endClosing_eq k
  rw [e]
  exact (h.writeInternal hk _ _).close hk decision

@[simp] theorem checkClosing (h : Acts rc s t) (hk : rc.lane k) : Acts rc s (t.checkClosing k) := by
  unfold State.checkClosing
  split <;> simp [h, hk]

@[simp] theorem confirmMove (h : Acts rc s t) (hk : rc.lane k) (n : SlotNo) (f : Confirmation → Confirmation) :
    Acts rc s (t.confirmMove k n f) := by
  unfold State.confirmMove
  split
  · exact (h.sameLane hk).checkClosing hk
  · exact h

@[simp] theorem dropWindow (h : Acts rc s t) (hk : rc.lane k) : Acts rc s (t.dropWindow k) := h.sameLane hk

@[simp] theorem cancelWindow (h : Acts rc s t) (hk : rc.lane k) (reason : CancelReason) :
    Acts rc s (t.cancelWindow k reason).1 := by
  by_cases live : (t.lane k).windowLive
  · simp [State.cancelWindow_live live, h, hk]
  · simp [State.cancelWindow_quiet live, h, hk]

@[simp] theorem returnCard (h : Acts rc s t) (hk : rc.lane k) : Acts rc s (t.returnCard k) := by
  unfold State.returnCard
  split
  · exact h
  · cases reader : t.readerOf k with
    | none => exact h.dropDecision hk
    | some n => exact (h.dropDecision hk).setDirective (mayTouch_of_bound hk (bound_of_readerOf reader)) _

@[simp] theorem setRests (h : Acts rc s t) (hk : rc.lane k) : Acts rc s (t.setRests k) := by
  refine h.foldl_bound (fun t n h bound => ?_) fun t n => ?_
  · split
    · exact h.setDirective (mayTouch_of_bound hk bound) _
    · exact h
  · split
    · exact setDirective_tables t n _
    · rfl

@[simp] theorem beginClosing (h : Acts rc s t) (hk : rc.lane k) : Acts rc s (t.beginClosing k).1 := by
  unfold State.beginClosing
  exact (((((h.unclosedLane hk).flushOut hk).cancelWindow hk .closed).sameLane hk).returnCard hk).sameLane hk |>.setRests hk

@[simp] theorem enterClosing (h : Acts rc s t) (hk : rc.lane k) : Acts rc s (t.enterClosing k) :=
  ((h.beginClosing hk).checkClosing hk).overrunIf hk _

@[simp] theorem checkOpening (h : Acts rc s t) (hk : rc.lane k) : Acts rc s (t.checkOpening k) := by
  unfold State.checkOpening
  split
  · exact (h.unclosedLane hk).report hk _ _
  · exact h

@[simp] theorem wakeTaken (h : Acts rc s t) (hk : rc.lane k) (n : SlotNo) : Acts rc s (t.wakeTaken k n) := by
  unfold State.wakeTaken
  split
  · exact (h.sameLane hk).checkOpening hk
  · exact h

@[simp] theorem beginOpening (h : Acts rc s t) (hk : rc.lane k) (tag : Word16) : Acts rc s (t.beginOpening k tag) := by
  unfold State.beginOpening
  exact ((h.unclosedLane hk).setDirectives hk .wake).checkOpening hk

@[simp] theorem laneUnitLost (h : Acts rc s t) (hk : rc.lane k) (n : SlotNo) : Acts rc s (t.laneUnitLost k n) := by
  have told := (h.raiseAlert hk .unitLost (t.record n).kind.role 0).atOnce t
  unfold State.laneUnitLost
  dsimp only
  split
  · exact told.faultLane hk _
  · exact told.faultLane hk _
  · exact told.confirmMove hk n _
  · exact told
  · exact told

@[simp] theorem laneUnitRestart (h : Acts rc s t) (hk : rc.lane k) (n : SlotNo) : Acts rc s (t.laneUnitRestart k n) := by
  unfold State.laneUnitRestart
  split <;> simp [h, hk]

@[simp] theorem standbyLane (h : Acts rc s t) (hk : rc.lane k) : Acts rc s (t.standbyLane k) := by
  unfold State.standbyLane
  split
  · exact ((((h.sameLane hk).cancelWindow hk .link).returnCard hk).setDirectives hk .standby).overrunIf hk _
  · exact h

/-- A lane's own decision acted on. -/
theorem resolveDecision (h : Acts rc s t) (hk : rc.lane k) {d : CardDecision} (held : (t.lane k).decision = some d)
    (keep : Bool) (cause : Byte) : Acts rc s (t.resolveDecision k d keep cause) := by
  have may : t.MayTouch rc d.slot := .inr ⟨k, hk, .inr ⟨d, held, rfl⟩⟩
  unfold State.resolveDecision
  rw [State.setDirective_dropDecision]
  exact ((h.setDirective may _).dropDecision hk).report hk _ _

/-- The timer of a lane's decision expires (R177). -/
@[simp] theorem decisionExpires (h : Acts rc s t) (hk : rc.lane k) : Acts rc s (t.decisionExpires k) := by
  unfold State.decisionExpires
  split
  · exact h
  · next d held => exact h.resolveDecision hk held _ _

/-! ### Lane commands -/

@[simp] theorem badCommand (h : Acts rc s t) (hk : rc.lane k) (reason : BadReason) (position : Nat) :
    Acts rc s (t.badCommand k reason position) := h.raiseAlert hk _ _ _

@[simp] theorem lostCommand (h : Acts rc s t) (hk : rc.lane k) (position : Nat) : Acts rc s (t.lostCommand k position) :=
  h.raiseAlert hk _ _ _

@[simp] theorem queueRecord (h : Acts rc s t) (hk : rc.lane k) (position : Nat) (r : List Byte) :
    Acts rc s (t.queueRecord k position r).after := by
  unfold State.queueRecord
  split
  · next fits => exact h.storeOut hk fits
  · exact (h.sameLane hk).lostCommand hk position

@[simp] theorem queueCommand (h : Acts rc s t) (hk : rc.lane k) (position : Nat) (cmd : LaneCmd) :
    Acts rc s (t.queueCommand k position cmd).after := by
  unfold State.queueCommand
  split <;> simp [h, hk]

@[simp] theorem actOpen (h : Acts rc s t) (hk : rc.lane k) (tag : Word16) (position : Nat) :
    Acts rc s (t.actOpen k tag position) := by
  unfold State.actOpen
  split <;> simp [h, hk]

@[simp] theorem actClear (h : Acts rc s t) (hk : rc.lane k) (hp : rc.penalty) : Acts rc s (t.actClear k) := by
  have flushed := ((h.sameLane hk (r := { t.lane k with overflow := false })).flushOut hk).flushIn hk hp
  unfold State.actClear
  dsimp only
  split
  case h_4 | h_5 => exact flushed
  all_goals exact flushed.enterClosing hk

@[simp] theorem actDecide (h : Acts rc s t) (hk : rc.lane k) (choice : Byte) : Acts rc s (t.actDecide k choice) := by
  unfold State.actDecide
  split
  · exact h.raiseAlert hk _ _ _
  · next d held => exact h.resolveDecision hk held _ _

@[simp] theorem act (h : Acts rc s t) (hk : rc.lane k) (hp : rc.penalty) (position : Nat) (cmd : LaneCmd) :
    Acts rc s (t.act k position cmd).after := by
  cases cmd <;> simp [State.act, h, hk, hp]

@[simp] theorem checked (h : Acts rc s t) (hk : rc.lane k) (hp : rc.penalty) (position : Nat) (cmd : LaneCmd) :
    Acts rc s (t.checked k position cmd).after := by
  unfold State.checked
  split
  · exact h.badCommand hk _ _
  · split
    · exact h.badCommand hk _ _
    · split <;> simp [h, hk, hp]

@[simp] theorem perform (h : Acts rc s t) (hk : rc.lane k) (hp : rc.penalty) (position : Nat) (lost : Bool)
    (cmd : LaneCmd) : Acts rc s (t.perform k position lost cmd).after := by
  unfold State.perform
  split <;> split <;> simp [h, hk, hp]

theorem parseBody (h : Acts rc s t) (hk : rc.lane k) (hp : rc.penalty) (fuel position : Nat) (lost : Bool)
    (body : List Byte) : Acts rc s (t.parseBody k fuel position lost body) := by
  induction fuel generalizing t position lost body with
  | zero => exact h
  | succ fuel ih =>
    rw [State.parseBody]
    split
    · exact h
    · split
      · exact h.badCommand hk _ _
      · exact ih (h.perform hk hp _ _ _) _ _ _

end State.Acts

end Sys2Proof.Machine
end

section
/-! SUPPORT. What an act of the part may touch: commands delivered to units, replies, exchanges and the drop line engines. -/

namespace Sys2Proof.Machine

/-- A reach that holds every lane, every slot and the notice set, as what happens at a drop line needs. -/
structure Reach.Wide (rc : Reach) : Prop where
  lane : ∀ k, rc.lane k
  slots : rc.slots

@[simp] theorem Reach.Wide.anyLane {rc : Reach} (w : rc.Wide) (k : LaneNo) : rc.lane k := w.lane k

@[simp] theorem Reach.Wide.anySlot {rc : Reach} (w : rc.Wide) (t : State) (n : SlotNo) : t.MayTouch rc n := .inl w.slots

namespace State.Acts

variable {rc : Reach} {s t : State}

/-! ### Lanes and slots -/

@[simp] theorem anyUnit (h : Acts rc s t) (w : rc.Wide) (n : SlotNo) (u : UnitRun) : Acts rc s (t.setUnit n u) :=
  h.setUnit (w.anySlot t n) u

@[simp] theorem countIgnored (h : Acts rc s t) (w : rc.Wide) (n : SlotNo) (count : Nat) :
    Acts rc s (t.countIgnored n count) := h.anyUnit w n _

@[simp] theorem restartDetected (h : Acts rc s t) (w : rc.Wide) (n : SlotNo) : Acts rc s (t.restartDetected n) := by
  unfold State.restartDetected
  dsimp only
  split <;> simp [h, w]

/-! ### Delivery -/

@[simp] theorem dropDirective (h : Acts rc s t) (w : rc.Wide) (n : SlotNo) (d : Directive) :
    Acts rc s (t.dropDirective n d) := h.anyUnit w n _

@[simp] theorem keypadTook (h : Acts rc s t) (w : rc.Wide) (n : SlotNo) : Acts rc s (t.keypadTook n) := by
  unfold State.keypadTook
  split
  · exact h
  · split
    · exact h.sameLane (w.lane _)
    · exact h

@[simp] theorem beginTaken (h : Acts rc s t) (w : rc.Wide) (k : LaneNo) (n : SlotNo) (r : List Byte) :
    Acts rc s (t.beginTaken k n r) := by
  have hk := w.lane k
  have replaced := (h.cancelWindow hk .replaced).written hk t
  unfold State.beginTaken
  dsimp only
  split
  · split
    · exact (h.sameLane hk).report hk _ _
    · split
      · exact replaced.sameLane hk
      · exact replaced
  · exact h

@[simp] theorem unlockTaken (h : Acts rc s t) (w : rc.Wide) (k : LaneNo) : Acts rc s (t.unlockTaken k) := by
  unfold State.unlockTaken
  split
  · exact h
  · split <;> simp [h, w]

@[simp] theorem windowEffect (h : Acts rc s t) (w : rc.Wide) (k : LaneNo) (n : SlotNo) (r : List Byte) :
    Acts rc s (t.windowEffect k n r) := by
  unfold State.windowEffect
  split <;> simp [h, w]

@[simp] theorem recordTaken (h : Acts rc s t) (w : rc.Wide) (k : LaneNo) (n : SlotNo) (r : List Byte) (attempts : Nat) :
    Acts rc s (t.recordTaken k n r attempts) := by
  have effect := (h.windowEffect w k n r).atOnce t
  unfold State.recordTaken
  dsimp only
  split
  · exact effect.report (w.lane k) _ _
  · exact effect

@[simp] theorem directiveTaken (h : Acts rc s t) (w : rc.Wide) (n : SlotNo) (d : Directive) :
    Acts rc s (t.directiveTaken n d) := by
  unfold State.directiveTaken
  split <;> simp [h, w]

@[simp] theorem takeItem (h : Acts rc s t) (w : rc.Wide) (n : SlotNo) (it : Item) : Acts rc s (t.takeItem n it) := by
  cases it with
  | directive d serial => exact ((h.dropDirective w n d).keypadTook w n).directiveTaken w n d
  | record k serial =>
    unfold State.takeItem
    dsimp only
    split
    · exact h
    · exact ((h.dropHead (w.lane k)).keypadTook w n).recordTaken w k n _ _

@[simp] theorem settleTaken (h : Acts rc s t) (w : rc.Wide) (n : SlotNo) (it : Item) :
    Acts rc s (t.settleTaken n it) := by
  unfold State.settleTaken
  dsimp only
  split <;> simp [h, w]

@[simp] theorem undelivered (h : Acts rc s t) (w : rc.Wide) (n : SlotNo) (code : Byte) :
    Acts rc s (t.undelivered n code) := by
  unfold State.undelivered
  split <;> simp [h, w]

@[simp] theorem directiveGivenUp (h : Acts rc s t) (w : rc.Wide) (n : SlotNo) (d : Directive) :
    Acts rc s (t.directiveGivenUp n d) := by
  unfold State.directiveGivenUp
  split
  · split <;> simp [h, w]
  all_goals simp [h, w]

@[simp] theorem giveUp (h : Acts rc s t) (w : rc.Wide) (n : SlotNo) (it : Item) : Acts rc s (t.giveUp n it) := by
  cases it with
  | directive d serial => exact (((h.dropDirective w n d).undelivered w n d.code).atOnce t).directiveGivenUp w n d
  | record k serial =>
    unfold State.giveUp
    dsimp only
    split
    · exact h
    · exact (h.dropHead (w.lane k)).undelivered w n _

@[simp] theorem countAttempt (h : Acts rc s t) (w : rc.Wide) (n : SlotNo) (it : Item) :
    Acts rc s (t.countAttempt n it) := by
  unfold State.countAttempt
  split
  · split <;> simp [h, w]
  · exact h

@[simp] theorem setDoubt (h : Acts rc s t) (w : rc.Wide) (n : SlotNo) (d : Option Item) : Acts rc s (t.setDoubt n d) :=
  h.anyUnit w n _

@[simp] theorem commandEnds (h : Acts rc s t) (w : rc.Wide) (n : SlotNo) (it : Item) (o : ExchangeOutcome) :
    Acts rc s (t.commandEnds n it o) := by
  unfold State.commandEnds
  split
  · split <;> simp [h, w]
  · simp [h, w]

@[simp] theorem settleDoubt (h : Acts rc s t) (w : rc.Wide) (n : SlotNo) (r : Reply) : Acts rc s (t.settleDoubt n r) := by
  unfold State.settleDoubt
  split
  · exact h
  · split <;> simp [h, w]

@[simp] theorem settleItems (h : Acts rc s t) (w : rc.Wide) (x : Exchange) (o : ExchangeOutcome) (trusted : Bool) :
    Acts rc s (t.settleItems x o trusted) := by
  unfold State.settleItems
  split
  case h_3 | h_4 => split <;> simp [h, w]
  all_goals simp [h, w]

/-! ### Replies -/

@[simp] theorem setWindow (h : Acts rc s t) (w : rc.Wide) (k : LaneNo) (window : Window) :
    Acts rc s (t.setWindow k window) := h.sameLane (w.lane k)

/-- A reply's record is stored with the reply's changes, which leave the room in the lane's queue as it is (R123, R124). -/
theorem acceptWith (h : Acts rc s t) (w : rc.Wide) (k : LaneNo) {record : Option (List Byte)} {changed : State → State}
    (hc : Acts rc s (changed t)) (room : record ≠ none → (changed t).inFits k = t.inFits k) :
    Acts rc s (t.acceptWith k record changed).after := by
  rcases t.acceptWith_cases k record changed with ⟨_, e⟩ | ⟨r, made, fits, e⟩ | ⟨r, _, _, e⟩ <;> rw [e]
  · exact hc
  · exact hc.storeIn (w.lane k) (by rw [room (by simp [made]), fits])
  · exact h

@[simp] theorem discardKeys (h : Acts rc s t) (w : rc.Wide) (n : SlotNo) (count : Nat) :
    Acts rc s (t.discardKeys n count).after := h.countIgnored w n count

@[simp] theorem collectKeys (h : Acts rc s t) (w : rc.Wide) (k : LaneNo) (n : SlotNo) (window : Window)
    (keys : List LogicalKey) : Acts rc s (t.collectKeys k n window keys).after := by
  unfold State.collectKeys
  split <;> exact h.acceptWith w k ((h.setWindow w k _).countIgnored w n _) fun _ => rfl

@[simp] theorem openKeys (h : Acts rc s t) (w : rc.Wide) (k : LaneNo) (n : SlotNo) (keys : List LogicalKey) :
    Acts rc s (t.openKeys k n keys).after := by
  unfold State.openKeys
  split
  · exact h
  · split
    · split
      · exact h.discardKeys w n _
      · exact h.acceptWith w k h fun _ => rfl
    · split <;> simp [h, w]

@[simp] theorem laneCall (h : Acts rc s t) (w : rc.Wide) (k : LaneNo) (cause : Byte) :
    Acts rc s (t.laneCall k cause).after := by
  unfold State.laneCall
  split
  · exact h
  · exact h.acceptWith w k (h.sameLane (w.lane k)) fun _ => rfl

@[simp] theorem takeKeys (h : Acts rc s t) (w : rc.Wide) (k : LaneNo) (n : SlotNo) (marked : Prop) [Decidable marked]
    (raws : List Byte) : Acts rc s (t.takeKeys k n marked raws).after := by
  unfold State.takeKeys
  split
  case h_3 =>
    split
    · split <;> simp [h, w]
    · exact h.discardKeys w n _
  all_goals simp [h, w]

theorem endRead (h : Acts rc s t) (w : rc.Wide) (k : LaneNo) (n : SlotNo) (hold : Bool) :
    Acts rc s (t.endRead k n hold) := h.setLane (w.lane k) id (.inl w.slots)

@[simp] theorem takeFragment (h : Acts rc s t) (w : rc.Wide) (k : LaneNo) (n : SlotNo) (flags : Byte)
    (chars : List Byte) : Acts rc s (t.takeFragment k n flags chars).after := by
  unfold State.takeFragment
  split
  · exact h.countIgnored w n _
  · exact (h.sameLane (w.lane k)).countIgnored w n _
  · exact h.acceptWith w k ((h.endRead w k n _).countIgnored w n _) fun _ => rfl

@[simp] theorem takeCard (h : Acts rc s t) (w : rc.Wide) (k : LaneNo) (n : SlotNo) (payload : List Byte) :
    Acts rc s (t.takeCard k n payload).after := by
  unfold State.takeCard
  split
  case h_2 => split <;> simp [h, w]
  case h_3 =>
    split
    · exact h
    · split
      · exact h
      · split <;> simp [h, w]
  all_goals simp [h, w]

@[simp] theorem applyStatus (h : Acts rc s t) (w : rc.Wide) (n : SlotNo) (e : StatusEffect) :
    Acts rc s (t.applyStatus n e) := by
  cases e <;> simp [State.applyStatus, h, w]

/-- Only an adopted change has a record, and adopting one leaves every queue alone (R111, R150). -/
theorem applyStatus_room {k : LaneNo} {n : SlotNo} {e : StatusEffect} (record : t.statusRecord k n e ≠ none) :
    (t.applyStatus n e).inFits k = t.inFits k := by
  cases e with
  | adopted old new => rfl
  | baseline f => simp [State.statusRecord] at record
  | restart => simp [State.statusRecord] at record
  | unchanged => simp [State.statusRecord] at record
  | noted f => simp [State.statusRecord] at record

@[simp] theorem takeStatus (h : Acts rc s t) (w : rc.Wide) (k : LaneNo) (n : SlotNo) (b : Byte) :
    Acts rc s (t.takeStatus k n b).after := by
  unfold State.takeStatus
  dsimp only
  split
  · exact h.applyStatus w n _
  · exact h.acceptWith w k (h.applyStatus w n _) applyStatus_room

@[simp] theorem refuseBlock (h : Acts rc s t) (w : rc.Wide) (n : SlotNo) : Acts rc s (t.refuseBlock n).after :=
  h.countIgnored w n 1

@[simp] theorem openBlock (h : Acts rc s t) (w : rc.Wide) (k : LaneNo) (n : SlotNo) (block : List Byte) :
    Acts rc s (t.openBlock k n block).after := by
  unfold State.openBlock
  split
  · exact h.refuseBlock w n
  · split
    · split
      · exact h.acceptWith w k (h.setWindow w k _) fun _ => rfl
      · exact h.refuseBlock w n
    · exact h.refuseBlock w n

@[simp] theorem takeBlock (h : Acts rc s t) (w : rc.Wide) (k : LaneNo) (n : SlotNo) (block : List Byte) :
    Acts rc s (t.takeBlock k n block).after := by
  unfold State.takeBlock
  split <;> simp [h, w]

@[simp] theorem dropMark (h : Acts rc s t) (w : rc.Wide) (k : LaneNo) : Acts rc s (t.dropMark k) := by
  unfold State.dropMark
  split <;> simp [h, w]

@[simp] theorem takeData (h : Acts rc s t) (w : rc.Wide) (k : LaneNo) (n : SlotNo) (r : Reply) :
    Acts rc s (t.takeData k n r).after := by
  have marked : Acts rc s (if (t.markMet k n).isSome then t.dropMark k else t) := by split <;> simp [h, w]
  unfold State.takeData
  dsimp only
  split
  · exact marked.takeKeys w k n _ _
  · exact marked.takeCard w k n _
  · exact marked.takeStatus w k n _
  · exact marked.takeBlock w k n _
  · exact marked

@[simp] theorem newData (h : Acts rc s t) (w : rc.Wide) (k : LaneNo) (n : SlotNo) (r : Reply) :
    Acts rc s (t.newData k n r) := ((h.takeData w k n r).anyUnit w n _).confirmMove (w.lane k) n _

@[simp] theorem handleKind (h : Acts rc s t) (w : rc.Wide) (k : LaneNo) (n : SlotNo) (r : Reply) :
    Acts rc s (t.handleKind k n r) := by
  unfold State.handleKind
  split
  · exact (h.anyUnit w n _).confirmMove (w.lane k) n _
  · split <;> simp [h, w]

@[simp] theorem shutDone (h : Acts rc s t) (w : rc.Wide) (k : LaneNo) : Acts rc s (t.shutDone k) := by
  unfold State.shutDone
  split
  · exact h
  · split
    · split <;> simp [h, w]
    · exact h

@[simp] theorem handleReply (h : Acts rc s t) (w : rc.Wide) (n : SlotNo) (kind : TelegramKind) (r : Reply) :
    Acts rc s (t.handleReply n kind r) := by
  unfold State.handleReply
  split
  · exact h
  · split <;> simp [h, w]

/-! ### Exchanges -/

@[simp] theorem countOutcome (h : Acts rc s t) (w : rc.Wide) (n : SlotNo) (o : ExchangeOutcome) :
    Acts rc s (t.countOutcome n o) := h.anyUnit w n _

@[simp] theorem unitBack (h : Acts rc s t) (w : rc.Wide) (n : SlotNo) : Acts rc s (t.unitBack n) := by
  unfold State.unitBack
  split <;> simp [h, w]

@[simp] theorem lockUnit (h : Acts rc s t) (w : rc.Wide) (n : SlotNo) : Acts rc s (t.lockUnit n) := by
  unfold State.lockUnit
  dsimp only
  split <;> simp [h, w]

@[simp] theorem loseUnit (h : Acts rc s t) (w : rc.Wide) (n : SlotNo) : Acts rc s (t.loseUnit n) := by
  unfold State.loseUnit
  dsimp only
  split <;> simp [h, w]

@[simp] theorem presenceValid (h : Acts rc s t) (w : rc.Wide) (n : SlotNo) (kind : TelegramKind) :
    Acts rc s (t.presenceValid n kind) := by
  unfold State.presenceValid
  dsimp only
  split
  case h_4 | h_5 => split <;> simp [h, w]
  all_goals simp [h, w]

@[simp] theorem presenceFailed (h : Acts rc s t) (w : rc.Wide) (n : SlotNo) : Acts rc s (t.presenceFailed n) := by
  unfold State.presenceFailed
  split
  case h_3 => split <;> simp [h, w]
  all_goals simp [h, w]

@[simp] theorem outcomePresence (h : Acts rc s t) (w : rc.Wide) (n : SlotNo) (kind : TelegramKind)
    (o : ExchangeOutcome) : Acts rc s (t.outcomePresence n kind o) := by
  unfold State.outcomePresence
  split <;> simp [h, w]

@[simp] theorem outcomeReply (h : Acts rc s t) (w : rc.Wide) (x : Exchange) (trusted : Bool) (o : ExchangeOutcome) :
    Acts rc s (t.outcomeReply x trusted o) := by
  unfold State.outcomeReply
  split
  · split <;> simp [h, w]
  · exact h

@[simp] theorem outcomeSettled (h : Acts rc s t) (w : rc.Wide) (x : Exchange) (o : ExchangeOutcome) :
    Acts rc s (t.outcomeSettled x o) := ((h.outcomePresence w x.slot x.kind o).atOnce t).settleItems w x o _

@[simp] theorem handleOutcome (h : Acts rc s t) (w : rc.Wide) (x : Exchange) (o : ExchangeOutcome) :
    Acts rc s (t.handleOutcome x o) := ((h.outcomeSettled w x o).atOnce t).outcomeReply w x _ o

@[simp] theorem giveOutcome (h : Acts rc s t) (w : rc.Wide) (x : Exchange) (o : ExchangeOutcome) :
    Acts rc s (t.giveOutcome x o) := by
  unfold State.giveOutcome
  split <;> simp [h, w]

end State.Acts

end Sys2Proof.Machine
end

section
/-! SUPPORT. What an act of the part may touch: the drop line engines. -/

namespace Sys2Proof.Machine.State.Acts

variable {rc : Reach} {s t : State} {l : Line}

/-! ### Engines -/

@[simp] theorem refresh (h : Acts rc s t) (hl : rc.line l) : Acts rc s (t.refresh l) := by
  rw [State.refresh_eq]
  exact h.setEngine hl _

@[simp] theorem startRun (h : Acts rc s t) (w : rc.Wide) (hl : rc.line l) (n : SlotNo) (atEntry : Bool) :
    Acts rc s (t.startRun l n atEntry) := (h.anyUnit w n _).setEngine hl _

@[simp] theorem entryDue (h : Acts rc s t) (w : rc.Wide) (hl : rc.line l) (p : Nat) (n : SlotNo) (a : EntryAction) :
    Acts rc s (t.entryDue l p n a) := by
  unfold State.entryDue
  dsimp only
  split <;> simp [h.setEngine hl, w, hl]

@[simp] theorem sweepDue (h : Acts rc s t) (hl : rc.line l) : Acts rc s (t.sweepDue l) := h.setEngine hl _
@[simp] theorem waitTick (h : Acts rc s t) (hl : rc.line l) : Acts rc s (t.waitTick l) := h.setEngine hl _

@[simp] theorem beginPass (h : Acts rc s t) (w : rc.Wide) (hl : rc.line l) : Acts rc s (t.beginPass l) := by
  unfold State.beginPass
  dsimp only
  split
  · exact (h.setEngine hl _).entryDue w hl _ _ _
  · split
    · exact (h.setEngine hl _).sweepDue hl
    · exact (h.setEngine hl _).waitTick hl

@[simp] theorem endPass (h : Acts rc s t) (w : rc.Wide) (hl : rc.line l) : Acts rc s (t.endPass l) := by
  unfold State.endPass
  split
  · exact h.sweepDue hl
  · split <;> simp [h, w, hl]

@[simp] theorem reachNext (h : Acts rc s t) (w : rc.Wide) (hl : rc.line l) : Acts rc s (t.reachNext l) := by
  unfold State.reachNext
  split
  · exact h.endPass w hl
  · split <;> simp [h, w, hl]

@[simp] theorem passEntry (h : Acts rc s t) (hl : rc.line l) : Acts rc s (t.passEntry l) := h.setEngine hl _

@[simp] theorem endRun (h : Acts rc s t) (hl : rc.line l) (r : ConfirmRun) : Acts rc s (t.endRun l r) := by
  unfold State.endRun
  dsimp only
  split <;> simp [h.setEngine hl, hl]

@[simp] theorem nextDue (h : Acts rc s t) (w : rc.Wide) (hl : rc.line l) : Acts rc s (t.nextDue l) := by
  unfold State.nextDue
  split <;> simp [h, w, hl]

@[simp] theorem advance (h : Acts rc s t) (w : rc.Wide) (hl : rc.line l) : Acts rc s (t.advance l) := by
  unfold State.advance
  split
  · exact h.nextDue w hl
  · split
    · exact h.setEngine hl _
    · exact (h.endRun hl _).nextDue w hl

@[simp] theorem wakeEngine (h : Acts rc s t) (w : rc.Wide) (hl : rc.line l) : Acts rc s (t.wakeEngine l) := by
  unfold State.wakeEngine
  split <;> simp [h, w, hl]

@[simp] theorem adopt (h : Acts rc s t) (hl : rc.line l) : Acts rc s (t.adopt l) := by
  unfold State.adopt
  split
  · exact h
  · exact h.setLine hl _

@[simp] theorem recheck (h : Acts rc s t) (w : rc.Wide) (hl : rc.line l) : Acts rc s (t.recheck l) := by
  unfold State.recheck
  split
  · split <;> simp [h, w, hl]
  · split
    · exact h.reachNext w hl
    · split <;> simp [h, w, hl]
  · exact h

@[simp] theorem beginExchange (h : Acts rc s t) (hl : rc.line l) (n : SlotNo) : Acts rc s (t.beginExchange l n) :=
  (h.adopt hl).setEngine hl _

@[simp] theorem sendTelegram (h : Acts rc s t) (w : rc.Wide) (hl : rc.line l) : Acts rc s (t.sendTelegram l) := by
  unfold State.sendTelegram
  split
  · exact h.setEngine hl _
  · unfold State.beginTelegram
    dsimp only
    split <;> simp [h, w, hl]

@[simp] theorem sendProbe (h : Acts rc s t) (hl : rc.line l) : Acts rc s (t.sendProbe l) := by
  unfold State.sendProbe
  split
  · exact h.setEngine hl _
  · exact (h.adopt hl).setEngine hl _

@[simp] theorem settleRun (h : Acts rc s t) (hl : rc.line l) (n : SlotNo) (failed : Bool) :
    Acts rc s (t.settleRun l n failed) := by
  unfold State.settleRun
  split <;> split <;> simp [h, hl]

@[simp] theorem endExchange (h : Acts rc s t) (w : rc.Wide) (hl : rc.line l) (x : Exchange) (o : ExchangeOutcome)
    (after : XState) : Acts rc s (t.endExchange l x o after) :=
  ((h.setEngine hl _).giveOutcome w x o).settleRun hl x.slot _

@[simp] theorem cleanAnswer (h : Acts rc s t) (w : rc.Wide) (hl : rc.line l) (address : Nat) :
    Acts rc s (t.cleanAnswer l address) := by
  unfold State.cleanAnswer
  split
  · exact h.raiseNotice w.slots _ _ _
  · split <;> simp [h, w, hl]

@[simp] theorem garble (h : Acts rc s t) (hl : rc.line l) (r : AddrRange) : Acts rc s (t.garble l r) := by
  unfold State.garble
  split
  · exact h.setEngine hl _
  · exact h.setEngine hl _

@[simp] theorem judgeAnswer (h : Acts rc s t) (w : rc.Wide) (hl : rc.line l) (r : AddrRange)
    (answers : List (Byte × Bool)) : Acts rc s (t.judgeAnswer l r answers) := by
  unfold State.judgeAnswer
  split <;> simp [h, w, hl]

@[simp] theorem endProbe (h : Acts rc s t) (w : rc.Wide) (hl : rc.line l) (p : Probe) (answers : List (Byte × Bool)) :
    Acts rc s (t.endProbe l p answers) := (h.setEngine hl _).judgeAnswer w hl _ _

@[simp] theorem takeChar (h : Acts rc s t) (hl : rc.line l) (err : CharError) (count : Bool) :
    Acts rc s (t.takeChar l err count) := h.setEngine hl _

@[simp] theorem replyChar (h : Acts rc s t) (w : rc.Wide) (hl : rc.line l) (x : Exchange) (err : CharError)
    (value : Byte) : Acts rc s (t.replyChar l x err value) := by
  unfold State.replyChar
  dsimp only
  split
  · exact h.endExchange w hl x _ _
  · split
    · exact h.endExchange w hl x _ _
    · split
      · exact h.endExchange w hl x _ _
      · exact h.setEngine hl _

@[simp] theorem answerChar (h : Acts rc s t) (w : rc.Wide) (hl : rc.line l) (p : Probe) (err : CharError)
    (value : Byte) : Acts rc s (t.answerChar l p err value) := by
  unfold State.answerChar
  dsimp only
  split
  · exact h.endProbe w hl p _
  · exact h.setEngine hl _

@[simp] theorem strayChar (h : Acts rc s t) (hl : rc.line l) : Acts rc s (t.strayChar l) := h.setEngine hl _

@[simp] theorem deliver (h : Acts rc s t) (w : rc.Wide) (hl : rc.line l) (ch : Sampled) :
    Acts rc s (t.deliver l ch) := by
  unfold State.deliver
  dsimp only
  split
  case h_5 => split <;> simp [h, hl]
  all_goals simp [h, w, hl]

@[simp] theorem deliverRun (h : Acts rc s t) (w : rc.Wide) (hl : rc.line l) (chars : List Sampled) :
    Acts rc s (t.deliverRun l chars) := foldl (fun _ ch h => (h.deliver w hl ch).refresh hl) chars h

@[simp] theorem countConflict (h : Acts rc s t) (hl : rc.line l) (readBack : Option Sampled) :
    Acts rc s (t.countConflict l readBack) := h.setEngine hl _

@[simp] theorem afterConflict (h : Acts rc s t) (w : rc.Wide) (hl : rc.line l) : Acts rc s (t.afterConflict l) := by
  unfold State.afterConflict
  split
  · exact h
  · split
    · exact (h.endExchange w hl _ _ _).advance w hl
    · exact (h.setEngine hl _).beginPass w hl
    · exact h

@[simp] theorem lineReset (h : Acts rc s t) (w : rc.Wide) (hl : rc.line l) : Acts rc s (t.lineReset l) := by
  unfold State.lineReset
  dsimp only
  split
  · exact h.setEngine hl _
  · exact (h.setEngine hl _).giveOutcome w _ _

@[simp] theorem countStuck (h : Acts rc s t) (w : rc.Wide) (hl : rc.line l) : Acts rc s (t.countStuck l) :=
  (h.setEngine hl _).raiseNotice w.slots _ _ _

@[simp] theorem recover (h : Acts rc s t) (w : rc.Wide) (hl : rc.line l) : Acts rc s (t.recover l) := by
  unfold State.recover
  dsimp only
  split
  · exact (h.lineReset w hl).setEngine hl _
  · exact h.setEngine hl _

@[simp] theorem watchdogExpires (h : Acts rc s t) (w : rc.Wide) (hl : rc.line l) : Acts rc s (t.watchdogExpires l) :=
  ((h.countStuck w hl).atOnce t).recover w hl

@[simp] theorem ringLoaded (h : Acts rc s t) (w : rc.Wide) (hl : rc.line l) : Acts rc s (t.ringLoaded l) := by
  have cut := h.setEngine hl { t.engine l with cut := true }
  unfold State.ringLoaded
  dsimp only
  split
  · split
    · exact (cut.setEngine hl _).endPass w hl
    · exact cut
  · exact cut.setEngine hl _
  · exact cut.setEngine hl _
  · exact cut

@[simp] theorem sendingDone (h : Acts rc s t) (hl : rc.line l) : Acts rc s (t.sendingDone l) := h.setEngine hl _

@[simp] theorem startEdge (h : Acts rc s t) (hl : rc.line l) (accepted : Bool) : Acts rc s (t.startEdge l accepted) := by
  unfold State.startEdge
  dsimp only
  split
  · exact h.setEngine hl _
  · split
    · exact h
    · exact h.setEngine hl _

end Sys2Proof.Machine.State.Acts

namespace Sys2Proof

/-- The drop line that a command names. -/
def Instr.atLine : Instr → Option Line
  | .telegram l | .sweep l | .transmissionComplete l | .echoConflict l _ _ | .noReply l | .replyCharacter l _
  | .reply l _ | .truncated l | .guardRunsOut l | .passBegins l | .sweepReplyWindow l | .sweepAnswerCharacter l _
  | .sweepGap l | .strayCharacter l _ | .chatterIntervalEnds l | .breakEnds l | .lineWatchdog l | .startEdge l _ => some l
  | _ => none

end Sys2Proof

namespace Sys2Proof.Machine

/-! ### Commands at a drop line -/

/-- Every state that `o` leads to comes of `s` by acts within the reach. -/
def State.EndsActing (rc : Reach) (s : State) (o : Host.Outcome State Fault Refusal) : Prop :=
  ∃ t, o = .next t ∧ s.Acts rc t

namespace State.EndsActing

variable {rc : Reach} {s t : State} {l : Line}

theorem finish (h : s.Acts rc t) : s.EndsActing rc (finish t) := ⟨_, rfl, h.selectNew⟩

theorem finishLine (hl : rc.line l) (h : s.Acts rc t) : s.EndsActing rc (finishLine l t) := finish (h.refresh hl)

/-- A line command that acts only in its moment. -/
theorem lineIf (hl : rc.line l) {p : Prop} [Decidable p] (h : s.Acts rc t) :
    s.EndsActing rc (if p then Machine.finishLine l t else Machine.finish s) := by
  split
  · exact finishLine hl h
  · exact finish .refl

end State.EndsActing

/-- A command at a drop line acts on that line's engine and settings, and on lanes and slots (R58). -/
theorem exec_atLine {rc : Reach} (w : rc.Wide) {l : Line} (hl : rc.line l) {c : Instr} (at_line : c.atLine = some l)
    (s : State) : s.EndsActing rc (exec c s) := by
  have still : s.Acts rc s := .refl
  cases c <;> try cases at_line
  case telegram => exact .lineIf hl ((still.wakeEngine w hl).sendTelegram w hl)
  case sweep => exact .lineIf hl ((still.wakeEngine w hl).sendProbe hl)
  case transmissionComplete => exact .lineIf hl (still.sendingDone hl)
  case echoConflict index readBack => exact .lineIf hl ((still.countConflict hl readBack).afterConflict w hl)
  case replyCharacter ch => exact .lineIf hl (still.deliver w hl ch)
  case guardRunsOut => exact .lineIf hl ((still.setEngine hl _).advance w hl)
  case sweepAnswerCharacter ch => exact .lineIf hl (still.deliver w hl ch)
  case strayCharacter ch => exact .lineIf hl (still.deliver w hl ch)
  case chatterIntervalEnds => exact .lineIf hl (still.setEngine hl _)
  case breakEnds => exact .lineIf hl (still.setEngine hl _)
  case lineWatchdog => exact .lineIf hl (still.watchdogExpires w hl)
  case startEdge accepted => exact .lineIf hl (still.startEdge hl accepted)
  case noReply =>
    show s.EndsActing rc (execNoReply l s)
    unfold execNoReply
    split
    · exact .finishLine hl (still.endExchange w hl _ _ _)
    · exact .finish still
  case reply chars =>
    show s.EndsActing rc (execReply l chars s)
    unfold execReply
    split
    · exact .finish (still.deliverRun w hl chars)
    · exact .finish still
  case truncated =>
    show s.EndsActing rc (execTruncated l s)
    unfold execTruncated
    split
    · split
      · exact .finish still
      · exact .finishLine hl (still.endExchange w hl _ _ _)
    · exact .finish still
  case passBegins =>
    show s.EndsActing rc (execPassBegins l s)
    unfold execPassBegins
    split
    · exact .finishLine hl (still.beginPass w hl)
    · exact .lineIf hl (still.beginPass w hl)
  case sweepReplyWindow =>
    show s.EndsActing rc (execSweepReplyWindow l s)
    unfold execSweepReplyWindow
    split
    · exact .finishLine hl (still.endProbe w hl _ _)
    · exact .finish still
  case sweepGap =>
    show s.EndsActing rc (execSweepGap l s)
    unfold execSweepGap
    split
    · split
      · exact .finish still
      · exact .finishLine hl (still.endProbe w hl _ _)
    · exact .finish still

end Sys2Proof.Machine
end

section
/-! SUPPORT. One step of the part: it leaps where a reset, a loaded unit record or a loaded partition asks for it, and goes
on by acts. -/

namespace Sys2Proof.Machine

/-- The whole part. -/
def Reach.part : Reach := ⟨fun _ => True, fun _ => True, True, True, True⟩

theorem Reach.part_wide : Reach.part.Wide := ⟨fun _ => trivial, trivial⟩

namespace State.Acts

variable {s t : State}

/-! ### Link Port -/

@[simp] theorem setLink (h : s.Acts .part t) (p : LinkPort) : s.Acts .part (t.setLink p) :=
  h.setPort trivial p t.reply t.softPending t.tables rfl rfl

@[simp] theorem setReply (h : s.Acts .part t) (r : Option (List Byte)) : s.Acts .part (t.setReply r) :=
  h.setPort trivial t.link r t.softPending t.tables rfl rfl

theorem setTables (h : s.Acts .part t) {x : Tables} (units : x.units = t.tables.units := by rfl)
    (partition : x.partition = t.tables.partition := by rfl) : s.Acts .part (t.setTables x) :=
  h.setPort trivial t.link t.reply t.softPending x units partition

@[simp] theorem selectByRank (h : s.Acts .part t) : s.Acts .part t.selectByRank := by
  have won (unsent : ∀ f, t.link.tx ≠ .sending f) : s.Acts .part t.selectWinner := by
    unfold State.selectWinner
    split
    · exact h.setLink _
    · exact h.select unsent _
  unfold State.selectByRank
  split
  · exact h
  · next idle => exact won (by simp [idle])
  · next gathering => exact won (by simp [gathering])

theorem goodFrame (h : s.Acts .part t) : s.Acts .part t.goodFrame := by
  unfold State.goodFrame
  dsimp only
  split
  · have woken : s.Acts .part (t.setLink t.link.goodFrame).clearStandby :=
      foldl (fun _ _ h => h.sameLane trivial) _ (h.setLink _)
    exact woken.raiseNotice trivial _ _ _
  · exact h.setLink _

theorem latchRequest (h : s.Acts .part t) (body : List Byte) : s.Acts .part (t.latchRequest body) := by
  unfold State.latchRequest
  split
  · exact h.setLink _
  · exact (h.setLink _).raiseNotice trivial _ _ _

theorem dispatch (h : s.Acts .part t) (good : GoodFrame) : s.Acts .part (t.dispatch good) := by
  cases good with
  | laneCommands k body => exact h.goodFrame.parseBody trivial trivial _ _ _ body
  | request body => exact h.goodFrame.latchRequest body

theorem linkChar (h : s.Acts .part t) (ch : Option Byte) : s.Acts .part (t.linkChar ch) := by
  unfold State.linkChar State.frameEnded
  dsimp only
  split
  · exact h.setLink _
  · exact (h.setLink _).setLink _
  · exact ((h.setLink _).dispatch _).selectByRank

theorem goQuiet (h : s.Acts .part t) : s.Acts .part t.goQuiet :=
  foldl (fun _ _ h => h.standbyLane trivial) _ (h.setLink _)

/-! ### Requests that load neither a unit record nor a partition -/

@[simp] theorem answer (h : s.Acts .part t) (code : Byte) (status : Status) (data : List Byte) :
    s.Acts .part (t.answer code status data) := h.setReply _

@[simp] theorem refuse (h : s.Acts .part t) (code : Byte) (reason : ReqReason) (detail : Byte) :
    s.Acts .part (t.refuse code reason detail) := h.setReply _

/-- MGU takes a request whose execution is made of acts. -/
theorem takeRequest (h : s.Acts .part t) (code : Byte) {execute : List Byte → State → State}
    (he : ∀ args u, s.Acts .part u → s.Acts .part (execute args u)) : s.Acts .part (t.takeRequest code execute) := by
  rcases t.takeRequest_cases code execute with e | ⟨args, _, _, e⟩ <;> rw [e]
  · exact h
  · exact he args _ (h.setLink _)

theorem takeUnknown (h : s.Acts .part t) : s.Acts .part t.takeUnknown := by
  have refused (c : Byte) (reason : ReqReason) : s.Acts .part (t.emptyLatch.refuse c reason 0) :=
    (h.setLink _).refuse _ _ _
  unfold State.takeUnknown
  split
  · exact h
  · split
    · exact refused _ _
    · exact h
  · split
    · exact refused _ _
    · exact h

theorem indexed (h : s.Acts .part t) (code : Byte) (len bound : Nat) (args : List Byte)
    {execute : Fin bound → List Byte → State} (he : ∀ i fields, s.Acts .part (execute i fields)) :
    s.Acts .part (t.indexed code len bound args execute) := by
  unfold State.indexed
  split
  · exact h.refuse _ _ _
  · split
    · exact h.refuse _ _ _
    · split
      · exact he _ _
      · exact h.refuse _ _ _

theorem valued {α : Type} (h : s.Acts .part t) (code : Byte) (check : FieldCheck α) {execute : α → State}
    (he : ∀ x, s.Acts .part (execute x)) : s.Acts .part (t.valued code check execute) := by
  unfold State.valued
  split
  · exact h.refuse _ _ _
  · exact he _

theorem counterScoped (h : s.Acts .part t) (code : Byte) (args : List Byte) {execute : Scope → State}
    (he : ∀ scope, s.Acts .part (execute scope)) : s.Acts .part (t.scoped code args execute) := by
  unfold State.scoped
  split
  · split
    · exact h.refuse _ _ _
    · exact he _
  · exact h.refuse _ _ _

theorem readUnitOn (args : List Byte) (t : State) (h : s.Acts .part t) : s.Acts .part (Machine.readUnitOn args t) :=
  h.indexed _ _ _ _ fun _ _ => h.answer _ _ _

theorem loadLaneOn (args : List Byte) (t : State) (h : s.Acts .part t) : s.Acts .part (Machine.loadLaneOn args t) := by
  refine h.indexed _ _ _ _ fun k fields => h.valued _ _ fun r => ?_
  split
  · exact h.setTables.answer _ _ _
  · exact h.refuse _ _ _

theorem readLaneOn (args : List Byte) (t : State) (h : s.Acts .part t) : s.Acts .part (Machine.readLaneOn args t) :=
  h.indexed _ _ _ _ fun _ _ => h.answer _ _ _

theorem loadKeymapOn (args : List Byte) (t : State) (h : s.Acts .part t) : s.Acts .part (Machine.loadKeymapOn args t) :=
  h.indexed _ _ _ _ fun _ _ => h.setTables.answer _ _ _

theorem loadPolicyOn (args : List Byte) (t : State) (h : s.Acts .part t) : s.Acts .part (Machine.loadPolicyOn args t) :=
  h.indexed _ _ _ _ fun _ _ => h.valued _ _ fun _ => h.setTables.answer _ _ _

theorem loadPromptOn (args : List Byte) (t : State) (h : s.Acts .part t) : s.Acts .part (Machine.loadPromptOn args t) :=
  h.indexed _ _ _ _ fun _ _ => h.setTables.answer _ _ _

theorem loadRingOn (args : List Byte) (t : State) (h : s.Acts .part t) : s.Acts .part (Machine.loadRingOn args t) := by
  unfold Machine.loadRingOn
  split
  · split
    · exact h.refuse _ _ _
    · split
      · exact h.refuse _ _ _
      · refine h.valued _ _ fun ring => ?_
        split
        · exact h.refuse _ _ _
        · exact (h.setTables.ringLoaded Reach.part_wide trivial).answer _ _ _
  · exact h.refuse _ _ _

theorem setLinkOn (args : List Byte) (t : State) (h : s.Acts .part t) : s.Acts .part (Machine.setLinkOn args t) := by
  unfold Machine.setLinkOn
  split
  · exact h.refuse _ _ _
  · exact h.valued _ _ fun _ => h.setTables.answer _ _ _

theorem setLineOn (args : List Byte) (t : State) (h : s.Acts .part t) : s.Acts .part (Machine.setLineOn args t) := by
  unfold Machine.setLineOn
  split
  · exact h.refuse _ _ _
  · split
    · exact h.refuse _ _ _
    · split
      · exact h.refuse _ _ _
      · exact h.valued _ _ fun _ => h.setTables.answer _ _ _

theorem readStatusOn (args : List Byte) (t : State) (h : s.Acts .part t) : s.Acts .part (Machine.readStatusOn args t) := by
  unfold Machine.readStatusOn
  split <;> simp [h]

theorem readCountersOn (args : List Byte) (t : State) (h : s.Acts .part t) :
    s.Acts .part (Machine.readCountersOn args t) := h.counterScoped _ _ fun _ => h.answer _ _ _

theorem clearCountersOn (args : List Byte) (t : State) (h : s.Acts .part t) :
    s.Acts .part (Machine.clearCountersOn args t) := by
  refine h.counterScoped _ _ fun scope => answer ?_ _ _ _
  have w := Reach.part_wide
  cases scope with
  | link => exact h.setLink _
  | line l => exact h.setEngine trivial _
  | slot n => exact h.anyUnit w n _
  | all => exact foldl (fun _ n h => h.anyUnit w n _) _ (((h.setLink _).setEngine trivial _).setEngine trivial _)

theorem softResetOn (args : List Byte) (t : State) (h : s.Acts .part t) : s.Acts .part (Machine.softResetOn args t) := by
  unfold Machine.softResetOn
  split
  · exact (h.answer 15 .done []).setPort trivial _ _ true _ rfl rfl
  · exact h.refuse _ _ _

/-! ### Ticks -/

theorem tickEvent (h : s.Acts .part t) (e : TickEvent) : s.Acts .part (t.tickEvent e) := by
  have w := Reach.part_wide
  have line (l : Line) : Reach.part.line l := trivial
  unfold State.tickEvent
  split
  · refine selectNew ?_
    cases e with
    | silence => exact h.goQuiet
    | decision k => exact h.decisionExpires trivial
    | watchdog l =>
      dsimp only
      unfold State.watchdogTick
      split
      · have told := ((h.countStuck w (line l)).countStuck w (line (otherLine l))).atOnce t
        exact ((((told.recover w (line l)).atOnce _).recover w (line _)).refresh (line l)).refresh (line _)
      · exact (h.watchdogExpires w (line l)).refresh (line l)
    | pass l => exact (h.beginPass w (line l)).refresh (line l)
  · exact h

theorem takeEvents (h : s.Acts .part t) (fuel : Nat) (events : List TickEvent) :
    s.Acts .part (t.takeEvents fuel events) := by
  induction fuel generalizing t events with
  | zero => exact h
  | succ fuel ih =>
    rw [State.takeEvents]
    split
    · exact h
    · refine ih (tickEvent ?_ _) _
      unfold State.countChoice
      split
      · exact h
      · exact h.choose _

end State.Acts

/-! ### Leaps -/

/-- What a step begins with before it goes on by acts: taking a command, a counted tick, a reset, a loaded unit record or a
loaded partition. -/
inductive State.Leaps (s : State) : State → Prop
  | still {u : State} (phases : ∀ k, (u.lane k).phase = (s.lane k).phase) (tables : u.tables = s.tables)
      (inbound : u.inbound = s.inbound) (outbound : u.outbound = s.outbound) : State.Leaps s u
  | hardwareReset {u : State} : State.Leaps s u.hardwareReset
  | softReset {u : State} (tables : u.tables = s.tables) : State.Leaps s u.softReset
  | loadUnit {u : State} (h : State.Leaps s u) {n : SlotNo} {r : UnitRecord} (fits : u.conflict n r = none)
      (received : List Byte) : State.Leaps s (u.acceptUnit n r received)
  | loadPartition {u : State} (h : State.Leaps s u) {fields : List Byte} (length : fields.length = 16)
      {sizes : Vector Nat 16} (checked : partitionFields fields = .inr sizes)
      (free : ∀ k, u.partitionBusy sizes k = false) :
      State.Leaps s (u.setTables { u.tables with partition := sizes })

/-- A leap, and the acts behind it. -/
def State.StepsTo (s t : State) : Prop := ∃ u, s.Leaps u ∧ u.Acts .part t

namespace State.StepsTo

variable {s t : State}

theorem acts (h : s.Acts .part t) : s.StepsTo t := ⟨s, .still (fun _ => rfl) rfl rfl rfl, h⟩

/-- A step on the state a command is taken from. -/
theorem selectNew (h : s.StepsTo t) : s.StepsTo t.selectNew := by
  obtain ⟨u, leap, acts⟩ := h
  exact ⟨u, leap, acts.selectNew⟩

/-- LOAD_UNIT leaps where the record is accepted, and is refused by an act otherwise. -/
theorem loadUnit (s : State) : s.StepsTo (s.takeRequest 1 loadUnitOn) := by
  have emptied : s.Leaps s.emptyLatch := .still (fun _ => rfl) rfl rfl rfl
  rcases s.takeRequest_cases 1 loadUnitOn with e | ⟨args, _, _, e⟩ <;> rw [e]
  · exact acts .refl
  · have refused (reason : ReqReason) (detail : Byte) : s.StepsTo (s.emptyLatch.refuse 1 reason detail) :=
      ⟨_, emptied, State.Acts.refl.refuse _ _ _⟩
    unfold loadUnitOn State.indexed
    split
    · exact refused _ _
    · split
      · exact refused _ _
      · split
        · unfold State.valued
          dsimp only
          split
          · exact refused _ _
          · split
            · exact refused _ _
            · split
              · exact refused _ _
              · next fits => exact ⟨_, emptied.loadUnit fits _, .refl⟩
        · exact refused _ _

/-- LOAD_PARTITION leaps where the partition is accepted, and is refused by an act otherwise. -/
theorem loadPartition (s : State) : s.StepsTo (s.takeRequest 9 loadPartitionOn) := by
  have emptied : s.Leaps s.emptyLatch := .still (fun _ => rfl) rfl rfl rfl
  rcases s.takeRequest_cases 9 loadPartitionOn with e | ⟨args, _, _, e⟩ <;> rw [e]
  · exact acts .refl
  · have refused (reason : ReqReason) (detail : Byte) : s.StepsTo (s.emptyLatch.refuse 9 reason detail) :=
      ⟨_, emptied, State.Acts.refl.refuse _ _ _⟩
    unfold loadPartitionOn
    split
    · exact refused _ _
    · next length =>
      unfold State.valued
      split
      · exact refused _ _
      · next sizes checked =>
        dsimp only
        split
        · exact refused _ _
        · next free =>
          have free (k : LaneNo) : s.emptyLatch.partitionBusy sizes k = false := by
            simpa using List.find?_eq_none.mp free k (List.mem_finRange k)
          exact ⟨_, emptied.loadPartition (by simpa using length) checked free, State.Acts.refl.answer _ _ _⟩

/-- A closing delimiter: a soft reset leaps, the rest is acts (R13, R19, R21). -/
theorem closingDelimiter {s : State} {f : Frame} : s.StepsTo (s.frameSent f) := by
  unfold State.frameSent
  cases f.brings with
  | nothing => exact acts (State.Acts.refl.setLink _).selectByRank
  | linkSettings new => exact acts ((State.Acts.refl.setLink _).setLink _).selectByRank
  | softReset =>
    have reset (u : State) (tables : u.tables = s.tables) : s.StepsTo u.softReset.selectByRank :=
      ⟨u.softReset, .softReset tables, State.Acts.refl.selectByRank⟩
    exact reset _ rfl

end State.StepsTo

/-- Every command is a leap and acts. -/
theorem exec_stepsTo (c : Instr) (s : State) : ∃ t, exec c s = .next t ∧ s.StepsTo t := by
  have w := Reach.part_wide
  have still : s.Acts .part s := .refl
  have done {t : State} (h : s.Acts .part t) : ∃ u, finish t = .next u ∧ s.StepsTo u := ⟨_, rfl, .acts h.selectNew⟩
  have framed {t : State} (h : s.Acts .part t) : ∃ u, finishFrame t = .next u ∧ s.StepsTo u :=
    ⟨_, rfl, .acts h.selectByRank⟩
  have row (k : LaneNo) (cmd : LaneCmd) (rest : List Byte) : ∃ u, laneCommand k cmd rest s = .next u ∧ s.StepsTo u :=
    framed ((((still.setLink _).goodFrame).perform trivial trivial _ _ _).parseBody trivial trivial _ _ _ _)
  have atLine (l : Line) (h : c.atLine = some l) : ∃ t, exec c s = .next t ∧ s.StepsTo t := by
    obtain ⟨t, ends, acts⟩ := exec_atLine w (l := l) trivial h s
    exact ⟨t, ends, .acts acts⟩
  cases c with
  | hardwareReset => exact ⟨_, rfl, _, .hardwareReset, State.Acts.refl.selectByRank⟩
  | linkCharacter data stop => exact done (by split; exacts [still, still.linkChar _])
  | request body => exact framed ((still.setLink _).goodFrame.latchRequest body)
  | laneCommands k body => exact framed ((still.setLink _).goodFrame.parseBody trivial trivial _ _ _ body)
  | openLane k tag rest => exact row k (.openLane tag) rest
  | closeLane k rest => exact row k .close rest
  | clearLane k rest => exact row k .clear rest
  | showText k place report text rest => exact row k (.showText place report text) rest
  | tone k pattern report rest => exact row k (.tone pattern report) rest
  | reader k onOff report rest => exact row k (.reader onOff report) rest
  | entry k count dot echo chain report rest => exact row k (.entry count dot echo chain report) rest
  | pin k min max chain report rest => exact row k (.pin min max chain report) rest
  | unlock k report rest => exact row k (.unlock report) rest
  | decideCard k choice rest => exact row k (.decideCard choice) rest
  | loadUnit => exact ⟨_, rfl, (State.StepsTo.loadUnit s).selectNew⟩
  | loadPartition => exact ⟨_, rfl, (State.StepsTo.loadPartition s).selectNew⟩
  | readUnit => exact done (still.takeRequest 2 State.Acts.readUnitOn)
  | loadLane => exact done (still.takeRequest 3 State.Acts.loadLaneOn)
  | readLane => exact done (still.takeRequest 4 State.Acts.readLaneOn)
  | loadKeymap => exact done (still.takeRequest 5 State.Acts.loadKeymapOn)
  | loadPolicy => exact done (still.takeRequest 6 State.Acts.loadPolicyOn)
  | loadRing => exact done (still.takeRequest 7 State.Acts.loadRingOn)
  | loadPrompt => exact done (still.takeRequest 8 State.Acts.loadPromptOn)
  | setLink => exact done (still.takeRequest 10 State.Acts.setLinkOn)
  | setLine => exact done (still.takeRequest 11 State.Acts.setLineOn)
  | readStatus => exact done (still.takeRequest 12 State.Acts.readStatusOn)
  | readCounters => exact done (still.takeRequest 13 State.Acts.readCountersOn)
  | clearCounters => exact done (still.takeRequest 14 State.Acts.clearCountersOn)
  | softReset => exact done (still.takeRequest 15 State.Acts.softResetOn)
  | unknownRequest => exact done still.takeUnknown
  | closingDelimiter =>
    show ∃ t, execClosingDelimiter s = .next t ∧ _
    unfold execClosingDelimiter
    split
    · exact done still
    · exact done still
    · exact ⟨_, rfl, State.StepsTo.closingDelimiter.selectNew⟩
  | silenceTimerExpiry => exact done (by split; exacts [still.goQuiet, still])
  | decisionTimerExpiry k => exact done (still.decisionExpires trivial)
  | linkStartEdge accepted =>
    refine done ?_
    split
    · split <;> exact still.setLink _
    · exact still
  | lrxdAtMark => exact done (by split; exacts [still.setLink _, still])
  | telegram l | sweep l | transmissionComplete l | echoConflict l _ _ | noReply l | replyCharacter l _ | reply l _
  | truncated l | guardRunsOut l | passBegins l | sweepReplyWindow l | sweepAnswerCharacter l _ | sweepGap l
  | strayCharacter l _ | chatterIntervalEnds l | breakEnds l | lineWatchdog l | startEdge l _ => exact atLine l rfl

/-- Every step is a leap and acts. -/
theorem step_stepsTo {s t : State} (next : step s = .next t) : s.StepsTo t := by
  cases waiting : s.pending with
  | nil =>
    rw [step, waiting] at next
    cases next
    have phases (k : LaneNo) : (s.countTick.lane k).phase = (s.lane k).phase := by rw [State.countTick_lane]; rfl
    refine ⟨s.countTick, .still phases ?_ ?_ ?_, (State.Acts.refl.takeEvents _ _).selectNew⟩ <;> rw [State.countTick_eq]
  | cons c rest =>
    rw [step, waiting] at next
    replace next : exec c { s with pending := rest } = .next t := next
    obtain ⟨t', ends, u, leap, acts⟩ := exec_stepsTo c { s with pending := rest }
    rw [ends] at next
    cases next
    refine ⟨u, ?_, acts⟩
    clear acts ends
    induction leap with
    | still phases tables inbound outbound => exact .still phases tables inbound outbound
    | hardwareReset => exact .hardwareReset
    | softReset tables => exact .softReset tables
    | loadUnit _ fits received ih => exact ih.loadUnit fits received
    | loadPartition _ length checked free ih => exact ih.loadPartition length checked free

end Sys2Proof.Machine
end

section
/-! SUPPORT. Staged records applied when their moment comes, and what a leap and acts keep: the queues' capacities. -/

namespace Sys2Proof.Machine

/-! ### Staged records whose moment has come (R27) -/

/-- The entry of a slot once its staged record is applied, if its moment has come (R27). -/
def State.settledEntry (s : State) (n : SlotNo) : SlotEntry :=
  match s.staged n with
  | none => s.tables.units[n]
  | some r => if s.stagedDue n r then ⟨r, none⟩ else s.tables.units[n]

/-- Applying a slot's staged record touches its entry and its runtime record, and neither where none is staged. -/
theorem State.applyStaged_eq (s : State) (n : SlotNo) :
    ∃ units : Vector UnitRun 16,
      s.applyStaged n =
        { s with
          units := units
          tables := { s.tables with units := s.tables.units.set n (s.settledEntry n) } } ∧
      ∀ m : SlotNo, s.staged m = none → units[m] = s.unit m := by
  have same (h : s.settledEntry n = s.tables.units[n]) :
      ∃ units : Vector UnitRun 16,
        s = { s with
            units := units
            tables := { s.tables with units := s.tables.units.set n (s.settledEntry n) } } ∧
        ∀ m : SlotNo, s.staged m = none → units[m] = s.unit m := ⟨s.units, by rw [h]; simp, fun _ _ => rfl⟩
  unfold State.applyStaged
  split
  · next none => exact same (by simp [State.settledEntry, none])
  · next r staged =>
    split
    · next due =>
      have entry : s.settledEntry n = ⟨r, none⟩ := by simp [State.settledEntry, staged, due]
      refine ⟨_, by rw [entry]; rfl, fun m none => ?_⟩
      have other : m ≠ n := fun h => by simp [h, staged] at none
      exact s.unit_setUnit_other _ other
    · next early => exact same (by simp [State.settledEntry, staged, early])

/-- Whether a staged record's moment has come depends on the slot's current record and on which lanes are CLOSED (R27). -/
theorem State.stagedDue_congr {s t : State} {n : SlotNo} (r : UnitRecord) (record : t.record n = s.record n)
    (closed : ∀ k, t.laneClosed k = s.laneClosed k) : t.stagedDue n r = s.stagedDue n r := by
  simp only [State.stagedDue, State.currentLane, record, closed]

/-- Whose moment has come does not depend on the other slots' records. -/
theorem State.settledEntry_applyStaged (s : State) (m n : SlotNo) :
    (s.applyStaged n).settledEntry m = s.settledEntry m := by
  obtain ⟨units, e, _⟩ := s.applyStaged_eq n
  by_cases same : m = n
  · subst same
    have entry : (s.applyStaged m).tables.units[m] = s.settledEntry m := by rw [e]; simp
    cases staged : s.staged m with
    | none =>
      have unchanged : s.applyStaged m = s := by simp [State.applyStaged, staged]
      rw [unchanged]
    | some r =>
      by_cases due : s.stagedDue m r = true
      · have applied : s.settledEntry m = ⟨r, none⟩ := by simp [State.settledEntry, staged, due]
        have none : (s.applyStaged m).staged m = none := by rw [State.staged, entry, applied]
        rw [State.settledEntry, none, ← entry]
      · have unchanged : s.applyStaged m = s := by simp [State.applyStaged, staged, due]
        rw [unchanged]
  · have entry : (s.applyStaged n).tables.units[m] = s.tables.units[m] := by
      rw [e]
      simp [Vector.getElem_set_ne, Fin.val_ne_of_ne (Ne.symm same)]
    have lane (k : LaneNo) : (s.applyStaged n).lane k = s.lane k := by rw [e]; rfl
    have staged : (s.applyStaged n).staged m = s.staged m := by rw [State.staged, entry]; rfl
    have record : (s.applyStaged n).record m = s.record m := by rw [State.record, entry]; rfl
    have due (r : UnitRecord) := State.stagedDue_congr r record fun k => by rw [State.laneClosed, lane]; rfl
    unfold State.settledEntry
    rw [staged, entry]
    cases s.staged m with
    | none => rfl
    | some r => simp only [due]

/-- Applying the staged records of a list of slots settles their entries. -/
theorem State.foldl_applyStaged (ns : List SlotNo) (s : State) :
    ∃ units : Vector UnitRun 16,
      ns.foldl State.applyStaged s =
        { s with
          units := units
          tables := { s.tables with
            units := Vector.ofFn fun n => if n ∈ ns then s.settledEntry n else s.tables.units[n] } } ∧
      ∀ m : SlotNo, s.staged m = none → units[m] = s.unit m := by
  induction ns generalizing s with
  | nil => exact ⟨s.units, by simp, fun _ _ => rfl⟩
  | cons n rest ih =>
    obtain ⟨units, first, keeps⟩ := s.applyStaged_eq n
    obtain ⟨units', later, keeps'⟩ := ih (s.applyStaged n)
    have entry (m : SlotNo) :
        (s.applyStaged n).tables.units[m] = if m = n then s.settledEntry n else s.tables.units[m] := by
      rw [first]
      by_cases same : m = n
      · simp [same]
      · simp [same, Vector.getElem_set_ne, Fin.val_ne_of_ne (Ne.symm same)]
    have slots :
        (Vector.ofFn fun m =>
          if m ∈ rest then (s.applyStaged n).settledEntry m else (s.applyStaged n).tables.units[m]) =
        Vector.ofFn fun m => if m ∈ n :: rest then s.settledEntry m else s.tables.units[m] := by
      congr 1
      funext m
      rw [State.settledEntry_applyStaged, entry]
      by_cases same : m = n <;> by_cases more : m ∈ rest <;> simp [same, more]
    refine ⟨units', by rw [List.foldl_cons, later, slots, first], fun m none => ?_⟩
    have still : (s.applyStaged n).staged m = Option.none := by
      rw [State.staged, entry]
      by_cases same : m = n
      · subst same
        have unsettled : s.settledEntry m = s.tables.units[m] := by simp [State.settledEntry, none]
        rw [if_pos rfl, unsettled]
        exact none
      · rw [if_neg same]
        exact none
    have unit : (s.applyStaged n).unit m = s.unit m := by rw [first]; exact keeps m none
    rw [keeps' m still, unit]

/-- Every slot's entry is settled, and a slot for which nothing is staged keeps its runtime record (R27). -/
theorem State.applyAllStaged_eq (s : State) :
    ∃ units : Vector UnitRun 16,
      s.applyAllStaged =
        { s with
          units := units
          tables := { s.tables with units := Vector.ofFn s.settledEntry } } ∧
      ∀ m : SlotNo, s.staged m = none → units[m] = s.unit m := by
  obtain ⟨units, e, keeps⟩ := State.foldl_applyStaged allSlots s
  exact ⟨units, by rw [State.applyAllStaged, e]; simp [allSlots], keeps⟩

/-! ### Queues within capacity (R34, R120, R123) -/

theorem State.queuesOk_congr {s t : State} (ok : s.QueuesOk) (inbound : t.inbound = s.inbound := by rfl)
    (outbound : t.outbound = s.outbound := by rfl)
    (partition : t.tables.partition = s.tables.partition := by rfl) : t.QueuesOk := by
  simpa only [State.QueuesOk, State.inOccupancy, State.inCapacity, State.inQueue, State.outOccupancy, State.outCapacity,
    State.outQueue, inbound, outbound, partition] using ok

/-- A lane's inbound queue that holds no more than before, and no other change, keeps the queues within capacity. -/
theorem State.setInQueue_queuesOk {s : State} (ok : s.QueuesOk) {k : LaneNo} {q : List (List Byte)}
    (within : (q.map List.length).sum ≤ s.inCapacity k) : (s.setInQueue k q).QueuesOk := by
  obtain ⟨queues, partition⟩ := ok
  refine ⟨fun j => ⟨?_, (queues j).2⟩, partition⟩
  by_cases same : j = k
  · subst same
    show (((s.setInQueue j q).inQueue j).map List.length).sum ≤ s.inCapacity j
    rw [State.inQueue_setInQueue_same]
    exact within
  · show (((s.setInQueue k q).inQueue j).map List.length).sum ≤ s.inCapacity j
    rw [State.inQueue_setInQueue_other _ _ same]
    exact (queues j).1

/-- The same for an outbound queue. -/
theorem State.setOutQueue_queuesOk {s : State} (ok : s.QueuesOk) {k : LaneNo} {q : List OutRecord}
    (within : (q.map fun r => r.bytes.length).sum ≤ s.outCapacity k) : (s.setOutQueue k q).QueuesOk := by
  obtain ⟨queues, partition⟩ := ok
  refine ⟨fun j => ⟨(queues j).1, ?_⟩, partition⟩
  by_cases same : j = k
  · subst same
    show (((s.setOutQueue j q).outQueue j).map fun r => r.bytes.length).sum ≤ s.outCapacity j
    rw [State.outQueue_setOutQueue_same]
    exact within
  · show (((s.setOutQueue k q).outQueue j).map fun r => r.bytes.length).sum ≤ s.outCapacity j
    rw [State.outQueue_setOutQueue_other _ _ same]
    exact (queues j).2

theorem State.storeIn_queuesOk {s : State} (ok : s.QueuesOk) {k : LaneNo} {r : List Byte}
    (fits : s.inFits k r.length = true) : (s.storeIn k r).QueuesOk := by
  refine State.setInQueue_queuesOk ok ?_
  have within := s.storeIn_within k r (ok.1 k).1 fits
  rwa [State.inOccupancy, State.inQueue_storeIn_same] at within

theorem State.storeOut_queuesOk {s : State} (ok : s.QueuesOk) {k : LaneNo} {r : List Byte}
    (fits : s.outFits k r.length = true) : (s.storeOut k r).QueuesOk := by
  refine State.queuesOk_congr (s := s.setOutQueue k (s.outQueue k ++ [⟨s.serial, r⟩]))
    (State.setOutQueue_queuesOk ok ?_)
  have room : r.length ≤ s.outCapacity k - s.outOccupancy k := by simpa [State.outFits] using fits
  have held : s.outOccupancy k ≤ s.outCapacity k := (ok.1 k).2
  have occupied : ((s.outQueue k).map fun r => r.bytes.length).sum = s.outOccupancy k := rfl
  simp only [List.map_append, List.map_cons, List.map_nil, List.sum_append, List.sum_cons, List.sum_nil, occupied]
  omega

/-- A selected inbound queue gives up its head; no other source touches a queue (R13). -/
theorem State.select_queuesOk {s : State} (ok : s.QueuesOk) (src : Source) : (s.select src).QueuesOk := by
  cases src with
  | reply => exact State.queuesOk_congr ok
  | notices => exact State.queuesOk_congr ok
  | alerts k => exact State.queuesOk_congr ok
  | events k =>
    refine State.queuesOk_congr (s := s.setInQueue k (s.inQueue k).tail) (State.setInQueue_queuesOk ok ?_)
    exact (((List.tail_sublist _).map _).sum_le_sum (by simp)).trans (ok.1 k).1

theorem State.Acts.queuesOk {rc : Reach} {s t : State} (h : s.Acts rc t) (ok : s.QueuesOk) : t.QueuesOk := by
  induction h with
  | refl => exact ok
  | setLane | setUnits | setEngine | setLine | setNotices | clearPenalty | choose => assumption
  | close _ _ _ ih =>
    obtain ⟨units, e, _⟩ := State.applyAllStaged_eq _
    rw [e]
    exact State.queuesOk_congr ih
  | storeIn _ _ fits ih => exact State.storeIn_queuesOk ih fits
  | storeOut _ _ fits ih => exact State.storeOut_queuesOk ih fits
  | emptyIn _ _ ih => exact State.setInQueue_queuesOk ih (Nat.zero_le _)
  | dropOut _ _ less ih => exact State.setOutQueue_queuesOk ih (((less.map _).sum_le_sum (by simp)).trans (ih.1 _).2)
  | setPort _ _ link reply pending tables _ partition ih => exact State.queuesOk_congr ih rfl rfl partition
  | select _ _ src ih => exact State.select_queuesOk ih src

/-! ### A loaded partition (R34) -/

/-- No size below 2 among the bytes checked. -/
theorem smallSize_eq_none {position : Nat} {fields : List Byte} (h : smallSize position fields = none) :
    ∀ b ∈ fields, 2 ≤ b.toNat := by
  induction fields generalizing position with
  | nil => simp
  | cons b rest ih =>
    rw [smallSize] at h
    split at h
    · cases h
    · next large =>
      intro c mem
      rcases List.mem_cons.mp mem with rfl | later
      · omega
      · exact ih h c later

/-- Sixteen sizes that pass the value checks are at least 2 each and have a sum within Queue Memory (R34). -/
theorem partitionFields_sizes {fields : List Byte} {sizes : Vector Nat 16} (length : fields.length = 16)
    (checked : partitionFields fields = .inr sizes) :
    (∀ q : Fin 16, 2 ≤ sizes[q]) ∧ sizes.toList.sum ≤ Config.granules := by
  unfold partitionFields at checked
  split at checked
  · cases checked
  · next large =>
    split at checked
    · cases checked
    · next sum =>
      injection checked with checked
      have list : sizes.toList = fields.map BitVec.toNat := by
        rw [← checked]
        refine List.ext_getElem (by simp [length]) fun i _ bound => ?_
        simp only [List.length_map] at bound
        simp [bound]
      refine ⟨fun q => ?_, by rw [list]; omega⟩
      have inside : q.val < fields.length := by omega
      have size : sizes[q] = fields[q.val].toNat := by
        rw [← checked]
        simp [inside]
      rw [size]
      exact smallSize_eq_none large _ (List.getElem_mem inside)

/-- A queue whose size changes is empty (R34). -/
theorem State.setPartition_queuesOk {s : State} (ok : s.QueuesOk) {sizes : Vector Nat 16}
    (large : ∀ q : Fin 16, 2 ≤ sizes[q]) (sum : sizes.toList.sum ≤ Config.granules)
    (free : ∀ k, s.partitionBusy sizes k = false) : (s.setTables { s.tables with partition := sizes }).QueuesOk := by
  refine ⟨fun k => ?_, large, sum⟩
  have kept := free k
  simp only [State.partitionBusy, Bool.or_eq_false_iff, Bool.and_eq_false_iff, bne_eq_false_iff_eq,
    Bool.not_eq_false', List.isEmpty_iff] at kept
  obtain ⟨inKept, outKept⟩ := kept
  constructor
  · show ((s.inQueue k).map List.length).sum ≤ sizes[inPlace k] * Config.granuleBytes
    rcases inKept with same | ⟨_, empty⟩
    · rw [same]
      exact (ok.1 k).1
    · simp [empty]
  · show ((s.outQueue k).map fun r => r.bytes.length).sum ≤ sizes[outPlace k] * Config.granuleBytes
    rcases outKept with same | ⟨_, empty⟩
    · rw [same]
      exact (ok.1 k).2
    · simp [empty]

/-- An accepted unit record touches the unit table, the slot's runtime record and the reply slot only. -/
theorem State.acceptUnit_eq (s : State) (n : SlotNo) (r : UnitRecord) (received : List Byte) :
    ∃ units entry reply,
      s.acceptUnit n r received =
        { s with
          units := units
          tables := { s.tables with units := s.tables.units.set n entry }
          reply := reply } ∧
      (entry = ⟨r, none⟩ ∨ (entry = ⟨s.record n, some r⟩ ∧ ∃ k, s.currentLane n = some k ∧ s.laneClosed k = false)) := by
  unfold State.acceptUnit
  split
  · exact ⟨_, _, _, rfl, .inl rfl⟩
  · next k current =>
    split
    · exact ⟨_, _, _, rfl, .inl rfl⟩
    · next busy => exact ⟨_, _, _, rfl, .inr ⟨rfl, k, current, by simpa using busy⟩⟩

theorem State.Leaps.queuesOk {s u : State} (h : s.Leaps u) (ok : s.QueuesOk) : u.QueuesOk := by
  induction h with
  | still phases tables inbound outbound => exact State.queuesOk_congr ok inbound outbound (by rw [tables])
  | hardwareReset => exact State.queuesOk_congr State.reset_queuesOk
  | softReset tables =>
    rw [State.softReset_eq]
    refine ⟨fun k => ?_, by simpa [tables] using ok.2⟩
    simp [State.inOccupancy, State.outOccupancy, State.inQueue, State.outQueue]
  | loadUnit _ fits received ih =>
    obtain ⟨units, entry, reply, e, _⟩ := State.acceptUnit_eq _ _ _ received
    rw [e]
    exact State.queuesOk_congr ih
  | loadPartition _ length checked free ih =>
    obtain ⟨large, sum⟩ := partitionFields_sizes length checked
    exact State.setPartition_queuesOk ih large sum free

end Sys2Proof.Machine

namespace Sys2Proof.Proofs

open Sys2Proof.Machine

/-- Settles O5: every step is a leap and acts; acts store records only where they fit, and a partition is loaded only where
the queues whose sizes change are empty. -/
theorem queuesStayWithinCapacity : Obligations.QueuesStayWithinCapacity := by
  intro s t ok next
  obtain ⟨u, leap, acts⟩ := step_stepsTo next
  exact acts.queuesOk (leap.queuesOk ok)

end Sys2Proof.Proofs
end

section
/-! SUPPORT. What a leap and acts keep: the constraints of the unit table. -/

namespace Sys2Proof.Machine

/-! ### Constraints among unit records (R26) -/

theorem sameAddress_comm (a b : UnitRecord) : sameAddress a b = sameAddress b a := by
  rw [Bool.eq_iff_iff]
  simp only [sameAddress, Bool.and_eq_true, beq_iff_eq]
  tauto

theorem sameRole_comm (a b : UnitRecord) : sameRole a b = sameRole b a := by
  rw [Bool.eq_iff_iff]
  simp only [sameRole, Bool.and_eq_true, Bool.or_eq_true, beq_iff_eq]
  tauto

theorem State.effective_mem_bothRecords (s : State) (n : SlotNo) : s.effective n ∈ s.bothRecords n := by
  unfold State.effective State.bothRecords
  cases s.staged n <;> simp

theorem State.pairOk_comm {s : State} {m n : SlotNo} (h : s.PairOk m n) : s.PairOk n m := by
  obtain ⟨addresses, roles⟩ := h
  exact ⟨by rw [sameAddress_comm, addresses], fun a ha b hb => by rw [sameRole_comm, roles b hb a ha]⟩

/-- The constraints of R26 on the unit table: between any two slots, and on each line. -/
structure State.RecordsOk (s : State) : Prop where
  pairs : ∀ m n : SlotNo, m ≠ n → s.PairOk m n
  lines : ∀ l, (s.lineSlots l).length ≤ 8

/-- No staged record waits whose moment has come (R27). -/
def State.StagedWait (s : State) : Prop :=
  ∀ n : SlotNo, ∀ r, s.staged n = some r → (s.currentLane n).isSome = true ∧ s.stagedDue n r = false

theorem State.tableOk_iff (s : State) : s.TableOk ↔ s.RecordsOk ∧ s.StagedWait := by
  constructor
  · rintro ⟨pairs, lineA, lineB, waits⟩
    exact ⟨⟨pairs, fun l => by cases l <;> assumption⟩, fun n r staged => waits n r (by simp [staged])⟩
  · rintro ⟨⟨pairs, lines⟩, waits⟩
    exact ⟨pairs, lines .a, lines .b, fun n r staged => waits n r (by simpa using staged)⟩

/-- Where every slot keeps its effective record and has no further record, the constraints stay met. -/
theorem State.RecordsOk.of_fewer {s t : State} (ok : s.RecordsOk) (effective : ∀ n, t.effective n = s.effective n)
    (fewer : ∀ n, t.bothRecords n ⊆ s.bothRecords n) : t.RecordsOk where
  pairs m n other := by
    obtain ⟨addresses, roles⟩ := ok.pairs m n other
    exact ⟨by rw [effective, effective, addresses], fun a ha b hb => roles a (fewer m ha) b (fewer n hb)⟩
  lines l := by
    have same : t.lineSlots l = s.lineSlots l := by simp only [State.lineSlots, effective]
    rw [same]
    exact ok.lines l

theorem State.RecordsOk.congr {s t : State} (ok : s.RecordsOk) (units : t.tables.units = s.tables.units) :
    t.RecordsOk := by
  refine ok.of_fewer (fun n => ?_) fun n => ?_
  · simp only [State.effective, State.staged, State.record, units]
  · simp only [State.bothRecords, State.staged, State.record, units]
    exact List.Subset.refl _

/-- A lane that is no longer CLOSED makes no staged record's moment come. -/
theorem State.StagedWait.congr {s t : State} (ok : s.StagedWait) (units : t.tables.units = s.tables.units)
    (closed : ∀ k, (t.lane k).phase = .closed → (s.lane k).phase = .closed) : t.StagedWait := by
  intro n r staged
  have record : t.record n = s.record n := by simp only [State.record, units]
  have same : t.currentLane n = s.currentLane n := by simp only [State.currentLane, record]
  obtain ⟨current, early⟩ := ok n r (by rw [← staged]; simp only [State.staged, units])
  refine ⟨by rw [same, current], ?_⟩
  have closed (k : LaneNo) (h : s.laneClosed k = false) : t.laneClosed k = false := by
    by_contra unclosed
    simp only [State.laneClosed, beq_eq_false_iff_ne, not_not] at h unclosed
    exact h (closed k unclosed)
  unfold State.stagedDue at early ⊢
  rw [same]
  cases lane : s.currentLane n with
  | none => rfl
  | some k =>
    rw [lane] at early
    simp only [Bool.and_eq_false_iff, Bool.or_eq_false_iff] at early ⊢
    rcases early with busy | ⟨other, busy⟩
    · exact .inl (closed k busy)
    · exact .inr ⟨other, closed _ busy⟩

theorem State.tableOk_congr {s t : State} (ok : s.TableOk) (units : t.tables.units = s.tables.units := by rfl)
    (closed : ∀ k, (t.lane k).phase = .closed → (s.lane k).phase = .closed := by exact fun _ => id) : t.TableOk := by
  rw [State.tableOk_iff] at ok ⊢
  exact ⟨ok.1.congr units, ok.2.congr units closed⟩

/-! ### Staged records applied (R27, R41) -/

/-- An entry stays as it is while its staged record waits, and takes the staged record when its moment has come. -/
theorem State.settledEntry_cases (s : State) (n : SlotNo) :
    (s.settledEntry n = s.tables.units[n] ∧ ∀ r, s.staged n = some r → s.stagedDue n r = false) ∨
      ∃ r, s.staged n = some r ∧ s.stagedDue n r = true ∧ s.settledEntry n = ⟨r, none⟩ := by
  unfold State.settledEntry
  cases staged : s.staged n with
  | none => exact .inl ⟨rfl, nofun⟩
  | some r =>
    cases due : s.stagedDue n r with
    | false => exact .inl ⟨by simp [due], fun _ same => by cases same; exact due⟩
    | true => exact .inr ⟨r, rfl, due, by simp [due]⟩

/-- Applying every staged record whose moment has come changes no effective record, adds none, and leaves none behind. -/
theorem State.applyAllStaged_tableOk {s : State} (ok : s.RecordsOk)
    (current : ∀ n r, s.staged n = some r → (s.currentLane n).isSome = true) : s.applyAllStaged.TableOk := by
  obtain ⟨units, e, _⟩ := s.applyAllStaged_eq
  have entry (n : SlotNo) : s.applyAllStaged.tables.units[n] = s.settledEntry n := by rw [e]; simp
  have staged (n : SlotNo) : s.applyAllStaged.staged n = (s.settledEntry n).staged := by rw [State.staged, entry]
  have record (n : SlotNo) : s.applyAllStaged.record n = (s.settledEntry n).current := by rw [State.record, entry]
  have lane (k : LaneNo) : s.applyAllStaged.lane k = s.lane k := by rw [e]; rfl
  refine (State.tableOk_iff _).mpr ⟨ok.of_fewer (fun n => ?_) fun n => ?_, fun n r waits => ?_⟩
  · simp only [State.effective, staged, record]
    rcases s.settledEntry_cases n with ⟨same, _⟩ | ⟨r, held, _, applied⟩
    · rw [same]
      rfl
    · simp [applied, held]
  · simp only [State.bothRecords, staged, record]
    rcases s.settledEntry_cases n with ⟨same, _⟩ | ⟨r, held, _, applied⟩
    · rw [same]
      exact List.Subset.refl _
    · simp [applied, held]
  · rcases s.settledEntry_cases n with ⟨same, early⟩ | ⟨r, _, _, applied⟩
    · have held : s.staged n = some r := by rw [← waits, staged, same]; rfl
      have kept : s.applyAllStaged.record n = s.record n := by rw [record, same]; rfl
      have due := State.stagedDue_congr (s := s) (t := s.applyAllStaged) r kept fun k => by
        rw [State.laneClosed, lane]
        rfl
      exact ⟨by rw [State.currentLane, kept]; exact current n r held, by rw [due]; exact early r held⟩
    · rw [staged, applied] at waits
      cases waits

theorem State.Acts.tableOk {rc : Reach} {s t : State} (h : s.Acts rc t) (ok : s.TableOk) : t.TableOk := by
  induction h with
  | refl => exact ok
  | setUnits | setEngine | setLine | setNotices | clearPenalty | choose | storeIn | storeOut | emptyIn | dropOut =>
    assumption
  | @setLane t _ k hk r phase _ ih =>
    refine State.tableOk_congr ih rfl fun j closed => ?_
    rw [State.lane_setLane] at closed
    split at closed
    · next same => exact same ▸ phase closed
    · exact closed
  | @close t _ k _ r _ ih =>
    obtain ⟨records, waits⟩ := (State.tableOk_iff t).mp ih
    exact State.applyAllStaged_tableOk (s := t.setLane k r) (records.congr rfl) fun n r staged => (waits n r staged).1
  | setPort _ _ link reply pending tables units _ ih => exact State.tableOk_congr ih units
  | @select t _ _ src ih =>
    refine State.tableOk_congr ih (by rw [(t.select_frame src).1]) fun j closed => ?_
    cases src with
    | alerts k =>
      change ((t.setLane k { t.lane k with alerts := noAlerts }).lane j).phase = .closed at closed
      rw [State.lane_setLane] at closed
      split at closed
      · next same => exact same ▸ closed
      · exact closed
    | reply | notices | events k => exact closed

/-! ### A loaded unit record (R26, R27) -/

theorem State.clashes_iff (s : State) (n : SlotNo) (r : UnitRecord) (m : SlotNo) :
    s.clashes n r m = true ↔
      m ≠ n ∧ (sameAddress r (s.effective m) = true ∨ ∃ b ∈ s.bothRecords m, sameRole r b = true) := by
  simp [State.clashes]

theorem State.lineFull_iff (s : State) (n : SlotNo) (r : UnitRecord) :
    s.lineFull n r = true ↔ r.enabled = true ∧ 8 ≤ ((s.lineSlots r.line).filter (· ≠ n)).length := by
  have others : (s.lineSlots r.line).filter (· ≠ n) =
      allSlots.filter fun o => o != n && (s.effective o).enabled && (s.effective o).line == r.line := by
    rw [State.lineSlots, List.filter_filter]
    congr 1
    funext o
    rw [Bool.eq_iff_iff]
    simp [and_assoc]
  rw [others]
  simp [State.lineFull]

/-- A record meets the constraints exactly where it clashes with no other slot and leaves room on its line. -/
theorem State.conflict_eq_none_iff_clashes {s : State} {n : SlotNo} {r : UnitRecord} :
    s.conflict n r = none ↔ (∀ m, s.clashes n r m = false) ∧ s.lineFull n r = false := by
  have unclashed : s.firstClash n r = none ↔ ∀ m, s.clashes n r m = false := by
    simp [State.firstClash, allSlots]
  rw [← unclashed]
  unfold State.conflict
  split <;> simp [*]

/-- A record that clashes with no other slot and leaves room on its line meets the constraints beside every other slot. -/
theorem State.conflict_eq_none {s : State} {n : SlotNo} {r : UnitRecord} :
    s.conflict n r = none ↔
      (∀ m, m ≠ n → sameAddress r (s.effective m) = false ∧ ∀ b ∈ s.bothRecords m, sameRole r b = false) ∧
        (r.enabled = true → ((s.lineSlots r.line).filter (· ≠ n)).length < 8) := by
  rw [State.conflict_eq_none_iff_clashes]
  refine and_congr (forall_congr' fun m => ?_) ?_
  · rw [← Bool.not_eq_true, State.clashes_iff]
    simp
  · rw [← Bool.not_eq_true, State.lineFull_iff]
    simp

/-- Replacing a slot's entry by one whose effective record meets the constraints beside every other slot keeps them. -/
theorem State.setEntry_recordsOk {s : State} (ok : s.RecordsOk) {n : SlotNo} {r : UnitRecord} {x : SlotEntry}
    (effective : x.staged.getD x.current = r) (records : ∀ a ∈ x.current :: x.staged.toList, a = r ∨ a ∈ s.bothRecords n)
    (alone : ∀ m, m ≠ n → sameAddress r (s.effective m) = false ∧ ∀ b ∈ s.bothRecords m, sameRole r b = false)
    (room : r.enabled = true → ((s.lineSlots r.line).filter (· ≠ n)).length < 8) : (s.setEntry n x).RecordsOk := by
  have own : (s.setEntry n x).effective n = r := by simp [State.effective, effective]
  have other {m : SlotNo} (h : m ≠ n) : (s.setEntry n x).effective m = s.effective m := by simp [State.effective, h]
  have ownRecords : (s.setEntry n x).bothRecords n = x.current :: x.staged.toList := by simp [State.bothRecords]
  have otherRecords {m : SlotNo} (h : m ≠ n) : (s.setEntry n x).bothRecords m = s.bothRecords m := by
    simp [State.bothRecords, h]
  have beside {m : SlotNo} (h : m ≠ n) : (s.setEntry n x).PairOk n m := by
    refine ⟨by rw [own, other h, (alone m h).1], fun a ha b hb => ?_⟩
    rw [ownRecords] at ha
    rw [otherRecords h] at hb
    rcases records a ha with rfl | before
    · exact (alone m h).2 b hb
    · exact (ok.pairs n m h.symm).2 a before b hb
  refine ⟨fun m o distinct => ?_, fun l => ?_⟩
  · by_cases first : m = n
    · subst first
      exact beside (Ne.symm distinct)
    · by_cases second : o = n
      · subst second
        exact State.pairOk_comm (beside distinct)
      · simpa only [State.PairOk, other first, other second, otherRecords first, otherRecords second] using
          ok.pairs m o distinct
  · have others : ((s.setEntry n x).lineSlots l).filter (· ≠ n) = (s.lineSlots l).filter (· ≠ n) := by
      rw [State.lineSlots, State.lineSlots, List.filter_filter, List.filter_filter]
      refine List.filter_congr fun m _ => ?_
      by_cases same : m = n
      · simp [same]
      · simp [other same]
    have nodup : ((s.setEntry n x).lineSlots l).Nodup := (List.nodup_finRange 16).filter _
    by_cases member : n ∈ (s.setEntry n x).lineSlots l
    · have onLine : r.enabled = true ∧ r.line = l := by
        simpa [State.lineSlots, own, allSlots] using member
      obtain ⟨enabled, rfl⟩ := onLine
      have short := room enabled
      have erased : ((s.setEntry n x).lineSlots r.line).erase n = (s.lineSlots r.line).filter (· ≠ n) := by
        rw [nodup.erase_eq_filter, ← others]
        exact List.filter_congr fun m _ => by by_cases same : m = n <;> simp [same]
      have count := List.length_erase_of_mem member
      rw [erased] at count
      omega
    · have all : ((s.setEntry n x).lineSlots l).filter (· ≠ n) = (s.setEntry n x).lineSlots l :=
        List.filter_eq_self.mpr fun m mem => by simpa using fun same : m = n => member (same ▸ mem)
      rw [← all, others]
      exact ((List.filter_sublist).length_le).trans (ok.lines l)

end Sys2Proof.Machine
end
section
/-! SUPPORT. What a leap keeps: the constraints of the unit table. -/

namespace Sys2Proof.Machine

/-- A record that passes the checks of R26 is applied or staged, and either way the table keeps its constraints. -/
theorem State.acceptUnit_tableOk {s : State} (ok : s.TableOk) {n : SlotNo} {r : UnitRecord}
    (free : s.conflict n r = none) (received : List Byte) : (s.acceptUnit n r received).TableOk := by
  obtain ⟨records, waits⟩ := (State.tableOk_iff s).mp ok
  obtain ⟨alone, room⟩ := State.conflict_eq_none.mp free
  obtain ⟨units, entry, reply, e, applied⟩ := s.acceptUnit_eq n r received
  rw [e]
  have current : s.record n ∈ s.bothRecords n := by simp [State.bothRecords]
  refine (State.tableOk_iff _).mpr ⟨State.RecordsOk.congr (s := s.setEntry n entry) ?_ rfl,
    State.StagedWait.congr (s := s.setEntry n entry) (fun m x staged => ?_) rfl fun _ => id⟩
  · refine State.setEntry_recordsOk records (r := r) ?_ (fun a ha => ?_) alone room
    · rcases applied with rfl | ⟨rfl, _⟩ <;> rfl
    · rcases applied with rfl | ⟨rfl, _⟩
      · exact .inl (by simpa using ha)
      · rcases (by simpa using ha : a = s.record n ∨ a = r) with rfl | same
        · exact .inr current
        · exact .inl same
  · by_cases same : m = n
    · subst same
      rw [State.staged_setEntry_same] at staged
      rcases applied with rfl | ⟨rfl, k, lane, busy⟩
      · cases staged
      · have kept : (s.setEntry m ⟨s.record m, some r⟩).currentLane m = some k := by
          rw [← lane, State.currentLane, State.currentLane, State.record_setEntry_same]
        have unclosed : (s.setEntry m ⟨s.record m, some r⟩).laneClosed k = false := busy
        exact ⟨by rw [kept]; rfl, by rw [State.stagedDue, kept]; simp [unclosed]⟩
    · rw [State.staged_setEntry_other _ _ same] at staged
      have record := s.record_setEntry_other entry same
      have due := State.stagedDue_congr (s := s) (t := s.setEntry n entry) x record fun _ => rfl
      rw [State.currentLane, record, due]
      exact waits m x staged

/-- A soft reset makes the effective records the current ones and leaves none staged (R41). -/
theorem State.softReset_tableOk {s : State} (ok : s.RecordsOk) : s.softReset.TableOk := by
  rw [State.softReset_eq, State.tableOk_iff]
  refine ⟨ok.of_fewer (fun n => by simp [State.effective, State.staged, State.record]) fun n => ?_, fun n r staged => ?_⟩
  · simpa [State.bothRecords, State.staged, State.record] using s.effective_mem_bothRecords n
  · simp [State.staged] at staged

theorem State.Leaps.tableOk {s u : State} (h : s.Leaps u) (ok : s.TableOk) : u.TableOk := by
  induction h with
  | still phases tables _ _ => exact State.tableOk_congr ok (by rw [tables]) fun k closed => by rwa [phases] at closed
  | hardwareReset => exact State.tableOk_congr State.reset_tableOk
  | softReset tables =>
    exact State.softReset_tableOk (((State.tableOk_iff s).mp ok).1.congr (by rw [tables]))
  | loadUnit _ fits received ih => exact State.acceptUnit_tableOk ih fits received
  | loadPartition _ _ _ _ ih => exact State.tableOk_congr ih

end Sys2Proof.Machine

namespace Sys2Proof.Proofs

open Sys2Proof.Machine

/-- Settles O8: every step is a leap and acts; a loaded record has passed the checks of R26, and a lane that becomes CLOSED
has every staged record applied whose moment has come. -/
theorem unitTableKeepsItsConstraints : Obligations.UnitTableKeepsItsConstraints := by
  intro s t ok next
  obtain ⟨u, leap, acts⟩ := step_stepsTo next
  exact acts.tableOk (leap.tableOk ok)

end Sys2Proof.Proofs
end

section
/-! SUPPORT. What acts within a reach leave alone while a frame is being sent. -/

namespace Sys2Proof.Machine

/-- `t` differs from `s` only within the reach: lanes and lines outside it, the notice set and the slots no lane within it
touches are as they were, and every unit record is the current or the staged one (R27). -/
structure State.Apart (rc : Reach) (s t : State) : Prop where
  lanes : ∀ j, ¬rc.lane j → t.lane j = s.lane j ∧ t.inQueue j = s.inQueue j ∧ t.outQueue j = s.outQueue j
  lines : ∀ l, ¬rc.line l → t.engine l = s.engine l ∧ t.tables.lines.get l = s.tables.lines.get l
  tables : t.tables = { s.tables with units := t.tables.units, lines := t.tables.lines }
  link : t.link = { s.link with penalty := t.link.penalty }
  penalty : ¬rc.penalty → t.link.penalty = s.link.penalty
  reply : t.reply = s.reply
  softPending : t.softPending = s.softPending
  notices : ¬rc.slots → t.notices = s.notices
  decisions : ¬rc.slots → ∀ k d, (t.lane k).decision = some d → (s.lane k).decision = some d
  records : ∀ n : SlotNo, t.tables.units[n] = s.tables.units[n] ∨ ∃ r, s.staged n = some r ∧ t.tables.units[n] = ⟨r, none⟩
  units : ∀ n, s.staged n = none → ¬s.MayTouch rc n → t.unit n = s.unit n

namespace State.Apart

variable {rc : Reach} {s t : State}

theorem refl : s.Apart rc s where
  lanes _ _ := ⟨rfl, rfl, rfl⟩
  lines _ _ := ⟨rfl, rfl⟩
  tables := rfl
  link := rfl
  penalty _ := rfl
  reply := rfl
  softPending := rfl
  notices _ := rfl
  decisions _ _ _ := id
  records _ := .inl rfl
  units _ _ _ := rfl

/-- A slot for which nothing is staged keeps its record. -/
theorem entry_of_none (h : s.Apart rc t) {n : SlotNo} (none : s.staged n = none) :
    t.tables.units[n] = s.tables.units[n] := by
  rcases h.records n with same | ⟨r, staged, _⟩
  · exact same
  · simp [none] at staged

/-- Nothing becomes touchable within the reach for which nothing is staged. -/
theorem mayTouch (h : s.Apart rc t) {n : SlotNo} (none : s.staged n = none) (may : t.MayTouch rc n) :
    s.MayTouch rc n := by
  by_cases all : rc.slots
  · exact .inl all
  · rcases may with any | ⟨k, hk, bound | ⟨d, held, slot⟩⟩
    · exact .inl any
    · refine .inr ⟨k, hk, .inl ?_⟩
      rw [← bound, State.bound, State.bound, State.record, State.record, h.entry_of_none none]
    · exact .inr ⟨k, hk, .inr ⟨d, h.decisions all k d held, slot⟩⟩

theorem setLane (h : s.Apart rc t) {k : LaneNo} (hk : rc.lane k) {r : LaneRecord}
    (decision : rc.slots ∨ ∀ d, r.decision = some d → (t.lane k).decision = some d) : s.Apart rc (t.setLane k r) :=
  { h with
    lanes := fun j out => by
      have other : j ≠ k := fun same => out (same ▸ hk)
      rw [State.lane_setLane_other _ _ other]
      exact h.lanes j out
    decisions := fun few j d held => by
      rw [State.lane_setLane] at held
      split at held
      · next same => exact h.decisions few j d (same ▸ decision.resolve_left few d held)
      · exact h.decisions few j d held }

/-- Staged records are applied to slots for which one is staged (R27). -/
theorem applyAllStaged (h : s.Apart rc t) : s.Apart rc t.applyAllStaged := by
  obtain ⟨units, e, keeps⟩ := t.applyAllStaged_eq
  have entry (n : SlotNo) : t.applyAllStaged.tables.units[n] = t.settledEntry n := by rw [e]; simp
  have unit (n : SlotNo) (none : t.staged n = none) : t.applyAllStaged.unit n = t.unit n := by rw [e]; exact keeps n none
  have records (n : SlotNo) : t.settledEntry n = s.tables.units[n] ∨
      ∃ r, s.staged n = some r ∧ t.settledEntry n = ⟨r, none⟩ := by
    rcases t.settledEntry_cases n with ⟨same, _⟩ | ⟨r, staged, _, applied⟩
    · rw [same]
      exact h.records n
    · rcases h.records n with same | ⟨x, held, same⟩
      · exact .inr ⟨r, by rw [← staged, State.staged, State.staged, same], applied⟩
      · rw [State.staged, same] at staged
        cases staged
  have slots (n : SlotNo) (none : s.staged n = none) (out : ¬s.MayTouch rc n) : t.applyAllStaged.unit n = s.unit n := by
    have none' : t.staged n = Option.none := by rw [State.staged, h.entry_of_none none]; exact none
    rw [unit n none', h.units n none out]
  rw [e] at entry slots ⊢
  exact
    { h with
      tables := by rw [h.tables]
      records := fun n => by rw [entry]; exact records n
      units := slots }

theorem setUnits (h : s.Apart rc t) {units : Vector UnitRun 16} {serial : Nat}
    (may : ∀ n : SlotNo, units[n] = t.unit n ∨ t.MayTouch rc n) :
    s.Apart rc { t with units := units, serial := serial } :=
  { h with
    units := fun n none out => (may n).elim (fun same => same.trans (h.units n none out))
      fun touched => absurd (h.mayTouch none touched) out }

theorem setEngine (h : s.Apart rc t) {l : Line} (hl : rc.line l) (e : Engine) : s.Apart rc (t.setEngine l e) :=
  { h with
    lines := fun m out => by
      have other : m ≠ l := fun same => out (same ▸ hl)
      rw [State.engine_setEngine_other _ _ other]
      exact h.lines m out }

theorem setLine (h : s.Apart rc t) {l : Line} (hl : rc.line l) (x : LineTable) :
    s.Apart rc { t with tables := { t.tables with lines := t.tables.lines.set l x } } :=
  { h with
    lines := fun m out => by
      have other : m ≠ l := fun same => out (same ▸ hl)
      exact ⟨(h.lines m out).1, (PerLine.get_set_other _ _ other).trans (h.lines m out).2⟩
    tables := by rw [h.tables] }

theorem setInQueue (h : s.Apart rc t) {k : LaneNo} (hk : rc.lane k) (q : List (List Byte)) :
    s.Apart rc (t.setInQueue k q) :=
  { h with
    lanes := fun j out => by
      have other : j ≠ k := fun same => out (same ▸ hk)
      rw [State.inQueue_setInQueue_other _ _ other]
      exact h.lanes j out }

theorem setOutQueue (h : s.Apart rc t) {k : LaneNo} (hk : rc.lane k) (q : List OutRecord) :
    s.Apart rc (t.setOutQueue k q) :=
  { h with
    lanes := fun j out => by
      have other : j ≠ k := fun same => out (same ▸ hk)
      rw [State.outQueue_setOutQueue_other _ _ other]
      exact h.lanes j out }

end State.Apart

/-- Acts within a reach that leaves the Link Port alone, while a frame is being sent. -/
theorem State.Acts.apart {rc : Reach} {s t : State} (closed : ¬rc.port) {f : Frame} (sending : s.link.tx = .sending f)
    (h : s.Acts rc t) : s.Apart rc t := by
  induction h with
  | refl => exact .refl
  | setLane _ hk _ decision ih => exact ih.setLane hk decision
  | close _ hk decision ih => exact (ih.setLane hk (.inr fun _ held => decision ▸ held)).applyAllStaged
  | setUnits _ _ _ may ih => exact ih.setUnits may
  | setEngine _ hl e ih => exact ih.setEngine hl e
  | setLine _ hl x ih => exact ih.setLine hl x
  | setNotices _ hs n ih => exact { ih with notices := fun few => absurd hs few }
  | storeIn _ hk _ ih => exact ih.setInQueue hk _
  | storeOut _ hk _ ih => exact { ih.setOutQueue hk _ with }
  | emptyIn _ hk ih => exact ih.setInQueue hk _
  | dropOut _ hk _ ih => exact ih.setOutQueue hk _
  | clearPenalty _ hp k ih =>
    exact { ih with link := by rw [State.clearPenalty, State.setLink_link, ih.link], penalty := fun not => absurd hp not }
  | setPort _ hp => exact absurd hp closed
  | select _ unsent _ ih => exact absurd (by rw [ih.link]; exact sending) (unsent f)
  | choose _ choices ih => exact { ih with }

/-! ### Lane frames and drop lines -/

/-- What a LANE_COMMANDS frame for a lane may touch. -/
def Reach.ofLane (k : LaneNo) : Reach := ⟨(· = k), fun _ => False, False, True, False⟩

/-- What a command at a drop line may touch. -/
def Reach.ofLine (l : Line) : Reach := ⟨fun _ => True, (· = l), True, False, False⟩

/-- A slot outside the reach of a lane's frame: not bound to the lane, and no decision of the lane is about its card. -/
theorem State.not_mayTouch_ofLane {s : State} {k : LaneNo} {n : SlotNo} (unbound : s.bound k n = false)
    (undecided : ∀ d, (s.lane k).decision = some d → d.slot ≠ n) : ¬s.MayTouch (.ofLane k) n := by
  rintro (any | ⟨_, rfl, bound | ⟨d, held, slot⟩⟩)
  · exact any
  · rw [unbound] at bound
    cases bound
  · exact undecided d held slot

theorem PerLine.ext_get {α : Type} {v w : PerLine α} (h : ∀ l, v.get l = w.get l) : v = w := by
  cases v
  cases w
  congr
  · exact h .a
  · exact h .b

end Sys2Proof.Machine

namespace Sys2Proof.Proofs

open Sys2Proof.Machine

/-- Settles O28: behind the four steps of R9 a frame's body is parsed by acts within its lane's reach. -/
theorem laneFramesTouchOneLane : Obligations.LaneFramesTouchOneLane := by
  intro s j k body f sending live other
  have framed : s.framed.link.tx = .sending f := by simp [State.framed, sending, Transmitter.gather]
  have ends : exec (.laneCommands k body) s =
      .next (s.framed.parseBody k body.length 1 false body).selectByRank := by
    rw [exec_laneCommands, State.goodFrame_live live]
  have acts : s.framed.Acts (.ofLane k) (s.framed.parseBody k body.length 1 false body) :=
    State.Acts.refl.parseBody rfl trivial _ _ _ _
  have apart := acts.apart id framed
  generalize s.framed.parseBody k body.length 1 false body = t at ends apart
  have unselected : t.selectByRank = t := State.selectByRank_sending (by rw [apart.link]; exact framed)
  rw [unselected] at ends
  obtain ⟨lane, inQueue, outQueue⟩ := apart.lanes j other
  have engines : t.engines = s.engines := PerLine.ext_get fun l => (apart.lines l id).1
  have lines : t.tables.lines = s.tables.lines := PerLine.ext_get fun l => (apart.lines l id).2
  have tables : t.tables = { s.tables with units := t.tables.units } := by
    rw [apart.tables, lines]
    rfl
  refine ⟨t, ends, lane, inQueue, outQueue, engines, tables, apart.notices id, apart.reply, apart.softPending, apart.link,
    fun n => ?_, fun n unbound none undecided => apart.units n none (State.not_mayTouch_ofLane unbound undecided)⟩
  rcases apart.records n with same | ⟨r, staged, same⟩
  · exact .inl (congrArg SlotEntry.current same)
  · exact .inr (by rw [State.record, same]; exact staged.symm)

/-- Settles O53: a command at a drop line is made of acts within that line's reach. -/
theorem linesAreApart : Obligations.LinesAreApart := by
  intro s c l other f ch chars index readBack accepted sending distinct named
  have atLine : c.atLine = some l := by
    simp only [List.mem_cons, List.not_mem_nil, or_false] at named
    rcases named with rfl | rfl | rfl | rfl | rfl | rfl | rfl | rfl | rfl | rfl | rfl | rfl | rfl | rfl | rfl | rfl | rfl |
      rfl <;> rfl
  obtain ⟨t, ends, acts⟩ := exec_atLine (rc := .ofLine l) ⟨fun _ => trivial, trivial⟩ rfl atLine s
  have apart := acts.apart id sending
  obtain ⟨engine, settings⟩ := apart.lines other (Ne.symm distinct)
  have link : t.link = s.link := by rw [apart.link, apart.penalty id]
  exact ⟨t, ends, engine, settings, apart.tables, link, apart.reply, apart.softPending⟩

end Sys2Proof.Proofs
end

section
/-! SUPPORT. Requests: how MGU checks and answers one, said once. -/

namespace Sys2Proof.Machine

/-! ### Checks and answers (R23, R185) -/

/-- A refusal of the latched request places its reply and does nothing else (R23). -/
theorem State.emptyLatch_refuse (s : State) (code : Byte) (reason : ReqReason) (detail : Byte) :
    s.emptyLatch.refuse code reason detail = s.replied [code, 3, reason.code, detail] := rfl

/-- A request of the right length that names a place there is goes on with its fields. -/
theorem State.indexed_byteOf (s : State) (code : Byte) {len bound : Nat} (small : bound ≤ 256) (i : Fin bound)
    {fields : List Byte} (length : fields.length + 1 = len) (execute : Fin bound → List Byte → State) :
    s.indexed code len bound (byteOf i.val :: fields) execute = execute i fields := by
  have value : (byteOf i.val).toNat = i.val := toNat_byteOf (by omega)
  simp [State.indexed, length, value]

/-- A request of the right length that names no place there is, is refused with BAD_INDEX. -/
theorem State.indexed_badIndex (s : State) (code : Byte) {len bound : Nat} {index : Byte} (high : bound ≤ index.toNat)
    {fields : List Byte} (length : fields.length + 1 = len) (execute : Fin bound → List Byte → State) :
    s.indexed code len bound (index :: fields) execute = s.refuse code .badIndex index := by
  have out : ¬index.toNat < bound := by omega
  simp [State.indexed, length, out]

/-- A request of another length is refused with BAD_LENGTH. -/
theorem State.indexed_badLength (s : State) (code : Byte) {len bound : Nat} {args : List Byte} (length : args.length ≠ len)
    (execute : Fin bound → List Byte → State) :
    s.indexed code len bound args execute = s.refuse code .badLength 0 := by
  unfold State.indexed
  split
  · rfl
  · rw [if_pos length]

/-! ### Searches -/

/-- The first place that meets a test. -/
theorem find?_finRange {n : Nat} {p : Fin n → Bool} {k : Fin n} (met : p k = true) (first : ∀ j < k, p j = false) :
    (List.finRange n).find? p = some k := by
  rw [List.find?_eq_some_iff_getElem]
  refine ⟨met, k.val, by simp, by simp, fun j lower => ?_⟩
  simpa using first ⟨j, by omega⟩ (by simpa [Fin.lt_def] using lower)

/-! ### READ_STATUS (R37) -/

/-- The eight phases and the sixteen presence states in order. -/
theorem State.statusBytes_eq (s : State) :
    s.statusBytes =
      List.ofFn (fun k => (s.lane k).phase.code) ++ List.ofFn fun n => (s.unit n).presence.code := by
  rw [State.statusBytes, allLanes, allSlots, List.ofFn_eq_map, List.ofFn_eq_map]

/-! ### Counters (R38, R39) -/

theorem counterBytes_eq (l : List Word16) : counterBytes l = l.flatMap fun w => [hiByte w, loByte w] := by
  induction l with
  | nil => rfl
  | cons w rest ih => rw [counterBytes, ih, List.flatMap_cons]; rfl

theorem Scope.ofByte_slot (n : SlotNo) : Scope.ofByte (byteOf (0x10 + n.val)) = some (.slot n) := by
  have value : (byteOf (0x10 + n.val)).toNat = 0x10 + n.val := toNat_byteOf (by omega)
  have not (b : Byte) (low : b.toNat < 0x10) : byteOf (0x10 + n.val) ≠ b := fun same => by
    rw [same] at value
    omega
  unfold Scope.ofByte
  rw [if_neg (not 0 (by decide)), if_neg (not 1 (by decide)), if_neg (not 2 (by decide)), dif_pos (by omega)]
  simp [value]

/-- A byte that names no scope (R38). -/
theorem Scope.ofByte_none {b : Byte} (line : 2 < b.toNat) (slot : b.toNat < 0x10 ∨ 0x20 ≤ b.toNat) (all : b ≠ 0xFF) :
    Scope.ofByte b = none := by
  have not (c : Byte) (low : c.toNat ≤ 2) : b ≠ c := fun same => by
    rw [same] at line
    omega
  unfold Scope.ofByte
  rw [if_neg (not 0 (by decide)), if_neg (not 1 (by decide)), if_neg (not 2 (by decide)), dif_neg (by omega),
    if_neg all]

/-- READ_COUNTERS of a scope (R38). -/
theorem readCounters_of {s : State} {b : Byte} (latched : s.Latched [0x0D, b]) {scope : Scope}
    (names : Scope.ofByte b = some scope) :
    exec .readCounters s =
      .next (State.selectNew (s.replied ([0x0D, 0] ++ (s.counters scope).flatMap fun w => [hiByte w, loByte w]))) := by
  show Host.Outcome.next (s.takeRequest 13 readCountersOn).selectNew = _
  rw [latched.takeRequest, ← counterBytes_eq, readCountersOn, State.scoped, names]
  cases scope <;> rfl

/-- CLEAR_COUNTERS of a scope (R39). -/
theorem clearCounters_of {s : State} {b : Byte} (latched : s.Latched [0x0E, b]) {scope : Scope}
    (names : Scope.ofByte b = some scope) :
    exec .clearCounters s = .next (State.selectNew ((s.emptyLatch.clearCounters scope).answer 14 .done [])) := by
  show Host.Outcome.next (s.takeRequest 14 clearCountersOn).selectNew = _
  rw [latched.takeRequest, clearCountersOn, State.scoped, names]

/-- A scope that is none is refused with BAD_INDEX. -/
theorem State.scoped_none (s : State) (code : Byte) {b : Byte} (names : Scope.ofByte b = none) (execute : Scope → State) :
    s.scoped code [b] execute = s.refuse code .badIndex b := by
  rw [State.scoped, names]

/-- Every slot's counters cleared, and nothing else. -/
theorem State.foldl_clearSlotCounters (s : State) :
    allSlots.foldl State.clearSlotCounters s = { s with units := s.units.map fun u => { u with counters := {} } } := by
  have folded := State.foldl_setUnit (fun u => { u with counters := {} }) (fun _ => rfl) allSlots s
  have units : (Vector.ofFn fun n => if n ∈ allSlots then { s.unit n with counters := {} } else s.unit n) =
      s.units.map fun u => { u with counters := {} } := by
    ext1 i hi
    simp [allSlots, State.unit]
  rw [units] at folded
  exact folded

end Sys2Proof.Machine

namespace Sys2Proof.Proofs

open Sys2Proof.Machine

/-- Settles O30. -/
theorem readStatusReportsOneMoment : Obligations.ReadStatusReportsOneMoment := by
  intro s args latched phase presence
  have phases : phase = fun k => (s.lane k).phase.code := by
    funext k
    simp only [phase]
    cases (s.lane k).phase <;> rfl
  have presences : presence = fun n => (s.unit n).presence.code := by
    funext n
    simp only [presence]
    cases (s.unit n).presence <;> rfl
  show Host.Outcome.next (s.takeRequest 12 readStatusOn).selectNew = _
  rw [latched.takeRequest, phases, presences, List.append_assoc, ← State.statusBytes_eq, readStatusOn]
  split <;> rfl

/-- Settles O31: each scope byte names its counters, and clearing sets just those to 0. -/
theorem countersAreReadAndCleared : Obligations.CountersAreReadAndCleared := by
  intro s scope n
  refine ⟨⟨fun latched => readCounters_of latched rfl, fun latched => readCounters_of latched rfl,
    fun latched => readCounters_of latched rfl, fun latched => readCounters_of latched (Scope.ofByte_slot n),
    fun latched => ?_, fun latched line slot all => ?_⟩, fun latched => clearCounters_of latched rfl,
    fun latched => clearCounters_of latched rfl, fun latched => clearCounters_of latched rfl,
    fun latched => clearCounters_of latched (Scope.ofByte_slot n), fun latched => ?_, fun latched line slot all => ?_⟩
  · rw [readCounters_of latched (scope := .all) rfl, List.ofFn_eq_map]
    rfl
  · show Host.Outcome.next (s.takeRequest 13 readCountersOn).selectNew = _
    rw [latched.takeRequest, readCountersOn, State.scoped_none _ _ (Scope.ofByte_none line slot all)]
    rfl
  · rw [clearCounters_of latched (scope := .all) rfl, State.clearCounters, State.foldl_clearSlotCounters]
    rfl
  · show Host.Outcome.next (s.takeRequest 14 clearCountersOn).selectNew = _
    rw [latched.takeRequest, clearCountersOn, State.scoped_none _ _ (Scope.ofByte_none line slot all)]
    rfl

end Sys2Proof.Proofs
end

section
/-! SUPPORT. LOAD_PARTITION, and the layouts read back. -/

namespace Sys2Proof.Machine

/-! ### LOAD_PARTITION (R34) -/

/-- The first size below 2 is named by its position. -/
theorem smallSize_eq_some {position i : Nat} {fields : List Byte} (inside : i < fields.length)
    (small : fields[i].toNat < 2) (before : ∀ j, (h : j < i) → 2 ≤ fields[j].toNat) :
    smallSize position fields = some (position + i) := by
  induction fields generalizing position i with
  | nil => simp at inside
  | cons b rest ih =>
    rw [smallSize]
    cases i with
    | zero =>
      rw [if_pos (by simpa using small)]
      rfl
    | succ i =>
      have first : 2 ≤ b.toNat := by simpa using before 0 (by omega)
      rw [if_neg (by omega), ih (by simpa using inside) (by simpa using small)
        fun j lower => by simpa using before (j + 1) (by omega)]
      congr 1
      omega

theorem smallSize_of_large {position : Nat} {fields : List Byte} (large : ∀ b ∈ fields, 2 ≤ b.toNat) :
    smallSize position fields = none := by
  induction fields generalizing position with
  | nil => rfl
  | cons b rest ih =>
    have first : 2 ≤ b.toNat := large b (by simp)
    rw [smallSize, if_neg (by omega)]
    exact ih fun c later => large c (by simp [later])

/-- Sixteen large sizes within Queue Memory pass the value checks. -/
theorem partitionFields_of_sizes {sizes : Vector Byte 16} (large : ∀ j : Fin 16, 2 ≤ sizes[j].toNat)
    (total : (sizes.toList.map BitVec.toNat).sum ≤ 128) :
    partitionFields sizes.toList = .inr (sizes.map BitVec.toNat) := by
  have each : ∀ b ∈ sizes.toList, 2 ≤ b.toNat := by
    intro b mem
    obtain ⟨i, inside, rfl⟩ := List.getElem_of_mem mem
    simpa using large ⟨i, by simpa using inside⟩
  have fields : (Vector.ofFn fun i : Fin 16 => (sizes.toList.getD i.val 0).toNat) = sizes.map BitVec.toNat := by
    ext1 i inside
    simp
  rw [partitionFields, smallSize_of_large each, if_neg (by simp only [Config.granules]; omega), fields]

/-- Is the partition refused for a lane: it is not CLOSED, or holds a record, where its size changes (R34)? -/
theorem State.partitionBusy_iff (s : State) (sizes : Vector Nat 16) (k : LaneNo) :
    s.partitionBusy sizes k = true ↔
      (sizes[inPlace k] ≠ s.tables.partition[inPlace k] ∧ ((s.lane k).phase ≠ .closed ∨ s.inQueue k ≠ [])) ∨
        (sizes[outPlace k] ≠ s.tables.partition[outPlace k] ∧ ((s.lane k).phase ≠ .closed ∨ s.outQueue k ≠ [])) := by
  simp [State.partitionBusy, State.laneClosed]

/-! ### Layouts (R25, R29, R31, R35, R36, section 11.6) -/

theorem rateM_byteOf (position : Nat) (m : Fin 15) : rateM position (byteOf m.val) = .inr m := by
  have value : (byteOf m.val).toNat = m.val := toNat_byteOf (by omega)
  simp [rateM, value]

theorem byteOf_ne_zero {n : Nat} (small : n < 256) (nonzero : n ≠ 0) : byteOf n ≠ 0 := fun zero => by
  rw [byteOf_eq_iff small] at zero
  exact nonzero zero

@[simp] theorem UnitKind.ofByte_code (kind : UnitKind) : UnitKind.ofByte kind.code = some kind := by cases kind <;> rfl

/-- A named code is accepted. -/
@[simp] theorem named_some {α : Type} (position : Nat) (x : α) : named position (some x) = .inr x := rfl

@[simp] theorem FieldCheck.andThen_inr {α β : Type} (x : α) (f : α → FieldCheck β) :
    FieldCheck.andThen (.inr x) f = f x := rfl

@[simp] theorem FieldCheck.andThen_inl {α β : Type} (position : Nat) (f : α → FieldCheck β) :
    FieldCheck.andThen (.inl position) f = .inl position := rfl

theorem addressField_byteOf (position : Nat) {address : Fin 32} (nonzero : address ≠ 0) :
    addressField position (byteOf address.val) = .inr address := by
  rw [addressField, if_neg (byteOf_ne_zero (by omega) fun zero => nonzero (Fin.ext zero)),
    below_byteOf position (by omega)]

theorem windowField_byteOf (position : Nat) {window : Fin 16} (nonzero : window ≠ 0) :
    windowField position (byteOf window.val) = .inr window := by
  rw [windowField, if_neg (byteOf_ne_zero (by omega) fun zero => nonzero (Fin.ext zero)),
    below_byteOf position (by omega)]

theorem UnitRecord.ofBytes_bytes (r : UnitRecord) (address : r.address ≠ 0) (window : r.window ≠ 0) :
    UnitRecord.ofBytes r.bytes = .inr r := by
  simp [UnitRecord.bytes, UnitRecord.ofBytes, below_byteOf, addressField_byteOf _ address, windowField_byteOf _ window,
    rateM_byteOf]

theorem timeoutField_byteOf {timeout : Fin 121} (nonzero : timeout ≠ 0) : timeoutField (byteOf timeout.val) = timeout := by
  have value : (byteOf timeout.val).toNat = timeout.val := toNat_byteOf (by omega)
  rw [timeoutField, dif_pos (by omega), if_neg (byteOf_ne_zero (by omega) fun zero => nonzero (Fin.ext zero))]
  exact Fin.ext value

theorem LaneSettings.ofBytes_bytes (r : LaneSettings) (timeout : r.timeout ≠ 0) :
    LaneSettings.ofBytes r.bytes = .inr r := by
  simp [LaneSettings.bytes, LaneSettings.ofBytes, below_byteOf, timeoutField_byteOf timeout]

theorem stuckField_byteOf {limit : Fin 251} (low : 10 ≤ limit.val) : stuckField (byteOf limit.val) = limit := by
  have value : (byteOf limit.val).toNat = limit.val := toNat_byteOf (by omega)
  rw [stuckField, dif_pos (by omega), if_neg (by omega)]
  exact Fin.ext value

theorem LineSettings.ofBytes_bytes (r : LineSettings) (limit : 10 ≤ r.stuckLimit.val) :
    LineSettings.ofBytes r.bytes = .inr r := by
  simp [LineSettings.bytes, LineSettings.ofBytes, below_byteOf, rateM_byteOf, stuckField_byteOf limit]

/-- A disclosure policy whose mask is printable, no digit and no '=' is read back (R31). -/
theorem Policy.ofBytes_bytes (r : Policy) (printable : isPrintable r.mask = true) (digit : isDigit r.mask = false)
    (equals : r.mask ≠ 0x3D) : Policy.ofBytes r.bytes = .inr r := by
  have first : (byteOf r.keepFirst.val).toNat = r.keepFirst.val := toNat_byteOf (by omega)
  have last : (byteOf r.keepLast.val).toNat = r.keepLast.val := toNat_byteOf (by omega)
  have plain : ¬(isDigit r.mask = true ∨ r.mask = 0x3D) := by
    rw [digit]
    exact fun refused => refused.elim nofun equals
  rw [Policy.bytes, Policy.ofBytes, if_neg plain]
  simp [printable, first, last]

theorem LogicalKey.ofByte_code (key : LogicalKey) : LogicalKey.ofByte key.code = key := by
  cases key with
  | digit d => revert d; decide
  | func f => revert f; decide
  | enter | clear | cancel | dot | none => rfl

end Sys2Proof.Machine

namespace Sys2Proof.Proofs

open Sys2Proof.Machine

/-- Settles O36. -/
theorem loadPartitionChecksItsSizes : Obligations.LoadPartitionChecksItsSizes := by
  intro s sizes place k latched total busy refused
  have length : sizes.toList.length = 16 := by simp
  have loads : exec .loadPartition s = .next (loadPartitionOn sizes.toList s.emptyLatch).selectNew := by
    show Host.Outcome.next (s.takeRequest 9 loadPartitionOn).selectNew = _
    rw [latched.takeRequest]
  have checked (small : (sizes.toList.map BitVec.toNat).sum ≤ 128) (large : ∀ j : Fin 16, 2 ≤ sizes[j].toNat) :
      loadPartitionOn sizes.toList s.emptyLatch =
        match allLanes.find? (s.partitionBusy (sizes.map BitVec.toNat)) with
        | some k => s.emptyLatch.refuse 9 .laneBusy (byteOf k.val)
        | none =>
          (s.emptyLatch.setTables { s.tables with partition := sizes.map BitVec.toNat }).answer 9 .done sizes.toList := by
    rw [loadPartitionOn, if_neg (by simp), partitionFields_of_sizes large small]
    rfl
  have busy_iff (j : LaneNo) : s.partitionBusy (sizes.map BitVec.toNat) j = true ↔ busy j := by
    simpa [busy] using s.partitionBusy_iff (sizes.map BitVec.toNat) j
  have free_iff (j : LaneNo) : s.partitionBusy (sizes.map BitVec.toNat) j = false ↔ ¬busy j := by
    rw [← busy_iff, Bool.not_eq_true]
  refine ⟨fun small before => ?_, fun large => ⟨fun beyond => ?_, fun within taken lower => ?_, fun within free => ?_⟩⟩
  · have first : smallSize 1 sizes.toList = some (1 + place.val) :=
      smallSize_eq_some (by simp) (by simpa using small) fun j lower => by
        simpa using before ⟨j, by omega⟩ lower
    rw [loads, loadPartitionOn, if_neg (by simp), partitionFields, first, Nat.add_comm]
    rfl
  · have each : ∀ b ∈ sizes.toList, 2 ≤ b.toNat := by
      intro b mem
      obtain ⟨i, inside, rfl⟩ := List.getElem_of_mem mem
      simpa using large ⟨i, by simpa using inside⟩
    have fields : partitionFields sizes.toList = .inl 0 := by
      rw [partitionFields, smallSize_of_large each]
      exact if_pos beyond
    rw [loads, loadPartitionOn, if_neg (by simp), fields]
    rfl
  · have first : allLanes.find? (s.partitionBusy (sizes.map BitVec.toNat)) = some k :=
      find?_finRange ((busy_iff k).mpr taken) fun j below => (free_iff j).mpr (lower j below)
    rw [loads, checked within large, first]
    rfl
  · have untaken : allLanes.find? (s.partitionBusy (sizes.map BitVec.toNat)) = none :=
      List.find?_eq_none.mpr fun j _ => by simpa using (free_iff j).mpr (free j)
    rw [loads, checked within large, untaken]
    rfl

/-- Settles O39. -/
theorem layoutsReadBack : Obligations.LayoutsReadBack := by
  refine ⟨UnitRecord.ofBytes_bytes, LaneSettings.ofBytes_bytes, LineSettings.ofBytes_bytes, LinkSettings.ofBytes_bytes,
    fun r low high digit equals => Policy.ofBytes_bytes r ?_ ?_ equals, LogicalKey.ofByte_code⟩
  · simpa [isPrintable] using ⟨low, high⟩
  · simpa [isDigit] using digit

end Sys2Proof.Proofs
end

section
/-! SUPPORT. What MGU does with any request it takes: it answers, and a refusal does nothing else (R22, R23). -/

namespace Sys2Proof.Machine

/-- `t` is `s` after MGU has taken the latched request with this code: refused, or answered, the Link Port left alone but
for the latch and the counters. -/
inductive State.Answered (s : State) (code : Byte) : State → Prop where
  | refused (reason : ReqReason) (detail : Byte) : s.Answered code (s.emptyLatch.refuse code reason detail)
  | answered (t : State) (status : Status) (data : List Byte) (reply : t.reply = some (code :: status.code :: data))
      (link : t.link = { s.link with latch := none, counters := t.link.counters }) : s.Answered code t

namespace State.Answered

variable {s : State} {code : Byte}

/-- A reply placed after work that leaves the Link Port alone. -/
theorem answer {t : State} (status : Status) (data : List Byte) (link : t.link = s.emptyLatch.link) :
    s.Answered code (t.answer code status data) :=
  .answered _ status data rfl (by
    show t.link = { s.link with latch := none, counters := t.link.counters }
    rw [link]
    rfl)

theorem indexed {len bound : Nat} {args : List Byte} {execute : Fin bound → List Byte → State}
    (each : ∀ i fields, s.Answered code (execute i fields)) :
    s.Answered code (s.emptyLatch.indexed code len bound args execute) := by
  unfold State.indexed
  split
  · exact .refused _ _
  · split
    · exact .refused _ _
    · split
      · exact each _ _
      · exact .refused _ _

theorem valued {α : Type} {check : FieldCheck α} {execute : α → State} (each : ∀ x, s.Answered code (execute x)) :
    s.Answered code (s.emptyLatch.valued code check execute) := by
  cases check with
  | inl position => exact .refused _ _
  | inr x => exact each x

theorem ofScope {args : List Byte} {execute : Scope → State} (each : ∀ scope, s.Answered code (execute scope)) :
    s.Answered code (s.emptyLatch.scoped code args execute) := by
  unfold State.scoped
  split
  · split
    · exact .refused _ _
    · exact each _
  · exact .refused _ _

/-- A request that does its work, or is refused because its arguments fail a check. -/
theorem checked {check : Prop} [Decidable check] {reason : ReqReason} {detail : Byte} {t : State}
    (accepted : s.Answered code t) :
    s.Answered code (if check then s.emptyLatch.refuse code reason detail else t) := by
  split
  · exact .refused _ _
  · exact accepted

/-- The transmitter is as it was. -/
theorem tx {t : State} (h : s.Answered code t) : t.link.tx = s.link.tx := by
  cases h with
  | refused => rfl
  | answered _ _ _ _ link => rw [link]

end State.Answered

/-! ### The fifteen requests -/

section

variable (s : State) (args : List Byte)

theorem loadUnitOn_answered : s.Answered 1 (loadUnitOn args s.emptyLatch) := by
  refine .indexed fun n fields => .valued fun r => .checked ?_
  split
  · exact .refused _ _
  · unfold State.acceptUnit
    split
    · exact .answer _ _ rfl
    · split <;> exact .answer _ _ rfl

theorem loadLaneOn_answered : s.Answered 3 (loadLaneOn args s.emptyLatch) := by
  refine .indexed fun k fields => .valued fun r => ?_
  split
  · exact .answer _ _ rfl
  · exact .refused _ _

theorem State.ringLoaded_link (s : State) (l : Line) {f : Frame} (sending : s.link.tx = .sending f) :
    (s.ringLoaded l).link = s.link := by
  have acts : s.Acts (.ofLine l) (s.ringLoaded l) := State.Acts.refl.ringLoaded ⟨fun _ => trivial, trivial⟩ rfl
  have apart := acts.apart id sending
  rw [apart.link, apart.penalty id]

theorem loadRingOn_answered {f : Frame} (sending : s.link.tx = .sending f) :
    s.Answered 7 (loadRingOn args s.emptyLatch) := by
  unfold loadRingOn
  split
  · refine .checked ?_
    split
    · exact .refused _ _
    · refine .valued fun ring => ?_
      split
      · exact .refused _ _
      · exact .answer _ _ (State.ringLoaded_link _ _ sending)
  · exact .refused _ _

theorem loadPartitionOn_answered : s.Answered 9 (loadPartitionOn args s.emptyLatch) := by
  refine .checked (.valued fun sizes => ?_)
  split
  · exact .refused _ _
  · exact .answer _ _ rfl

theorem setLineOn_answered : s.Answered 11 (setLineOn args s.emptyLatch) := by
  unfold setLineOn
  split
  · exact .refused _ _
  · refine .checked ?_
    split
    · exact .refused _ _
    · exact .valued fun r => .answer _ _ rfl

theorem readStatusOn_answered : s.Answered 12 (readStatusOn args s.emptyLatch) := by
  unfold readStatusOn
  split
  · exact .answer _ _ rfl
  · exact .refused _ _

theorem clearCountersOn_answered : s.Answered 14 (clearCountersOn args s.emptyLatch) := by
  refine .ofScope fun scope => ?_
  cases scope with
  | link => exact .answered _ .done [] rfl rfl
  | line l => exact .answered _ .done [] rfl rfl
  | slot n => exact .answered _ .done [] rfl rfl
  | all =>
    rw [State.clearCounters, State.foldl_clearSlotCounters]
    exact .answered _ .done [] rfl rfl

theorem softResetOn_answered : s.Answered 15 (softResetOn args s.emptyLatch) := by
  unfold softResetOn
  split
  · exact .answered _ .done [] rfl rfl
  · exact .refused _ _

end

/-- What each request command executes, and that MGU answers it. -/
theorem request_answered {s : State} {c : Instr} {code : Byte}
    (named : (c, code.toNat) ∈
      [(Instr.loadUnit, 1), (.readUnit, 2), (.loadLane, 3), (.readLane, 4), (.loadKeymap, 5), (.loadPolicy, 6),
        (.loadRing, 7), (.loadPrompt, 8), (.loadPartition, 9), (.setLink, 10), (.setLine, 11), (.readStatus, 12),
        (.readCounters, 13), (.clearCounters, 14), (.softReset, 15)]) {f : Frame} (sending : s.link.tx = .sending f) :
    ∃ execute : List Byte → State → State,
      exec c s = .next (s.takeRequest code execute).selectNew ∧
        ∀ args, s.Answered code (execute args s.emptyLatch) := by
  have code_of {n : Nat} (same : code.toNat = n) : code = BitVec.ofNat 8 n := by rw [← same, BitVec.ofNat_toNat]; simp
  simp only [List.mem_cons, Prod.mk.injEq, List.not_mem_nil, or_false] at named
  rcases named with ⟨rfl, same⟩ | ⟨rfl, same⟩ | ⟨rfl, same⟩ | ⟨rfl, same⟩ | ⟨rfl, same⟩ | ⟨rfl, same⟩ | ⟨rfl, same⟩ |
    ⟨rfl, same⟩ | ⟨rfl, same⟩ | ⟨rfl, same⟩ | ⟨rfl, same⟩ | ⟨rfl, same⟩ | ⟨rfl, same⟩ | ⟨rfl, same⟩ | ⟨rfl, same⟩ <;>
    cases code_of same
  · exact ⟨_, rfl, loadUnitOn_answered s⟩
  · exact ⟨readUnitOn, rfl, fun _ => .indexed fun _ _ => .answer _ _ rfl⟩
  · exact ⟨_, rfl, loadLaneOn_answered s⟩
  · exact ⟨readLaneOn, rfl, fun _ => .indexed fun _ _ => .answer _ _ rfl⟩
  · exact ⟨loadKeymapOn, rfl, fun _ => .indexed fun _ _ => .answer _ _ rfl⟩
  · exact ⟨loadPolicyOn, rfl, fun _ => .indexed fun _ _ => .valued fun _ => .answer _ _ rfl⟩
  · exact ⟨_, rfl, fun args => loadRingOn_answered s args sending⟩
  · exact ⟨loadPromptOn, rfl, fun _ => .indexed fun _ _ => .answer _ _ rfl⟩
  · exact ⟨_, rfl, loadPartitionOn_answered s⟩
  · exact ⟨setLinkOn, rfl, fun _ => .checked (.valued fun _ => .answer _ _ rfl)⟩
  · exact ⟨_, rfl, setLineOn_answered s⟩
  · exact ⟨_, rfl, readStatusOn_answered s⟩
  · exact ⟨readCountersOn, rfl, fun _ => .ofScope fun _ => .answer _ _ rfl⟩
  · exact ⟨_, rfl, clearCountersOn_answered s⟩
  · exact ⟨_, rfl, softResetOn_answered s⟩

/-- A request stays in the latch while MGU may not take it (R22). -/
theorem State.takeRequest_busy {s : State} (busy : s.mguFree = false) (code : Byte) (execute : List Byte → State → State) :
    s.takeRequest code execute = s := by
  rcases s.takeRequest_cases code execute with same | ⟨_, _, free, _⟩
  · exact same
  · rw [busy] at free
    cases free

end Sys2Proof.Machine

namespace Sys2Proof.Proofs

open Sys2Proof.Machine

/-- Settles O38: what MGU makes of the latched request is `State.Answered`, whatever its bytes are. -/
theorem refusedRequestsChangeNothing : Obligations.RefusedRequestsChangeNothing := by
  intro s c code args f named sending latch
  obtain ⟨execute, ends, answers⟩ := request_answered named sending
  refine ⟨fun free pending => ?_, fun busy => ?_⟩
  · have latched : s.Latched (code :: args) := ⟨latch, free, pending⟩
    have answered := answers args
    refine ⟨execute args s.emptyLatch, ?_, ?_⟩
    · rw [ends, latched.takeRequest, State.selectNew_sending (answered.tx.trans sending)]
    · generalize execute args s.emptyLatch = t at answered
      cases answered with
      | refused reason detail => exact ⟨rfl, rfl, Nat.le_add_left _ _, fun _ => ⟨rfl, rfl⟩⟩
      | answered _ status data reply link =>
        refine ⟨link, ?_⟩
        rw [reply]
        exact ⟨rfl, Nat.le_add_left _ _, fun refusal => by cases status <;> cases refusal⟩
  · have taken : s.mguFree = false := by
      rcases busy with waits | pending
      · cases held : s.reply with
        | none => exact absurd held waits
        | some body => simp [State.mguFree, held]
      · simp [State.mguFree, pending]
    rw [ends, State.takeRequest_busy taken, State.selectNew_sending sending]

end Sys2Proof.Proofs
end

section
/-! SUPPORT. Loads that clamp: lane settings, key maps, policies and prompts (R29 to R32). -/

namespace Sys2Proof.Machine

/-- DONE or CLAMPED, by whether anything was changed (R23). -/
theorem storedStatus_changed {received stored : List Byte} {changed : Bool} (h : received = stored ↔ changed = false) :
    (storedStatus received stored).code = if changed then 1 else 0 := by
  unfold storedStatus
  cases changed with
  | false => rw [if_pos (h.mpr rfl)]; rfl
  | true => rw [if_neg fun same => Bool.noConfusion (h.mp same)]; rfl

/-- A list is left as it is by a function that fixes exactly the elements that fail a test. -/
theorem eq_map_iff_any {α : Type} {f : α → α} {changes : α → Bool} (h : ∀ x, x = f x ↔ changes x = false) (l : List α) :
    l = l.map f ↔ l.any changes = false := by
  induction l with
  | nil => simp
  | cons x rest ih => simp [h x, ih]

/-! ### Lane settings and policies (R29, R31) -/

theorem clampField_eq {bound n : Nat} :
    (if h : n < bound + 1 then ⟨n, h⟩ else Fin.last bound) = Fin.ofNat (bound + 1) (Nat.min bound n) := by
  ext
  have small : Nat.min bound n < bound + 1 := Nat.lt_succ_of_le (Nat.min_le_left _ _)
  rw [Fin.val_ofNat, Nat.mod_eq_of_lt small]
  split
  · next low => exact (Nat.min_eq_right (Nat.le_of_lt_succ low)).symm
  · next high => exact (Nat.min_eq_left (by omega)).symm

theorem timeoutField_eq (b : Byte) : timeoutField b = Fin.ofNat 121 (Nat.max 1 (Nat.min 120 b.toNat)) := by
  show timeoutField b = Fin.ofNat 121 (max 1 (min 120 b.toNat))
  by_cases none : b = 0
  · subst none
    rfl
  · have some : b.toNat ≠ 0 := fun zero => none (BitVec.eq_of_toNat_eq zero)
    have same : max 1 (min 120 b.toNat) = min 120 b.toNat := by omega
    rw [same]
    simp only [timeoutField, if_neg none]
    exact clampField_eq (bound := 120)

/-- The fields of LOAD_LANE, clamped (R29). -/
theorem LaneSettings.ofBytes_clamped (po : Fin 4) (hold : Bool) (time : Byte) (p q : Fin 8) :
    LaneSettings.ofBytes [byteOf po.val, flagByte hold, time, byteOf p.val, byteOf q.val] =
      .inr ⟨po, hold, Fin.ofNat 121 (Nat.max 1 (Nat.min 120 time.toNat)), p, q⟩ := by
  simp [LaneSettings.ofBytes, below_byteOf, timeoutField_eq, named, FieldCheck.andThen]

/-- The fields of LOAD_POLICY, clamped (R31). -/
theorem Policy.ofBytes_clamped (first last : Byte) {mask : Byte} (digit : ¬(0x30 ≤ mask.toNat ∧ mask.toNat ≤ 0x39))
    (equals : mask ≠ 0x3D) :
    Policy.ofBytes [first, last, mask] =
      .inr ⟨Fin.ofNat 9 (Nat.min 8 first.toNat), Fin.ofNat 5 (Nat.min 4 last.toNat),
        if 0x20 ≤ mask.toNat ∧ mask.toNat ≤ 0x7E then mask else 0x2A⟩ := by
  have admitted : ¬(isDigit mask = true ∨ mask = 0x3D) := by
    simp only [isDigit, decide_eq_true_eq, not_or]
    exact ⟨digit, equals⟩
  have keepFirst := clampField_eq (bound := 8) (n := first.toNat)
  have keepLast := clampField_eq (bound := 4) (n := last.toNat)
  rw [Policy.ofBytes, if_neg admitted, ← keepFirst, ← keepLast]
  simp only [isPrintable, decide_eq_true_eq]
  rfl

/-! ### Key maps and prompts (R30, R32) -/

/-- A byte that names no key is stored as NONE (R30). -/
theorem LogicalKey.code_ofByte (b : Byte) : (LogicalKey.ofByte b).code = if 0x12 < b.toNat then 0x12 else b := by
  unfold LogicalKey.ofByte
  split
  · next digit =>
    rw [if_neg (by omega)]
    exact (byteOf_eq_iff (by omega) b).mpr rfl
  split
  · next enter => subst enter; rfl
  split
  · next clear => subst clear; rfl
  split
  · next cancel => subst cancel; rfl
  split
  · next dot => subst dot; rfl
  split
  · next func =>
    rw [if_neg (by omega)]
    exact (byteOf_eq_iff (by omega) b).mpr (by simp only; omega)
  · next digit enter clear cancel dot func =>
    split
    · rfl
    · next low =>
      show (0x12 : Byte) = b
      bv_omega

/-- A key map entry is stored as it is unless it names no key. -/
theorem unchangedKey (b : Byte) : b = (if 0x12 < b.toNat then 0x12 else b) ↔ decide (0x12 < b.toNat) = false := by
  split
  · next high =>
    simp only [high, decide_true, Bool.true_eq_false, iff_false]
    rintro rfl
    exact absurd high (by decide)
  · next low => simp [low]

/-- The key map as LOAD_KEYMAP stores it and reports it (R30). -/
theorem keyMapOf_codes {keys : List Byte} (length : keys.length = 32) :
    (keyMapOf keys).toList.map LogicalKey.code = keys.map fun b => if 0x12 < b.toNat then 0x12 else b := by
  refine List.ext_getElem (by simp [length]) fun i _ inside => ?_
  have held : i < keys.length := by simpa using inside
  simp [keyMapOf, LogicalKey.code_ofByte, held]

theorem printable_eq (c : Byte) : printable c = if 0x20 ≤ c.toNat ∧ c.toNat ≤ 0x7E then c else 0x3F := by
  simp [printable, isPrintable]

end Sys2Proof.Machine

namespace Sys2Proof.Proofs

open Sys2Proof.Machine

/-- Settles O34. -/
theorem loadsStoreAndReadsReport : Obligations.LoadsStoreAndReadsReport := by
  refine ⟨?reads, ?loads⟩
  case reads =>
    intro s n k index settings
    refine ⟨fun latched => ?_, fun latched high => ?_, fun latched => ?_, fun latched high => ?_⟩
    · have reads : exec .readUnit s =
          .next (s.replied ([2, 0] ++ (s.record n).bytes ++ stagedBytes (s.staged n))).selectNew := by
        show Host.Outcome.next (s.takeRequest 2 readUnitOn).selectNew = _
        rw [latched.takeRequest, readUnitOn, State.indexed_byteOf (len := 1) (fields := []) _ _ (by decide) n rfl, List.append_assoc]
        rfl
      refine ⟨fun none => ?_, fun r staged => ?_⟩
      · rw [reads, none]
        rfl
      · rw [reads, staged, List.append_assoc]
        rfl
    · show Host.Outcome.next (s.takeRequest 2 readUnitOn).selectNew = _
      rw [latched.takeRequest, readUnitOn, State.indexed_badIndex (len := 1) (bound := 16) (fields := []) _ _ high rfl]
      rfl
    · show Host.Outcome.next (s.takeRequest 4 readLaneOn).selectNew = _
      rw [latched.takeRequest, readLaneOn, State.indexed_byteOf (len := 1) (fields := []) _ _ (by decide) k rfl]
      rfl
    · show Host.Outcome.next (s.takeRequest 4 readLaneOn).selectNew = _
      rw [latched.takeRequest, readLaneOn, State.indexed_badIndex (len := 1) (bound := 8) (fields := []) _ _ high rfl]
      rfl
  case loads =>
    intro s k i j p q po hold time first last mask keys text stored seconds
    refine ⟨fun latched closed => ?_, fun latched length => ⟨?_, keyMapOf_codes length⟩, fun latched digit equals => ?_,
      fun latched short => ?_⟩
    · have holdByte : (if hold then (1 : Byte) else 0) = flagByte hold := rfl
      rw [holdByte] at latched ⊢
      let new : LaneSettings := ⟨po, hold, seconds, p, q⟩
      have status : (storedStatus [byteOf po.val, flagByte hold, time, byteOf p.val, byteOf q.val] new.bytes).code =
          if decide (seconds.val ≠ time.toNat) then 1 else 0 :=
        storedStatus_changed (by
          have same := byteOf_eq_iff (n := seconds.val) (by omega) time
          simp [LaneSettings.bytes, new, eq_comm (a := time), same])
      have idle : s.emptyLatch.laneClosed k = true := by
        show ((s.lane k).phase == .closed) = true
        rw [closed]
        rfl
      show Host.Outcome.next (s.takeRequest 3 loadLaneOn).selectNew = _
      rw [latched.takeRequest, loadLaneOn,
        State.indexed_byteOf (len := 6) (fields := [_, _, _, _, _]) _ _ (by decide) k rfl, LaneSettings.ofBytes_clamped,
        State.valued, if_pos idle]
      simp only [stored]
      rw [← status]
      rfl
    · have codes := keyMapOf_codes length
      have status : (storedStatus keys ((keyMapOf keys).toList.map LogicalKey.code)).code =
          if (keys.any fun b => decide (0x12 < b.toNat)) then 1 else 0 := by
        rw [codes]
        exact storedStatus_changed (eq_map_iff_any unchangedKey keys)
      show Host.Outcome.next (s.takeRequest 5 loadKeymapOn).selectNew = _
      rw [latched.takeRequest, loadKeymapOn, State.indexed_byteOf _ _ (by decide) i (by rw [length])]
      simp only [stored]
      rw [← status, ← codes]
      rfl
    · intro kf kl m
      let new : Policy := ⟨kf, kl, m⟩
      have status : (storedStatus [first, last, mask] new.bytes).code =
          if decide (kf.val ≠ first.toNat ∨ kl.val ≠ last.toNat ∨ m ≠ mask) then 1 else 0 :=
        storedStatus_changed (by
          have sameFirst := byteOf_eq_iff (n := kf.val) (by omega) first
          have sameLast := byteOf_eq_iff (n := kl.val) (by omega) last
          simp [Policy.bytes, new, eq_comm (a := first), eq_comm (a := last), eq_comm (a := mask), sameFirst, sameLast])
      show Host.Outcome.next (s.takeRequest 6 loadPolicyOn).selectNew = _
      rw [latched.takeRequest, loadPolicyOn,
        State.indexed_byteOf (len := 4) (fields := [_, _, _]) _ _ (by decide) i rfl,
        Policy.ofBytes_clamped first last digit equals, State.valued]
      simp only [stored]
      rw [← status]
      rfl
    · intro kept
      have prompt : text.map printable = kept := List.map_congr_left fun c _ => printable_eq c
      have status : (storedStatus text kept).code = if decide (kept ≠ text) then 1 else 0 :=
        storedStatus_changed (by rw [decide_eq_false_iff_not, not_not, eq_comm])
      have room : (byteOf j.val :: text).length ≤ 41 := Nat.succ_le_succ short
      show Host.Outcome.next (s.takeRequest 8 loadPromptOn).selectNew = _
      rw [latched.takeRequest, loadPromptOn, if_pos room,
        State.indexed_byteOf (len := (byteOf j.val :: text).length) (fields := text) _ _ (by decide) j rfl, prompt]
      simp only [stored]
      rw [← status]
      rfl

end Sys2Proof.Proofs
end

section
/-! SUPPORT. LOAD_RING: its fields, and what the line's engine does about a new ring (R33, R90). -/

namespace Sys2Proof.Machine

/-! ### Fields (R33, R185) -/

theorem slotNumbers_byteOf (ring : List SlotNo) (position : Nat) :
    slotNumbers position (ring.map fun n => byteOf n.val) = .inr ring := by
  induction ring generalizing position with
  | nil => rfl
  | cons n rest ih =>
    have entry := below_byteOf position (by decide : 16 ≤ 256) n
    simp [slotNumbers, entry, ih, FieldCheck.andThen]

/-- The first byte above 15 is named by its field position. -/
theorem slotNumbers_badValue {entries : List Byte} {place : Nat} {b : Byte} (held : entries[place]? = some b)
    (high : 15 < b.toNat) (before : ∀ c ∈ entries.take place, c.toNat ≤ 15) (position : Nat) :
    slotNumbers position entries = .inl (position + place) := by
  induction entries generalizing place position with
  | nil => cases held
  | cons c rest ih =>
    cases place with
    | zero =>
      cases held
      have out : ¬b.toNat < 16 := by omega
      simp [slotNumbers, below, out, FieldCheck.andThen]
    | succ place =>
      have low : c.toNat < 16 := Nat.lt_succ_of_le (before c (by simp))
      have later := ih held (fun d mem => before d (by simp [mem])) (position + 1)
      simp only [slotNumbers, below, low, dif_pos, FieldCheck.andThen, later]
      rw [Nat.add_right_comm, Nat.add_assoc]

theorem State.ringConflict_none {s : State} {l : Line} {ring : List SlotNo} (own : ∀ n ∈ ring, (s.record n).line = l) :
    s.ringConflict l ring = none := by
  simpa [State.ringConflict] using own

/-- The first entry of another line is named by its position from 1. -/
theorem State.ringConflict_some {s : State} {l : Line} {ring : List SlotNo} {place : Nat} {n : SlotNo}
    (held : ring[place]? = some n) (foreign : (s.record n).line ≠ l)
    (before : ∀ m ∈ ring.take place, (s.record m).line = l) : s.ringConflict l ring = some (place + 1) := by
  obtain ⟨inside, entry⟩ := List.getElem?_eq_some_iff.mp held
  have first : (ring.findIdx? fun n => (s.record n).line != l) = some place := by
    rw [List.findIdx?_eq_some_iff_getElem]
    refine ⟨inside, by simpa [entry] using foreign, fun j lower => ?_⟩
    have own := before ring[j] (List.mem_take_iff_getElem.mpr ⟨j, by omega, rfl⟩)
    simpa using own
  rw [State.ringConflict, first]
  rfl

/-! ### The engine (R90) -/

theorem State.scan_congr {s t : State} {l : Line} (same : ∀ n, t.entryAction l n = s.entryAction l n) (p : Nat)
    (ring : List SlotNo) : t.scan l p ring = s.scan l p ring := by
  induction ring generalizing p with
  | nil => rfl
  | cons n rest ih => simp only [State.scan, same, ih]

/-- A pass begins in the same way whatever waits in the reply slot. -/
theorem State.beginPass_setReply (s : State) (l : Line) (r : Option (List Byte)) :
    (s.setReply r).beginPass l = (s.beginPass l).setReply r := by
  have scans (e : Engine) (ring : List SlotNo) :
      ((s.setReply r).setEngine l e).scan l 0 ring = (s.setEngine l e).scan l 0 ring :=
    State.scan_congr (s := s.setEngine l e) (t := (s.setReply r).setEngine l e) (fun _ => rfl) 0 ring
  simp only [State.beginPass, State.engine_setReply, State.ring_setEngine, State.ring_setReply, scans,
    State.lineInForce_setEngine, State.lineInForce_setReply]
  cases (s.setEngine l _).scan l 0 (s.ring l) with
  | some found =>
    obtain ⟨p, n, a⟩ := found
    cases a <;> rfl
  | none =>
    by_cases swept : (s.lineInForce l).sweep = true
    · simp only [swept, if_true]
      rfl
    · simp only [swept]
      rfl

/-- A pass begins in the same way whatever was due and whether or not the engine has its cut mark. -/
theorem State.beginPass_cut (s : State) (l : Line) :
    (s.setEngine l { s.engine l with cut := true, due := none }).beginPass l = s.beginPass l := by
  simp only [State.beginPass, State.setEngine_setEngine, State.engine_setEngine_same]

/-- A new ring is noticed by an engine that has no ring entry due (R90). -/
theorem State.ringLoaded_running (s : State) (l : Line)
    (running : ¬((s.engine l).stage = .ring ∧ (s.engine l).due = some .entry)) :
    s.ringLoaded l =
      s.setEngine l
        { s.engine l with
          cut := true
          ringPtr :=
            if (s.engine l).stage = .sweepStep ∨ (s.engine l).stage = .tickWait then (s.ring l).length
            else (s.engine l).ringPtr } := by
  cases stage : (s.engine l).stage with
  | ring =>
    have idle : ¬(s.engine l).due = some .entry := fun due => running ⟨stage, due⟩
    simp [State.ringLoaded, stage, idle]
  | sweepStep => simp [State.ringLoaded, stage, State.setEngine_setEngine]
  | tickWait => simp [State.ringLoaded, stage, State.setEngine_setEngine]
  | toBegin => simp [State.ringLoaded, stage]

/-- A new ring ends the pass of an engine that has a ring entry due (R90). -/
theorem State.ringLoaded_due (s : State) (l : Line) (stage : (s.engine l).stage = .ring)
    (due : (s.engine l).due = some .entry) :
    s.ringLoaded l = (s.setEngine l { s.engine l with cut := true, due := none }).endPass l := by
  simp [State.ringLoaded, stage, due, State.setEngine_setEngine]

/-! ### The request -/

/-- LOAD_RING of at most twelve slots. -/
theorem loadRing_of {s : State} {l : Line} {ring : List SlotNo}
    (latched : s.Latched (7 :: lineCode l :: byteOf ring.length :: ring.map fun n => byteOf n.val))
    (short : ring.length ≤ 12) :
    exec .loadRing s =
      .next (State.selectNew
        (match s.ringConflict l ring with
        | some position => s.replied [7, 3, 6, byteOf position]
        | none =>
          ((s.emptyLatch.setRing l ring).ringLoaded l).answer 7 .done
            (lineCode l :: byteOf ring.length :: ring.map fun n => byteOf n.val))) := by
  have count : (byteOf ring.length).toNat = ring.length := toNat_byteOf (by omega)
  have fields : ringFields (byteOf ring.length) (ring.map fun n => byteOf n.val) = .inr ring := by
    rw [ringFields, if_neg (by omega), slotNumbers_byteOf]
  show Host.Outcome.next (s.takeRequest 7 loadRingOn).selectNew = _
  rw [latched.takeRequest, loadRingOn, if_neg (by simp [count]), lineOfByte_lineCode]
  simp only [State.loadRing, fields, State.valued]
  rfl

end Sys2Proof.Machine

namespace Sys2Proof.Proofs

open Sys2Proof.Machine

/-- Settles O35. -/
theorem loadRingReplacesTheRing : Obligations.LoadRingReplacesTheRing := by
  intro s l ring count entries place line body
  have lineByte : line = lineCode l := by cases l <;> rfl
  rw [lineByte]
  refine ⟨fun latched short => ⟨fun own => ?_, fun n held foreign before => ?_⟩, fun latched length => ?_⟩
  · intro old cut atEnd loaded
    let t := s.emptyLatch.setRing l ring
    have ringOf : t.ring l = ring := PerLine.get_set_same _ _ _
    have loads : exec .loadRing s =
        .next (State.selectNew ((t.ringLoaded l).answer 7 .done (lineCode l :: byteOf ring.length :: body))) := by
      rw [loadRing_of latched short, State.ringConflict_none own]
    let u := t.setEngine l { t.engine l with cut := true, due := none }
    have ended (stage : old.stage = .ring) (due : old.due = some .entry) : t.ringLoaded l = u.endPass l :=
      t.ringLoaded_due l stage due
    have uncut : u.engine l = { s.engine l with cut := true, due := none } := State.engine_setEngine_same _ _ _
    refine ⟨fun running => ?_, fun ⟨stage, due⟩ sweep => ?_, fun ⟨stage, due⟩ sweep first => ?_,
      fun ⟨stage, due⟩ sweep sent => ?_⟩
    · rw [loads, t.ringLoaded_running l running, ringOf]
      rfl
    · have swept : (u.lineInForce l).sweep = true := sweep
      have length : u.ring l = ring := ringOf
      rw [loads, ended stage due, State.endPass, if_pos swept, State.sweepDue, uncut, length, State.setEngine_setEngine]
      rfl
    · have unswept : ¬(u.lineInForce l).sweep = true := fun swept => Bool.noConfusion (sweep.symm.trans swept)
      have length : u.ring l = ring := ringOf
      have unsent : ¬(u.engine l).passActive = true := by
        rw [uncut]
        exact fun sent => Bool.noConfusion (first.symm.trans sent)
      rw [loads, ended stage due, State.endPass, if_neg unswept, if_neg unsent, State.waitTick, uncut, length,
        State.setEngine_setEngine]
      rfl
    · have unswept : ¬(u.lineInForce l).sweep = true := fun swept => Bool.noConfusion (sweep.symm.trans swept)
      have active : (u.engine l).passActive = true := by
        rw [uncut]
        exact sent
      rw [loads, ended stage due, State.endPass, if_neg unswept, if_pos active, State.beginPass_cut, State.answer,
        ← State.beginPass_setReply]
      rfl
  · rw [loadRing_of latched short, State.ringConflict_some held foreign before]
  · have loads {position : Nat} (faulty : ringFields count entries = .inl position) :
        exec .loadRing s = .next (s.replied [7, 3, 4, byteOf position]).selectNew := by
      show Host.Outcome.next (s.takeRequest 7 loadRingOn).selectNew = _
      rw [latched.takeRequest, loadRingOn, if_neg (by simp [length]), lineOfByte_lineCode]
      simp only [State.loadRing, faulty, State.valued]
      rfl
    refine ⟨fun many => loads (if_pos many), fun few b held high before => loads ?_⟩
    rw [ringFields, if_neg (by omega), slotNumbers_badValue held high before, Nat.add_comm]

end Sys2Proof.Proofs
end

section
/-! SUPPORT. The checks of LOAD_UNIT: its fields one after another (R25, R185), then the unit table (R26). -/

namespace Sys2Proof.Machine

/-! ### One field -/

/-- A byte within its range gives a value, here one that `carried` holds of; any other is named by its position. -/
structure FieldCheck.Checks {α : Type} (c : FieldCheck α) (position : Nat) (inRange : Prop) (carried : α → Prop) : Prop where
  value : inRange → ∃ x, c = .inr x ∧ carried x
  fault : ¬inRange → c = .inl position

theorem below_checks (position bound : Nat) (b : Byte) :
    (below position bound b).Checks position (b.toNat < bound) fun x => byteOf x.val = b where
  value low := ⟨⟨b.toNat, low⟩, dif_pos low, (byteOf_eq_iff (by simp only; omega) b).mpr rfl⟩
  fault high := dif_neg high

theorem named_checks {α : Type} {v : Option α} {inRange : Prop} {carried : α → Prop} (position : Nat)
    (value : inRange → ∃ x, v = some x ∧ carried x) (fault : ¬inRange → v = none) :
    (named position v).Checks position inRange carried where
  value low := by
    obtain ⟨x, names, carried⟩ := value low
    exact ⟨x, by rw [names]; rfl, carried⟩
  fault high := by rw [fault high]; rfl

theorem boolOfByte_checks (position : Nat) (b : Byte) :
    (named position (boolOfByte b)).Checks position (b.toNat < 2) fun x => flagByte x = b := by
  refine named_checks position (fun low => ?_) fun high => ?_
  · obtain rfl | rfl : b = 0 ∨ b = 1 := by bv_omega
    · exact ⟨false, rfl, rfl⟩
    · exact ⟨true, rfl, rfl⟩
  · unfold boolOfByte
    split
    · omega
    · omega
    · rfl

theorem lineOfByte_checks (position : Nat) (b : Byte) :
    (named position (lineOfByte b)).Checks position (b.toNat < 2) fun x => lineCode x = b := by
  refine named_checks position (fun low => ?_) fun high => ?_
  · obtain rfl | rfl : b = 0 ∨ b = 1 := by bv_omega
    · exact ⟨.a, rfl, rfl⟩
    · exact ⟨.b, rfl, rfl⟩
  · unfold lineOfByte
    split
    · omega
    · omega
    · rfl

theorem unitKind_checks (position : Nat) (b : Byte) :
    (named position (UnitKind.ofByte b)).Checks position (b.toNat < 3) fun x => x.code = b := by
  refine named_checks position (fun low => ?_) fun high => ?_
  · obtain rfl | rfl | rfl : b = 0 ∨ b = 1 ∨ b = 2 := by bv_omega
    · exact ⟨.reader, rfl, rfl⟩
    · exact ⟨.pinpad, rfl, rfl⟩
    · exact ⟨.combo, rfl, rfl⟩
  · unfold UnitKind.ofByte
    split
    · omega
    · omega
    · omega
    · rfl

theorem dataBits_checks (position : Nat) (b : Byte) :
    (named position (DataBits.ofByte b)).Checks position (b = 7 ∨ b = 8) fun x => x.code = b := by
  refine named_checks position (fun low => ?_) fun high => ?_
  · obtain rfl | rfl := low
    · exact ⟨.seven, rfl, rfl⟩
    · exact ⟨.eight, rfl, rfl⟩
  · unfold DataBits.ofByte
    split
    · bv_omega
    · bv_omega
    · rfl

theorem parity_checks (position : Nat) (b : Byte) :
    (named position (Parity.ofByte b)).Checks position (b.toNat < 4) fun x => x.code = b := by
  refine named_checks position (fun low => ?_) fun high => ?_
  · obtain rfl | rfl | rfl | rfl : b = 0 ∨ b = 1 ∨ b = 2 ∨ b = 3 := by bv_omega
    · exact ⟨.none, rfl, rfl⟩
    · exact ⟨.even, rfl, rfl⟩
    · exact ⟨.odd, rfl, rfl⟩
    · exact ⟨.zero, rfl, rfl⟩
  · unfold Parity.ofByte
    split
    · omega
    · omega
    · omega
    · omega
    · rfl

theorem stopBits_checks (position : Nat) (b : Byte) :
    (named position (StopBits.ofByte b)).Checks position (b = 1 ∨ b = 2) fun x => x.code = b := by
  refine named_checks position (fun low => ?_) fun high => ?_
  · obtain rfl | rfl := low
    · exact ⟨.one, rfl, rfl⟩
    · exact ⟨.two, rfl, rfl⟩
  · unfold StopBits.ofByte
    split
    · bv_omega
    · bv_omega
    · rfl

theorem addressField_checks (position : Nat) (b : Byte) :
    (addressField position b).Checks position (1 ≤ b.toNat ∧ b.toNat ≤ 31) fun x => byteOf x.val = b := by
  have below := below_checks position 32 b
  by_cases zero : b = 0
  · subst zero
    exact ⟨fun ⟨low, _⟩ => absurd low (by decide), fun _ => rfl⟩
  · have some : 1 ≤ b.toNat := Nat.one_le_iff_ne_zero.mpr fun none => zero (BitVec.eq_of_toNat_eq none)
    rw [addressField, if_neg zero]
    exact ⟨fun ⟨_, low⟩ => below.value (Nat.lt_succ_of_le low), fun out => below.fault fun low => out ⟨some, by omega⟩⟩

/-- An m of 15 is no fault: it is stored as 14 (R25). -/
theorem rateM_checks (position : Nat) (b : Byte) :
    (rateM position b).Checks position (b.toNat < 16) fun x => byteOf x.val = if b = 15 then 14 else b := by
  by_cases low : b.toNat < 15
  · have other : b ≠ 15 := by bv_omega
    rw [rateM, dif_pos low, if_neg other]
    exact ⟨fun _ => ⟨_, rfl, (byteOf_eq_iff (by simp only; omega) b).mpr rfl⟩, fun high => absurd low (by omega)⟩
  · by_cases top : b = 15
    · subst top
      exact ⟨fun _ => ⟨14, rfl, rfl⟩, fun high => absurd (by decide) high⟩
    · have out : b.toNat ≠ 15 := fun same => top (BitVec.eq_of_toNat_eq same)
      rw [rateM, dif_neg low, if_neg out]
      exact ⟨fun small => absurd small (by omega), fun _ => rfl⟩

/-- A W of 0 is no fault: it is stored as 1 (R25). -/
theorem windowField_checks (position : Nat) (b : Byte) :
    (windowField position b).Checks position (b.toNat < 16) fun x => byteOf x.val = if b = 0 then 1 else b := by
  by_cases zero : b = 0
  · subst zero
    exact ⟨fun _ => ⟨1, rfl, rfl⟩, fun high => absurd (by decide) high⟩
  · rw [windowField, if_neg zero, if_neg zero]
    exact below_checks position 16 b

/-! ### One field after another -/

/-- Fields checked from place `p` on: the first of the places up to 11 that is out of range is named by its position
from 1. -/
def FieldCheck.FaultsFrom {α : Type} (c : FieldCheck α) (p : Nat) (inRange : Nat → Prop) : Prop :=
  ∀ i, p ≤ i → i < 12 → ¬inRange i → (∀ j, p ≤ j → j < i → inRange j) → c = .inl (i + 1)

theorem FieldCheck.Checks.faultsFrom {α β : Type} {c : FieldCheck α} {p : Nat} {own : Prop}
    {carried : α → Prop} (check : c.Checks (p + 1) own carried) (inRange : Nat → Prop) (same : inRange p ↔ own)
    {f : α → FieldCheck β} (rest : ∀ x, (f x).FaultsFrom (p + 1) inRange) : (c.andThen f).FaultsFrom p inRange := by
  intro i from_p within faulty before
  by_cases first : i = p
  · subst first
    rw [check.fault fun low => faulty (same.mpr low)]
    rfl
  · obtain ⟨x, reads, _⟩ := check.value (same.mp (before p le_rfl (by omega)))
    rw [reads]
    exact rest x i (by omega) within faulty fun j later => before j (by omega)

/-- No place is left to check. -/
theorem FieldCheck.faultsFrom_end {α : Type} (c : FieldCheck α) (inRange : Nat → Prop) : c.FaultsFrom 12 inRange :=
  fun i from_end within => absurd within (by omega)

/-- The ranges of the twelve fields of a unit record by place from 0 (R25). -/
def UnitRecord.InRange (i : Nat) (b : Byte) : Prop :=
  match i with
  | 2 => 1 ≤ b.toNat ∧ b.toNat ≤ 31
  | 5 => b = 7 ∨ b = 8
  | 7 => b = 1 ∨ b = 2
  | i => b.toNat < [2, 2, 0, 3, 8, 0, 4, 0, 8, 16, 16, 4].getD i 0

/-- The field at a place is in its range. -/
def UnitRecord.InRangeAt (fields : List Byte) (i : Nat) : Prop := UnitRecord.InRange i (fields.getD i 0)

/-- The first field out of range is named by its position from 1. -/
theorem UnitRecord.ofBytes_fault {fields : List Byte} (length : fields.length = 12) :
    (UnitRecord.ofBytes fields).FaultsFrom 0 (UnitRecord.InRangeAt fields) := by
  match fields, length with
  | [en, ln, ad, kd, la, db, pa, sb, p, m, w, km], _ =>
    refine (boolOfByte_checks 1 en).faultsFrom (UnitRecord.InRangeAt _) .rfl fun _ => ?_
    refine (lineOfByte_checks 2 ln).faultsFrom (UnitRecord.InRangeAt _) .rfl fun _ => ?_
    refine (addressField_checks 3 ad).faultsFrom (UnitRecord.InRangeAt _) .rfl fun _ => ?_
    refine (unitKind_checks 4 kd).faultsFrom (UnitRecord.InRangeAt _) .rfl fun _ => ?_
    refine (below_checks 5 8 la).faultsFrom (UnitRecord.InRangeAt _) .rfl fun _ => ?_
    refine (dataBits_checks 6 db).faultsFrom (UnitRecord.InRangeAt _) .rfl fun _ => ?_
    refine (parity_checks 7 pa).faultsFrom (UnitRecord.InRangeAt _) .rfl fun _ => ?_
    refine (stopBits_checks 8 sb).faultsFrom (UnitRecord.InRangeAt _) .rfl fun _ => ?_
    refine (below_checks 9 8 p).faultsFrom (UnitRecord.InRangeAt _) .rfl fun _ => ?_
    refine (rateM_checks 10 m).faultsFrom (UnitRecord.InRangeAt _) .rfl fun _ => ?_
    refine (windowField_checks 11 w).faultsFrom (UnitRecord.InRangeAt _) .rfl fun _ => ?_
    exact (below_checks 12 4 km).faultsFrom (UnitRecord.InRangeAt _) .rfl fun _ => FieldCheck.faultsFrom_end _ _

/-- Fields in range are stored as they are, but for an m of 15 and a W of 0 (R25). -/
theorem UnitRecord.ofBytes_stored {fields : List Byte} (length : fields.length = 12)
    (low : ∀ i < 12, UnitRecord.InRangeAt fields i) :
    ∃ r, UnitRecord.ofBytes fields = .inr r ∧
      r.bytes =
        (fields.set 9 (if fields.getD 9 0 = 15 then 14 else fields.getD 9 0)).set 10
          (if fields.getD 10 0 = 0 then 1 else fields.getD 10 0) := by
  match fields, length with
  | [en, ln, ad, kd, la, db, pa, sb, p, m, w, km], _ =>
    obtain ⟨enabled, readsEnabled, enabledByte⟩ := (boolOfByte_checks 1 en).value (low 0 (by decide))
    obtain ⟨line, readsLine, lineByte⟩ := (lineOfByte_checks 2 ln).value (low 1 (by decide))
    obtain ⟨address, readsAddress, addressByte⟩ := (addressField_checks 3 ad).value (low 2 (by decide))
    obtain ⟨kind, readsKind, kindByte⟩ := (unitKind_checks 4 kd).value (low 3 (by decide))
    obtain ⟨lane, readsLane, laneByte⟩ := (below_checks 5 8 la).value (low 4 (by decide))
    obtain ⟨data, readsData, dataByte⟩ := (dataBits_checks 6 db).value (low 5 (by decide))
    obtain ⟨parity, readsParity, parityByte⟩ := (parity_checks 7 pa).value (low 6 (by decide))
    obtain ⟨stop, readsStop, stopByte⟩ := (stopBits_checks 8 sb).value (low 7 (by decide))
    obtain ⟨prescale, readsP, pByte⟩ := (below_checks 9 8 p).value (low 8 (by decide))
    obtain ⟨rate, readsM, mByte⟩ := (rateM_checks 10 m).value (low 9 (by decide))
    obtain ⟨window, readsWindow, windowByte⟩ := (windowField_checks 11 w).value (low 10 (by decide))
    obtain ⟨keyMap, readsKeyMap, keyMapByte⟩ := (below_checks 12 4 km).value (low 11 (by decide))
    refine ⟨⟨enabled, line, address, kind, lane, ⟨data, parity, stop, prescale, rate⟩, window, keyMap⟩, ?_, ?_⟩
    · simp only [UnitRecord.ofBytes, FieldCheck.andThen, readsEnabled, readsLine, readsAddress, readsKind, readsLane,
        readsData, readsParity, readsStop, readsP, readsM, readsWindow, readsKeyMap]
    · simp only [UnitRecord.bytes, enabledByte, lineByte, addressByte, kindByte, laneByte, dataByte, parityByte, stopByte,
        pByte, mByte, windowByte, keyMapByte]
      rfl

theorem UnitRecord.length_of_ofBytes {fields : List Byte} {r : UnitRecord} (good : UnitRecord.ofBytes fields = .inr r) :
    fields.length = 12 := by
  unfold UnitRecord.ofBytes at good
  split at good
  · rfl
  · cases good

/-! ### The unit table (R26) -/

theorem State.namesBusyLane_iff (s : State) (n : SlotNo) (r : UnitRecord) :
    s.namesBusyLane n r = true ↔ r.enabled = true ∧ s.currentLane n ≠ some r.lane ∧ (s.lane r.lane).phase ≠ .closed := by
  simp [State.namesBusyLane, State.laneClosed, and_assoc]

/-- LOAD_UNIT of a record whose fields pass their checks (R26, R27). -/
theorem loadUnit_of {s : State} {n : SlotNo} {fields : List Byte} {new : UnitRecord}
    (latched : s.Latched (1 :: byteOf n.val :: fields)) (good : UnitRecord.ofBytes fields = .inr new) :
    exec .loadUnit s =
      .next (State.selectNew
        (if s.namesBusyLane n new = true then s.replied [1, 3, 5, byteOf new.lane.val]
        else
          match s.conflict n new with
          | some detail => s.replied [1, 3, 6, detail]
          | none => s.emptyLatch.acceptUnit n new fields)) := by
  have length := UnitRecord.length_of_ofBytes good
  show Host.Outcome.next (s.takeRequest 1 loadUnitOn).selectNew = _
  rw [latched.takeRequest, loadUnitOn, State.indexed_byteOf _ _ (by decide) n (by rw [length]), good]
  rfl

end Sys2Proof.Machine

namespace Sys2Proof.Proofs

open Sys2Proof.Machine

/-- Settles O33. -/
theorem loadUnitIsChecked : Obligations.LoadUnitIsChecked := by
  intro s index fields place
  refine ⟨?_, fun n new latched good enabled => ?_⟩
  · intro latched inRange refused
    have loads : exec .loadUnit s = .next (loadUnitOn (index :: fields) s.emptyLatch).selectNew := by
      show Host.Outcome.next (s.takeRequest 1 loadUnitOn).selectNew = _
      rw [latched.takeRequest]
    refine ⟨fun length => ?_, fun length high => ?_, fun length low faulty before => ?_, fun length each => ?_⟩
    · rw [loads, loadUnitOn, State.indexed_badLength _ _ (by simpa using length)]
      rfl
    · rw [loads, loadUnitOn, State.indexed_badIndex _ _ high (by rw [length])]
      rfl
    · have fault : UnitRecord.ofBytes fields = .inl (place.val + 1) :=
        UnitRecord.ofBytes_fault length place.val (Nat.zero_le _) place.isLt faulty fun j _ lower =>
          before ⟨j, by omega⟩ lower
      have named : index = byteOf (⟨index.toNat, Nat.lt_succ_of_le low⟩ : Fin 16).val :=
        ((byteOf_eq_iff (by omega) index).mpr rfl).symm
      rw [loads, loadUnitOn, named, State.indexed_byteOf _ _ (by decide) _ (by rw [length]), fault]
      rfl
    · obtain ⟨r, good, stored⟩ := UnitRecord.ofBytes_stored length fun i within => each ⟨i, within⟩
      rw [good]
      exact stored
  · intro busy clashes full
    have busy_iff : s.namesBusyLane n new = true ↔ busy := by simp [State.namesBusyLane_iff, enabled, busy]
    have clashes_iff (m : SlotNo) : s.clashes n new m = true ↔ clashes m := by
      simp [State.clashes_iff, clashes]
    have full_iff : s.lineFull n new = true ↔ full := by simp [State.lineFull_iff, enabled, full]
    refine ⟨fun taken => ?_, fun free m clash first room => ?_, fun free alone taken => ?_⟩
    · rw [loadUnit_of latched good, if_pos (busy_iff.mpr taken)]
    · have found : s.firstClash n new = some m := find?_finRange ((clashes_iff m).mpr clash) fun j lower => by
        rw [← Bool.not_eq_true, clashes_iff]
        exact fun earlier => not_le_of_gt lower (first j earlier)
      have space : s.lineFull n new = false := by rw [← Bool.not_eq_true, full_iff]; exact room
      rw [loadUnit_of latched good, if_neg (fun taken => free (busy_iff.mp taken)), State.conflict, found, space]
    · have none : s.firstClash n new = none := List.find?_eq_none.mpr fun m _ clash => alone m ((clashes_iff m).mp clash)
      rw [loadUnit_of latched good, if_neg (fun taken => free (busy_iff.mp taken)), State.conflict, none,
        full_iff.mpr taken]

end Sys2Proof.Proofs
end

section
/-! SUPPORT. What applying a unit record resets (R28). -/

namespace Sys2Proof.Machine

/-! ### R28's table -/

theorem UnitRecord.moved_iff (old new : UnitRecord) :
    old.moved new = true ↔ old.line ≠ new.line ∨ old.address ≠ new.address := by
  simp [UnitRecord.moved]

/-- The record enables, disables, moves or retunes the slot (R28). -/
def UnitRecord.Resets (old new : UnitRecord) : Prop :=
  old.enabled ≠ new.enabled ∨ old.enabled = true ∧ (old.moved new = true ∨ old.tune ≠ new.tune)

theorem recordEffect_resets {old new : UnitRecord} (resets : old.Resets new) :
    recordEffect old new = .resetTo (if new.enabled then .seeking else .disabled) := by
  unfold recordEffect
  split
  · next enabled => simp [enabled]
  · next enabled => simp [enabled]
  · next was now =>
    have retuned : (old.moved new || old.tune != new.tune) = true := by simpa [UnitRecord.Resets, was, now] using resets
    rw [if_pos retuned, now]
    rfl
  · next was now => simp [UnitRecord.Resets, was, now] at resets

/-- A record that resets nothing leaves an enabled slot's state alone, and at most clears the counters of a disabled one. -/
theorem recordEffect_keeps {old new : UnitRecord} (keeps : ¬old.Resets new) :
    recordEffect old new = if old.enabled = false ∧ old.moved new = true then .clearCounters else .keep := by
  unfold recordEffect
  split
  · next was now => simp [UnitRecord.Resets, was, now] at keeps
  · next was now => simp [UnitRecord.Resets, was, now] at keeps
  · next was now =>
    have still : ¬(old.moved new || old.tune != new.tune) = true := by simpa [UnitRecord.Resets, was, now] using keeps
    rw [if_neg still, was]
    rfl
  · next was now => simp [was]

namespace UnitRun

variable (u : UnitRun) {old new : UnitRecord} (busy : Bool)

/-- What no record changes. -/
theorem afterRecord_kept :
    (u.afterRecord old new busy).e = u.e ∧ (u.afterRecord old new busy).c = u.c ∧
      (u.afterRecord old new busy).lastAck = u.lastAck ∧ (u.afterRecord old new busy).pendingAck = u.pendingAck ∧
      (u.afterRecord old new busy).doubt = u.doubt ∧ (u.afterRecord old new busy).superseded = (u.superseded || busy) := by
  unfold afterRecord
  cases recordEffect old new <;> exact ⟨rfl, rfl, rfl, rfl, rfl, rfl⟩

theorem afterRecord_counters :
    (u.afterRecord old new busy).counters = if old.moved new then {} else u.counters := by
  by_cases resets : old.Resets new
  · simp only [afterRecord, recordEffect_resets resets]
    rfl
  · by_cases off : old.enabled = false ∧ old.moved new = true
    · simp [afterRecord, recordEffect_keeps resets, off]
    · have still : old.moved new = false := by
        by_cases enabled : old.enabled = true
        · rw [← Bool.not_eq_true]
          exact fun moved => resets (.inr ⟨enabled, .inl moved⟩)
        · simpa [enabled] using off
      simp [afterRecord, recordEffect_keeps resets, still]

theorem afterRecord_resets (resets : old.Resets new) :
    (u.afterRecord old new busy).presence = (if new.enabled then .seeking else .disabled) ∧
      (u.afterRecord old new busy).confirm = 0 ∧ (u.afterRecord old new busy).fail = 0 ∧
      (u.afterRecord old new busy).syncRequest = true ∧ (u.afterRecord old new busy).baseline = none ∧
      (u.afterRecord old new busy).pendingFlags = none ∧ (u.afterRecord old new busy).directives = {} ∧
      (u.afterRecord old new busy).headAttempts = 0 := by
  simp only [afterRecord, recordEffect_resets resets]
  exact ⟨rfl, rfl, rfl, rfl, rfl, rfl, rfl, rfl⟩

theorem afterRecord_keeps (keeps : ¬old.Resets new) (enabled : old.enabled = true) :
    u.afterRecord old new busy =
      { u with
        superseded := u.superseded || busy
        headAttempts := if old.lane = new.lane then u.headAttempts else 0 } := by
  simp [afterRecord, recordEffect_keeps keeps, enabled]

end UnitRun

/-! ### Applied or staged (R27) -/

theorem State.laneClosed_iff (s : State) (k : LaneNo) : s.laneClosed k = true ↔ (s.lane k).phase = .closed := by
  simp [State.laneClosed]

theorem State.acceptUnit_applies {s : State} {n : SlotNo}
    (free : (s.record n).enabled = false ∨ (s.lane (s.record n).lane).phase = .closed) (r : UnitRecord)
    (received : List Byte) :
    s.acceptUnit n r received =
      (s.applyRecord n r).answer 1 (storedStatus received r.bytes) (byteOf n.val :: r.bytes) := by
  by_cases enabled : (s.record n).enabled = true
  · have closed : s.laneClosed (s.record n).lane = true :=
      (s.laneClosed_iff _).mpr (free.resolve_left (by simp [enabled]))
    simp [State.acceptUnit, State.currentLane, enabled, closed]
  · simp [State.acceptUnit, State.currentLane, enabled]

theorem State.acceptUnit_stages {s : State} {n : SlotNo} (enabled : (s.record n).enabled = true)
    (served : (s.lane (s.record n).lane).phase ≠ .closed) (r : UnitRecord) (received : List Byte) :
    s.acceptUnit n r received = (s.setEntry n ⟨s.record n, some r⟩).answer 1 .staged (byteOf n.val :: r.bytes) := by
  have unclosed : s.laneClosed (s.record n).lane = false := by rw [← Bool.not_eq_true, State.laneClosed_iff]; exact served
  simp [State.acceptUnit, State.currentLane, enabled, unclosed]

end Sys2Proof.Machine

namespace Sys2Proof.Proofs

open Sys2Proof.Machine

/-- Settles O32. -/
theorem loadUnitAppliesOrStages : Obligations.LoadUnitAppliesOrStages := by
  intro s n fields new latched good idle alone room old moved resets table
  have free : ¬s.namesBusyLane n new = true := by
    rw [State.namesBusyLane_iff]
    rintro ⟨enabled, other, served⟩
    exact served (idle enabled other)
  have fits : s.conflict n new = none := State.conflict_eq_none.mpr ⟨alone, room⟩
  have loads : exec .loadUnit s = .next (s.emptyLatch.acceptUnit n new fields).selectNew := by
    rw [loadUnit_of latched good, if_neg free, fits]
  have moved_iff : old.moved new = true ↔ moved := UnitRecord.moved_iff old new
  have resets_iff : old.Resets new ↔ resets := by rw [UnitRecord.Resets, moved_iff]
  refine ⟨fun applies => ?_, fun enabled served => ?_⟩
  · let u := (s.unit n).afterRecord old new (s.exchangeWith n)
    have status : (storedStatus fields new.bytes).code = if fields = new.bytes then 0 else 1 := by
      unfold storedStatus
      split <;> rfl
    let t : State :=
      { s.replied ([1, if fields = new.bytes then 0 else 1, byteOf n.val] ++ new.bytes) with
        tables := table ⟨new, none⟩, units := s.units.set n u }
    have own : t.unit n = u := s.unit_setUnit_same n u
    refine ⟨t, ?_, ?_⟩
    · rw [loads, State.acceptUnit_applies (s := s.emptyLatch) applies]
      simp only [t]
      rw [← status]
      rfl
    · rw [own]
      obtain ⟨e, c, lastAck, pendingAck, doubt, superseded⟩ :=
        (s.unit n).afterRecord_kept (old := old) (new := new) (s.exchangeWith n)
      have counters := (s.unit n).afterRecord_counters (old := old) (new := new) (s.exchangeWith n)
      refine ⟨rfl, fun changes => (s.unit n).afterRecord_resets _ (resets_iff.mpr changes), fun keeps enabled => ?_,
        fun moves => ?_, fun stays => ?_, e, c, lastAck, pendingAck, doubt, ?_⟩
      · have kept := (s.unit n).afterRecord_keeps (s.exchangeWith n) (fun changes => keeps (resets_iff.mp changes)) enabled
        rw [show u = _ from kept]
        exact ⟨rfl, rfl, rfl, rfl, rfl, rfl, fun same => if_pos same⟩
      · rw [counters, if_pos (moved_iff.mpr moves)]
      · rw [counters, if_neg fun moves => stays (moved_iff.mp moves)]
      · rw [superseded, Bool.or_eq_true]
  · rw [loads, State.acceptUnit_stages (s := s.emptyLatch) enabled served]
    rfl

end Sys2Proof.Proofs
end

section
/-! SUPPORT. Selections while an exchange ends: what they have to do with the slots' runtime records and the engines, and
what follows an alert that is raised (R13). -/

namespace Sys2Proof.Machine

/-! ### Runtime records and engines (R13) -/

/-- `s` with other runtime records of the slots and other engines. -/
def State.running (s : State) (units : Vector UnitRun 16) (engines : PerLine Engine) : State :=
  { s with units := units, engines := engines }

/-- A selection has nothing to do with the slots' runtime records and the engines. -/
theorem State.selectNew_running (s : State) (units : Vector UnitRun 16) (engines : PerLine Engine) :
    (s.running units engines).selectNew = s.selectNew.running units engines := by
  have candidates : (s.running units engines).candidates = s.candidates := State.candidates_congr rfl rfl rfl rfl rfl
  have select (src : Source) : (s.running units engines).select src = (s.select src).running units engines := by
    cases src <;> rfl
  have tx : (s.running units engines).link.tx = s.link.tx := rfl
  have anyOf (cs : List Source) : (s.running units engines).anyOf cs = s.anyOf cs := rfl
  unfold State.selectNew
  rw [tx, candidates]
  split
  · rfl
  · rfl
  · rfl
  · exact select _
  · simp only [anyOf, select]
    rfl

theorem State.atOnce_running (before s : State) (units units' : Vector UnitRun 16) (engines engines' : PerLine Engine) :
    (before.running units engines).atOnce (s.running units' engines') = (before.atOnce s).running units' engines' := by
  have candidates : (before.running units engines).candidates = before.candidates :=
    State.candidates_congr rfl rfl rfl rfl rfl
  unfold State.atOnce
  rw [candidates, State.selectNew_running]
  split <;> rfl

/-! ### An alert raised (R13, R139) -/

/-- What was no candidate is none after an alert was raised, but for that alert set. -/
theorem State.isCandidate_alerted {s : State} {k : LaneNo} {kind : Fin 8} {d1 d2 : Byte} {src : Source}
    (candidate : (s.alerted k kind d1 d2).isCandidate src = true) : src = .alerts k ∨ s.isCandidate src = true := by
  cases src with
  | reply => exact .inr candidate
  | notices => exact .inr candidate
  | events j => exact .inr candidate
  | alerts j =>
    by_cases same : j = k
    · exact .inl (same ▸ rfl)
    · have lane : (s.alerted k kind d1 d2).lane j = s.lane j := State.lane_setLane_other s _ same
      exact .inr (by rwa [State.isCandidate, lane] at candidate)

/-- An alert raised makes its set a candidate on a LIVE link. -/
theorem State.isCandidate_raised {s : State} {k : LaneNo} {kind : Fin 8} {d1 d2 : Byte} (live : s.link.state = .live) :
    (s.alerted k kind d1 d2).isCandidate (.alerts k) = true := by
  have lane : ((s.alerted k kind d1 d2).lane k).alerts =
      (s.lane k).alerts.set kind (some (raisedEntry (s.lane k).alerts[kind] d1 d2)) :=
    congrArg LaneRecord.alerts (State.lane_setLane_same s k _)
  have held : noneHeld ((s.alerted k kind d1 d2).lane k).alerts.toList = false := by
    rw [lane, noneHeld_toList]
    exact ⟨kind, by simp⟩
  rw [State.isCandidate, held]
  simpa [State.alerted] using live

/-- What an act does in the lanes is not selected before the act ends, once a frame is being sent or the link is QUIET. -/
theorem State.atOnce_told {before s : State} (reply : s.reply = before.reply) (notices : s.notices = before.notices)
    (held : before.candidates ≠ [] ∨ s.link.tx ≠ .idle ∨ s.link.state ≠ .live) : before.atOnce s = s := by
  by_cases none : before.candidates = []
  · rw [State.atOnce, if_pos none]
    rcases held with some | busy | quiet
    · exact absurd none some
    · rcases s.selectNew_cases with ⟨_, same⟩ | ⟨free, _⟩ | ⟨free, _⟩
      · exact same
      · exact absurd free busy
      · exact absurd free busy
    · have still : s.candidates = [] := by
        rw [List.eq_nil_iff_forall_not_mem] at none ⊢
        intro src mem
        rw [State.mem_candidates] at mem
        refine none src ((before.mem_candidates src).mpr ?_)
        cases src with
        | reply => rwa [State.isCandidate, reply] at mem
        | notices => rwa [State.isCandidate, notices] at mem
        | alerts k => simp [State.isCandidate, quiet] at mem
        | events k => simp [State.isCandidate, quiet] at mem
      rcases s.selectNew_cases with ⟨_, same⟩ | ⟨_, src, one, _⟩ | ⟨_, two, _⟩
      · exact same
      · rw [still] at one
        cases one
      · rw [still] at two
        cases two
  · exact State.atOnce_waits s none

/-- The alert set just raised is selected: it is empty then, and its frame is being sent. -/
theorem State.select_alerted (s : State) (k : LaneNo) (kind : Fin 8) (d1 d2 : Byte) :
    ∃ link : LinkPort, link.tx ≠ .idle ∧
      (s.alerted k kind d1 d2).select (.alerts k) =
        { s with lanes := s.lanes.set k { s.lane k with alerts := noAlerts }, link := link } := by
  have given : (s.alerted k kind d1 d2).giveUpItem (.alerts k) =
      { s with lanes := s.lanes.set k { s.lane k with alerts := noAlerts } } := by
    have lane := State.lane_setLane_same s k
      { s.lane k with alerts := (s.lane k).alerts.set kind (some (raisedEntry (s.lane k).alerts[kind] d1 d2)) }
    simp only [State.giveUpItem, State.alerted, State.setLane] at lane ⊢
    rw [lane, Vector.set_set]
  rw [State.select, given]
  exact ⟨_, by simp, rfl⟩

/-- An alert raised and selected at once changes its lane's alert set, the Link Port and the count of free choices; on a
LIVE link a frame is being sent then, unless something else was a candidate before. -/
theorem State.atOnce_alerted (s : State) (k : LaneNo) (kind : Fin 8) (d1 d2 : Byte) :
    ∃ alerts link choices,
      s.atOnce (s.alerted k kind d1 d2) =
        { s with lanes := s.lanes.set k { s.lane k with alerts := alerts }, link := link, choices := choices } ∧
      (s.candidates ≠ [] ∨ link.tx ≠ .idle ∨ link.state ≠ .live) := by
  by_cases held : s.candidates ≠ [] ∨ s.link.tx ≠ .idle ∨ s.link.state ≠ .live
  · exact ⟨_, _, _, State.atOnce_told (s := s.alerted k kind d1 d2) rfl rfl held, held⟩
  · simp only [not_or, not_not] at held
    obtain ⟨none, idle, live⟩ := held
    have some : (s.alerted k kind d1 d2).candidates ≠ [] :=
      List.ne_nil_of_mem ((State.mem_candidates _ _).mpr (State.isCandidate_raised live))
    obtain ⟨src, candidate, selected⟩ := State.selectNew_of_idle (s := s.alerted k kind d1 d2) idle some
    have won : src = .alerts k := by
      refine (State.isCandidate_alerted candidate).resolve_right fun before => ?_
      have mem := (s.mem_candidates src).mpr before
      rw [none] at mem
      cases mem
    subst won
    obtain ⟨link, sending, selection⟩ := s.select_alerted k kind d1 d2
    rw [State.atOnce, if_pos none]
    rcases selected with same | same <;> rw [same, selection]
    · exact ⟨_, _, _, rfl, .inr (.inl sending)⟩
    · exact ⟨_, _, _, rfl, .inr (.inl sending)⟩

end Sys2Proof.Machine
end

section
/-! SUPPORT. Exchanges that fail: what is counted, what becomes of the item carried, and where the engine goes on (R71,
R81, R82, R86, R96, R107, R108). -/

namespace Sys2Proof.Machine

@[simp] theorem State.setUnit_self (s : State) (n : SlotNo) : s.setUnit n (s.unit n) = s := by
  simp [State.setUnit, State.unit]

@[simp] theorem State.setUnit_setUnit (s : State) (n : SlotNo) (u v : UnitRun) :
    (s.setUnit n u).setUnit n v = s.setUnit n v := by
  simp [State.setUnit]

/-! ### The item carried (R81, R82) -/

/-- The runtime record of a slot once a failed exchange has tried its item: one attempt more where the item is still
pending, and doubt (R81, R82). -/
def State.tried (s : State) (x : Exchange) (u : UnitRun) : UnitRun :=
  match x.kind, x.item with
  | .command, some (.directive d serial) =>
    match u.directives.get d with
    | some p =>
      if p.serial = serial then
        { u with
          directives := u.directives.put d (some ⟨p.attempts + 1, serial⟩), doubt := some (.directive d serial) }
      else { u with doubt := some (.directive d serial) }
    | none => { u with doubt := some (.directive d serial) }
  | .command, some (.record k serial) =>
    if ((s.outQueue k).head?.map OutRecord.serial) = some serial then
      { u with headAttempts := u.headAttempts + 1, doubt := some (.record k serial) }
    else { u with doubt := some (.record k serial) }
  | _, _ => u

/-- A failed exchange makes the eighth attempt of a pending item (R81). -/
def State.EighthAttempt (s : State) (x : Exchange) : Prop :=
  match x.kind, x.item with
  | .command, some it => s.itemPending x.slot it = true ∧ 7 ≤ (s.unit x.slot).attempts it
  | _, _ => False

/-- What the settling of a slot's item reads is the same in two states. -/
structure State.SameItems (s t : State) (n : SlotNo) : Prop where
  outbound : t.outbound = s.outbound
  directives : (t.unit n).directives = (s.unit n).directives
  headAttempts : (t.unit n).headAttempts = (s.unit n).headAttempts

theorem State.SameItems.eighthAttempt {s t : State} {x : Exchange} (h : s.SameItems t x.slot) :
    t.EighthAttempt x ↔ s.EighthAttempt x := by
  obtain ⟨outbound, directives, headAttempts⟩ := h
  have pending (it : Item) : t.itemPending x.slot it = s.itemPending x.slot it := by
    cases it <;> simp only [State.itemPending, State.outQueue, outbound, directives]
  have attempts (it : Item) : (t.unit x.slot).attempts it = (s.unit x.slot).attempts it := by
    cases it <;> simp only [UnitRun.attempts, directives, headAttempts]
  simp only [State.EighthAttempt, pending, attempts]

theorem State.SameItems.tried {s t : State} {n : SlotNo} (h : s.SameItems t n) (x : Exchange) (u : UnitRun) :
    t.tried x u = s.tried x u := by
  have queues : t.outQueue = s.outQueue := by
    funext k
    rw [State.outQueue, State.outQueue, h.outbound]
  rw [State.tried, queues]
  rfl

theorem State.commandEnds_failed {s : State} {n : SlotNo} {it : Item} {o : ExchangeOutcome} (fails : o.isValid = false) :
    s.commandEnds n it o = (s.countAttempt n it).setDoubt n (some it) := by
  cases o with
  | valid r => cases fails
  | _ => rfl

/-- An outcome that is no success has no reply to handle (R71). -/
theorem State.outcomeReply_failed (s : State) {x : Exchange} {wasTrusted : Bool} {o : ExchangeOutcome}
    (fails : o.isValid = false) : s.outcomeReply x wasTrusted o = s := by
  cases o with
  | valid r => cases fails
  | _ => rfl

/-- An attempt before the eighth is counted where the item is still pending (R81). -/
theorem State.countAttempt_few {s : State} {n : SlotNo} {it : Item}
    (few : ¬(s.itemPending n it = true ∧ 7 ≤ (s.unit n).attempts it)) :
    s.countAttempt n it =
      s.setUnit n (if s.itemPending n it = true then (s.unit n).raiseAttempts it else s.unit n) := by
  unfold State.countAttempt
  split
  · next pending =>
    have room : (s.unit n).attempts it + 1 < Config.maxAttempts := by
      have under : ¬7 ≤ (s.unit n).attempts it := fun many => few ⟨pending, many⟩
      show _ < 8
      omega
    rw [if_pos room]
  · rw [State.setUnit_self]

theorem State.tried_command (s : State) {x : Exchange} (kind : x.kind = .command) {it : Item} (item : x.item = some it) :
    s.tried x (s.unit x.slot) =
      { (if s.itemPending x.slot it = true then (s.unit x.slot).raiseAttempts it else s.unit x.slot) with
        doubt := some it } := by
  cases it with
  | directive d serial =>
    cases held : (s.unit x.slot).directives.get d with
    | none => simp [State.tried, kind, item, State.itemPending, held]
    | some p =>
      by_cases same : p.serial = serial
      · simp [State.tried, kind, item, State.itemPending, held, same, UnitRun.raiseAttempts, UnitRun.attempts]
      · simp [State.tried, kind, item, State.itemPending, held, same]
  | record k serial =>
    cases held : (s.outQueue k).head? with
    | none => simp [State.tried, kind, item, State.itemPending, held]
    | some r =>
      by_cases same : r.serial = serial
      · simp [State.tried, kind, item, State.itemPending, held, same, UnitRun.raiseAttempts]
      · simp [State.tried, kind, item, State.itemPending, held, same]

/-- A failed exchange that carried no command item settles nothing (R71, R82). -/
theorem State.settleItems_uncommanded {s : State} {x : Exchange} {o : ExchangeOutcome} (fails : o.isValid = false)
    (other : x.kind ≠ .command) (wasTrusted : Bool) : s.settleItems x o wasTrusted = s := by
  unfold State.settleItems
  split
  case h_1 command _ => exact absurd command other
  case h_3 => cases fails
  case h_4 => cases fails
  all_goals rfl

/-- Step 2 of a failed exchange (R71). -/
theorem State.settleItems_failed {s : State} {x : Exchange} {o : ExchangeOutcome} (fails : o.isValid = false)
    (few : ¬s.EighthAttempt x) (wasTrusted : Bool) :
    s.settleItems x o wasTrusted = s.setUnit x.slot (s.tried x (s.unit x.slot)) := by
  by_cases kind : x.kind = .command
  · cases item : x.item with
    | none => simp [State.settleItems, State.tried, kind, item]
    | some it =>
      have under : ¬(s.itemPending x.slot it = true ∧ 7 ≤ (s.unit x.slot).attempts it) := by
        simpa only [State.EighthAttempt, kind, item] using few
      simp only [State.settleItems, kind, item]
      rw [State.commandEnds_failed fails, State.countAttempt_few under, s.tried_command kind item]
      simp [State.setDoubt]
  · have untried : s.tried x (s.unit x.slot) = s.unit x.slot := by
      unfold State.tried
      split
      · next command _ => exact absurd command kind
      · next command _ => exact absurd command kind
      · rfl
    rw [State.settleItems_uncommanded fails kind, untried, State.setUnit_self]

/-! ### Presence (R105, R107 to R109) -/

/-- The runtime record of a slot after a failure that does not make it LOST. -/
def UnitRun.missed (u : UnitRun) (counters : SlotCounters) : UnitRun :=
  match u.presence with
  | .locked => { u with counters := counters, presence := .faltering, fail := 1 }
  | .faltering => { u with counters := counters, fail := u.fail + 1 }
  | .seeking => { u with counters := counters, confirm := 0 }
  | .lost => { u with counters := counters }
  | .disabled => { u with counters := counters }

/-- The runtime record of a slot that becomes LOST (R108). -/
def UnitRun.gone (u : UnitRun) (counters : SlotCounters) : UnitRun :=
  { u with presence := .lost, fail := 0, returning := true, counters := counters }

theorem State.outcomePresence_missed {s : State} {n : SlotNo} {kind : TelegramKind} {o : ExchangeOutcome}
    (fails : o.isValid = false) (standing : ¬((s.unit n).presence = .faltering ∧ 2 ≤ (s.unit n).fail)) :
    s.outcomePresence n kind o = s.setUnit n ((s.unit n).missed ((s.unit n).counters.count o)) := by
  simp only [State.outcomePresence, fails, State.presenceFailed, State.countOutcome, State.unit_setUnit_same]
  cases presence : (s.unit n).presence with
  | faltering =>
    have few : (s.unit n).fail < 2 := by
      by_contra many
      exact standing ⟨presence, by omega⟩
    simp [UnitRun.missed, presence, few]
  | locked => simp [UnitRun.missed, presence]
  | seeking => simp [UnitRun.missed, presence]
  | lost => simp [UnitRun.missed, presence]
  | disabled => simp [UnitRun.missed, presence]

theorem State.outcomePresence_gone {s : State} {n : SlotNo} {kind : TelegramKind} {o : ExchangeOutcome}
    (fails : o.isValid = false) (faltering : (s.unit n).presence = .faltering) (many : 2 ≤ (s.unit n).fail) :
    s.outcomePresence n kind o =
      if (s.record n).enabled = true then
        (s.setUnit n ((s.unit n).gone ((s.unit n).counters.count o))).laneUnitLost (s.record n).lane n
      else s.setUnit n ((s.unit n).gone ((s.unit n).counters.count o)) := by
  have third : ¬(s.unit n).fail < 2 := by omega
  simp only [State.outcomePresence, fails, State.presenceFailed, State.countOutcome, State.unit_setUnit_same, faltering,
    third, State.loseUnit, State.setUnit_setUnit, State.currentLane, State.record_setUnit]
  by_cases enabled : (s.record n).enabled = true
  · simp [enabled, UnitRun.gone]
  · simp [enabled, UnitRun.gone]

/-! ### The engine (R65, R86, R96) -/

/-- The engine with its exchange gone. -/
def Engine.freed (e : Engine) (after : XState) : Engine :=
  { e with exchange := none, received := [], conflicts := 0, xstate := after }

/-- The engine after a failure: a run ends, and the pointer moves past an entry that is done with, or to the end of a new
ring. -/
def Engine.failedRun (e : Engine) (ringLength : Nat) : Engine :=
  let moves : Bool := match e.run with | none => decide (e.stage = .ring) | some r => r.atEntry
  { e with
    run := none
    due := if e.run = none then e.due else none
    ringPtr := if moves then (if e.cut then ringLength else e.ringPtr + 1) else e.ringPtr }

theorem State.settleRun_failed (s : State) (l : Line) (n : SlotNo) :
    s.settleRun l n true = s.setEngine l ((s.engine l).failedRun (s.ring l).length) := by
  cases run : (s.engine l).run with
  | none =>
    have still : { s.engine l with run := none } = s.engine l := by rw [← run]
    by_cases stage : (s.engine l).stage = .ring
    · simp [State.settleRun, Engine.failedRun, run, stage, State.passEntry]
    · simp [State.settleRun, Engine.failedRun, run, stage, still]
  | some r =>
    cases entry : r.atEntry <;>
      simp [State.settleRun, State.endRun, State.passEntry, Engine.failedRun, run, entry, State.setEngine_setEngine]

end Sys2Proof.Machine
end

section
/-! SUPPORT. The whole of a failed exchange, and what a slot's loss means for its lane (R71, R108, R143, R144). -/

namespace Sys2Proof.Machine

/-! ### The three steps of a failed exchange (R71) -/

/-- `t` is `s` once step 1 of the outcome of an exchange of line `l` is done: the line, its ring and the slot's item are as
they were, and nothing that step 1 or 2 made a candidate is selected any more before the act ends. -/
structure State.Settling (s t : State) (l : Line) (n : SlotNo) : Prop where
  engine : t.engine l = s.engine l
  ring : t.ring l = s.ring l
  items : s.SameItems t n
  settled : ∀ u, s.atOnce (t.setUnit n u) = t.setUnit n u

theorem State.handleOutcome_failed {s t : State} {l : Line} {x : Exchange} {o : ExchangeOutcome} (fails : o.isValid = false)
    (few : ¬s.EighthAttempt x) (presence : s.outcomePresence x.slot x.kind o = t) (h : s.Settling t l x.slot) :
    s.handleOutcome x o = t.setUnit x.slot (s.tried x (t.unit x.slot)) := by
  have unselected : s.atOnce t = t := by simpa using h.settled (t.unit x.slot)
  have settles : s.outcomeSettled x o = t.setUnit x.slot (s.tried x (t.unit x.slot)) := by
    rw [State.outcomeSettled, presence, unselected,
      State.settleItems_failed fails (fun eighth => few (h.items.eighthAttempt.mp eighth)), h.items.tried]
  rw [State.handleOutcome, State.outcomeReply_failed _ fails, settles, h.settled]

/-- An exchange ends with a failure that is handled (R71, R86, R96). -/
theorem State.endExchange_failed {s t : State} {l : Line} {x : Exchange} {o : ExchangeOutcome} {after : XState}
    (fails : o.isValid = false) (new : (s.unit x.slot).superseded = false) (few : ¬s.EighthAttempt x)
    (presence : (s.setEngine l ((s.engine l).freed after)).outcomePresence x.slot x.kind o = t)
    (h : (s.setEngine l ((s.engine l).freed after)).Settling t l x.slot) :
    s.endExchange l x o after =
      (t.setUnit x.slot (s.tried x (t.unit x.slot))).setEngine l
        (((s.engine l).freed after).failedRun (s.ring l).length) := by
  have handled := State.handleOutcome_failed (s := s.setEngine l ((s.engine l).freed after)) fails few presence h
  have given : (s.setEngine l ((s.engine l).freed after)).giveOutcome x o = t.setUnit x.slot (s.tried x (t.unit x.slot)) := by
    rw [State.giveOutcome, if_neg (by simp [new]), handled]
    rfl
  have engine : (t.setUnit x.slot (s.tried x (t.unit x.slot))).engine l = (s.engine l).freed after := by
    rw [State.engine_setUnit, h.engine, State.engine_setEngine_same]
  have ring : (t.setUnit x.slot (s.tried x (t.unit x.slot))).ring l = s.ring l := h.ring
  have failed : ((s.unit x.slot).superseded || !o.isValid) = true := by rw [fails, new]; rfl
  show ((s.setEngine l ((s.engine l).freed after)).giveOutcome x o).settleRun l x.slot _ = _
  rw [failed, given, State.settleRun_failed, engine, ring]

/-- An exchange ends during which a record was applied to its slot: the outcome is discarded (R28). -/
theorem State.endExchange_superseded {s : State} {l : Line} {x : Exchange} {o : ExchangeOutcome} {after : XState}
    (applied : (s.unit x.slot).superseded = true) :
    s.endExchange l x o after =
      (s.setUnit x.slot { s.unit x.slot with superseded := false }).setEngine l
        (((s.engine l).freed after).failedRun (s.ring l).length) := by
  let t := (s.setEngine l ((s.engine l).freed after)).setUnit x.slot { s.unit x.slot with superseded := false }
  have given : (s.setEngine l ((s.engine l).freed after)).giveOutcome x o = t := by
    rw [State.giveOutcome, if_pos (by simp [applied])]
    rfl
  have engine : t.engine l = (s.engine l).freed after := State.engine_setEngine_same _ _ _
  have ring : t.ring l = s.ring l := rfl
  have failed : ((s.unit x.slot).superseded || !o.isValid) = true := by rw [applied]; rfl
  show ((s.setEngine l ((s.engine l).freed after)).giveOutcome x o).settleRun l x.slot _ = _
  rw [failed, given, State.settleRun_failed, engine, ring]
  simp only [t, State.setEngine, State.setUnit, PerLine.set_set]

/-- A change of a slot's runtime record alone makes no candidate. -/
theorem State.atOnce_setUnit (s : State) (n : SlotNo) (u : UnitRun) : s.atOnce (s.setUnit n u) = s.setUnit n u :=
  State.atOnce_same (State.candidates_congr rfl rfl rfl rfl rfl)

theorem State.settling_setUnit {s : State} {l : Line} {n : SlotNo} {u : UnitRun}
    (directives : u.directives = (s.unit n).directives) (headAttempts : u.headAttempts = (s.unit n).headAttempts) :
    s.Settling (s.setUnit n u) l n where
  engine := rfl
  ring := rfl
  items := ⟨rfl, by simpa using directives, by simpa using headAttempts⟩
  settled v := by rw [State.setUnit_setUnit, State.atOnce_setUnit]

/-! ### A slot's loss in its lane (R108, R143, R144) -/

theorem moveConfirm_waive (n : SlotNo) (confirms : List (SlotNo × Confirmation)) :
    moveConfirm n .waive confirms =
      confirms.map fun c => if c.1 = n ∧ c.2 ≠ .confirmed then (n, Confirmation.waived) else c := by
  rw [moveConfirm]
  congr 1
  funext c
  obtain ⟨m, state⟩ := c
  by_cases own : m = n
  · cases state <;> simp [own, Confirmation.waive]
  · simp [own]

/-- A confirmation still waits after a slot's is waived exactly where another slot's waits. -/
theorem moveConfirm_waits (n : SlotNo) (r : LaneRecord) :
    ((moveConfirm n .waive r.confirms).any fun c => c.2.waits) = true ↔ r.WaitsForOther n := by
  have waits (c : Confirmation) : c.waits = true ↔ c ≠ .confirmed ∧ c ≠ .waived := by cases c <;> simp [Confirmation.waits]
  have own (c : Confirmation) : c.waive.waits = false := by cases c <;> rfl
  simp only [moveConfirm, List.any_map, List.any_eq_true, LaneRecord.WaitsForOther]
  refine exists_congr fun c => and_congr_right fun _ => ?_
  by_cases same : c.1 = n
  · simp [same, own]
  · simp [same, waits]

/-- A lane is told, where its phase calls for it, that a slot of it is LOST (R108). -/
def State.laneLoss (s : State) (k : LaneNo) (n : SlotNo) : State :=
  match (s.lane k).phase with
  | .opening => s.faultLane k .unitLost
  | .opened => s.faultLane k .unitLost
  | .closing => s.confirmMove k n .waive
  | .faulted => s
  | .closed => s

/-- What a lane does about a slot's loss leaves the lines, the other sources, the outbound queues and the slot alone. -/
structure State.LosesIn (s t : State) (l : Line) (n : SlotNo) : Prop where
  link : t.link = s.link
  reply : t.reply = s.reply
  notices : t.notices = s.notices
  outbound : t.outbound = s.outbound
  engine : t.engine l = s.engine l
  ring : t.ring l = s.ring l
  unit : t.unit n = s.unit n

/-- The part with UNIT_LOST raised, and selected where that is at once, and other runtime records and engines (R108, R13). -/
def State.toldLost (s : State) (n : SlotNo) (units : Vector UnitRun 16) (engines : PerLine Engine) : State :=
  (s.atOnce (s.alerted (s.record n).lane 0 (s.record n).kind.role 0)).running units engines

theorem State.toldLost_eq (s : State) (n : SlotNo) (units : Vector UnitRun 16) (engines : PerLine Engine) :
    ∃ alerts link choices,
      s.toldLost n units engines =
        { s with
          lanes := s.lanes.set (s.record n).lane { s.lane (s.record n).lane with alerts := alerts }
          link := link, choices := choices, units := units, engines := engines } ∧
      (s.candidates ≠ [] ∨ link.tx ≠ .idle ∨ link.state ≠ .live) := by
  obtain ⟨alerts, link, choices, told, held⟩ := s.atOnce_alerted (s.record n).lane 0 (s.record n).kind.role 0
  refine ⟨alerts, link, choices, ?_, held⟩
  rw [State.toldLost, told]
  rfl

theorem State.toldLost_lane (s : State) (n : SlotNo) (units : Vector UnitRun 16) (engines : PerLine Engine) :
    ∃ alerts, (s.toldLost n units engines).lane (s.record n).lane =
      { s.lane (s.record n).lane with alerts := alerts } := by
  obtain ⟨alerts, link, choices, same, _⟩ := s.toldLost_eq n units engines
  refine ⟨alerts, ?_⟩
  rw [same]
  simp [State.lane]

theorem State.laneUnitLost_running (s : State) (n : SlotNo) (units : Vector UnitRun 16) (engines : PerLine Engine) :
    (s.running units engines).laneUnitLost (s.record n).lane n =
      (s.toldLost n units engines).laneLoss (s.record n).lane n := by
  have told : (s.running units engines).atOnce
        ((s.running units engines).raiseAlert (s.record n).lane .unitLost (s.record n).kind.role 0) =
      s.toldLost n units engines :=
    s.atOnce_running (s.alerted (s.record n).lane 0 (s.record n).kind.role 0) units units engines engines
  have phase : ((s.toldLost n units engines).lane (s.record n).lane).phase = (s.lane (s.record n).lane).phase := by
    obtain ⟨alerts, same⟩ := s.toldLost_lane n units engines
    rw [same]
  have record : (s.running units engines).record n = s.record n := rfl
  have lane : ((s.running units engines).lane (s.record n).lane).phase = (s.lane (s.record n).lane).phase := rfl
  cases at_phase : (s.lane (s.record n).lane).phase <;>
    simp only [State.laneUnitLost, State.laneLoss, record, told, phase, lane, at_phase]

/-- The exchange fails for the third time in a row, and the slot is LOST (R108): what its lane does about that is done
before the item is settled and the engine goes on. -/
theorem State.endExchange_lost {s t : State} {l : Line} {x : Exchange} {o : ExchangeOutcome} {after : XState}
    (fails : o.isValid = false) (new : (s.unit x.slot).superseded = false) (few : ¬s.EighthAttempt x)
    (faltering : (s.unit x.slot).presence = .faltering) (many : 2 ≤ (s.unit x.slot).fail)
    (enabled : (s.record x.slot).enabled = true)
    (lost : State.laneLoss (s.toldLost x.slot
      (s.units.set x.slot ((s.unit x.slot).gone ((s.unit x.slot).counters.count o)))
      (s.engines.set l ((s.engine l).freed after))) (s.record x.slot).lane x.slot = t)
    (h : State.LosesIn (s.toldLost x.slot
      (s.units.set x.slot ((s.unit x.slot).gone ((s.unit x.slot).counters.count o)))
      (s.engines.set l ((s.engine l).freed after))) t l x.slot) :
    s.endExchange l x o after =
      (t.setUnit x.slot (s.tried x ((s.unit x.slot).gone ((s.unit x.slot).counters.count o)))).setEngine l
        (((s.engine l).freed after).failedRun (s.ring l).length) := by
  have presence : (s.setEngine l ((s.engine l).freed after)).outcomePresence x.slot x.kind o = t := by
    rw [State.outcomePresence_gone fails (by exact faltering) (by exact many), if_pos (by exact enabled), ← lost,
      ← State.laneUnitLost_running]
    rfl
  obtain ⟨alerts, link, choices, told, held⟩ := s.toldLost_eq x.slot
    (s.units.set x.slot ((s.unit x.slot).gone ((s.unit x.slot).counters.count o)))
    (s.engines.set l ((s.engine l).freed after))
  have unit : t.unit x.slot = (s.unit x.slot).gone ((s.unit x.slot).counters.count o) := by
    rw [h.unit, told]
    exact State.unit_setUnit_same s _ _
  rw [← unit]
  refine State.endExchange_failed fails new few presence
    ⟨?_, ?_, ⟨?_, ?_, ?_⟩, fun u => State.atOnce_told ?_ ?_ ?_⟩
  · rw [h.engine, told]
    rfl
  · rw [h.ring, told]
    rfl
  · rw [h.outbound, told]
    rfl
  · rw [unit]
    rfl
  · rw [unit]
    rfl
  · show t.reply = _
    rw [h.reply, told]
    rfl
  · show t.notices = _
    rw [h.notices, told]
    rfl
  · have same : (s.setEngine l ((s.engine l).freed after)).candidates = s.candidates :=
      State.candidates_congr rfl rfl rfl rfl rfl
    rw [same, State.setUnit_link, h.link, told]
    exact held

end Sys2Proof.Machine
end

section
/-! SUPPORT. What a lane does about a slot's loss, said in the words of the obligations (R108, R143, R144, R146). -/

namespace Sys2Proof.Machine

/-! ### A fault (R146) -/

/-- The directive is held already, or the slot is DISABLED: setting it changes nothing (R113). -/
def State.SkipsDirective (s : State) (m : SlotNo) (d : Directive) : Prop :=
  (s.unit m).presence = .disabled ∨ (s.unit m).directives.join d ⟨0, s.serial⟩ = (s.unit m).directives

theorem State.setDirective_of_skips {s : State} {m : SlotNo} {d : Directive} (skips : s.SkipsDirective m d) :
    s.setDirective m d = s := if_pos skips

theorem State.setDirective_of_sets {s : State} {m : SlotNo} {d : Directive} (sets : ¬s.SkipsDirective m d) :
    s.setDirective m d =
      { s.setUnit m { s.unit m with directives := (s.unit m).directives.join d ⟨0, s.serial⟩ } with
        serial := s.serial + 1 } := if_neg sets

/-- A directive set for a slot has nothing to do with the lanes. -/
theorem State.setDirective_setLane (s : State) (m : SlotNo) (d : Directive) (k : LaneNo) (r : LaneRecord) :
    (s.setLane k r).setDirective m d = (s.setDirective m d).setLane k r := by
  by_cases skips : s.SkipsDirective m d
  · rw [State.setDirective_of_skips skips, State.setDirective_of_skips (s := s.setLane k r) skips]
  · rw [State.setDirective_of_sets skips, State.setDirective_of_sets (s := s.setLane k r) skips]
    rfl

theorem State.setDirective_lane (s : State) (m : SlotNo) (d : Directive) (k : LaneNo) :
    (s.setDirective m d).lane k = s.lane k := by
  by_cases skips : s.SkipsDirective m d
  · rw [State.setDirective_of_skips skips]
  · rw [State.setDirective_of_sets skips]
    rfl

/-- A directive set for a slot has nothing to do with another slot's record and the engines. -/
theorem State.setDirective_setUnit {s : State} {m n : SlotNo} (other : m ≠ n) (d : Directive) (u : UnitRun) (l : Line)
    (e : Engine) :
    ((s.setUnit n u).setEngine l e).setDirective m d = ((s.setDirective m d).setUnit n u).setEngine l e := by
  have unit : ((s.setUnit n u).setEngine l e).unit m = s.unit m := State.unit_setUnit_other s u other
  by_cases skips : s.SkipsDirective m d
  · rw [State.setDirective_of_skips skips,
      State.setDirective_of_skips (by rw [State.SkipsDirective, unit]; exact skips)]
  · rw [State.setDirective_of_sets skips,
      State.setDirective_of_sets (by rw [State.SkipsDirective, unit]; exact skips), unit]
    simp only [State.setUnit, State.setEngine, Vector.set_comm _ _ (Fin.val_ne_of_ne other)]

/-- The lane record of a lane that has just become FAULTED, but for its alert (R146). -/
def LaneRecord.faulted (r : LaneRecord) (decision : Option CardDecision) : LaneRecord :=
  { r with
    phase := .faulted, standby := false, wakeMarks := [], confirms := [], window := none, assembly := none
    decision := decision, pinShadow := false }

theorem State.raiseFault (s : State) (k : LaneNo) (reason : FaultReason) :
    (s.setLane k ((s.lane k).faulted none)).raiseAlert k .laneFault reason.code 0 = s.faultedFor k reason.code := by
  simp [State.raiseAlert, State.faultedFor, State.setLane, State.lane, LaneRecord.faulted, AlertSet.raise, AlertKind.ix]

theorem State.enterFaulted_eq (s : State) (k : LaneNo) :
    s.enterFaulted k = (s.setLane k ((s.lane k).faulted (s.lane k).decision)).faultDecision k := rfl

/-- A lane without a reader is FAULTED whether or not it holds a decision (R146). -/
theorem State.faultLane_of_noReader {s : State} {k : LaneNo} (none : s.readerOf k = none) (reason : FaultReason) :
    s.faultLane k reason = s.faultedFor k reason.code := by
  by_cases undecided : (s.lane k).decision = Option.none
  · exact State.faultLane_of_none undecided reason
  · have held : ((s.setLane k ((s.lane k).faulted (s.lane k).decision)).lane k).decision.isNone = false := by
      rw [State.lane_setLane_same]
      exact Option.isNone_eq_false_iff.mpr (Option.isSome_iff_ne_none.mpr undecided)
    have reader : (s.setLane k ((s.lane k).faulted (s.lane k).decision)).readerOf k = Option.none := none
    have dropped : s.enterFaulted k = s.setLane k ((s.lane k).faulted Option.none) := by
      rw [State.enterFaulted_eq, State.faultDecision, held, reader]
      simp [State.dropDecision, State.setLane, State.lane, LaneRecord.faulted]
    rw [State.faultLane, dropped, State.raiseFault]

/-- A lane that holds a decision is FAULTED with EJECT set for its reader, where that is trusted (R146). -/
theorem State.faultLane_of_reader {s : State} {k : LaneNo} {m : SlotNo} (decided : (s.lane k).decision ≠ none)
    (reader : s.readerOf k = some m) (reason : FaultReason) :
    s.faultLane k reason =
      (if s.trusted m = true then s.setDirective m .eject else s).faultedFor k reason.code := by
  have held : ((s.setLane k ((s.lane k).faulted (s.lane k).decision)).lane k).decision.isNone = false := by
    rw [State.lane_setLane_same]
    exact Option.isNone_eq_false_iff.mpr (Option.isSome_iff_ne_none.mpr decided)
  have own : (s.setLane k ((s.lane k).faulted (s.lane k).decision)).readerOf k = some m := reader
  have dropped : (s.setLane k ((s.lane k).faulted (s.lane k).decision)).dropDecision k =
      s.setLane k ((s.lane k).faulted none) := by
    simp [State.dropDecision, State.setLane, State.lane, LaneRecord.faulted]
  have trusts : (s.setLane k ((s.lane k).faulted (s.lane k).decision)).trusted m = s.trusted m := rfl
  rw [State.faultLane, State.enterFaulted_eq, State.faultDecision, held, own]
  simp only [dropped, trusts, Bool.false_eq_true, if_false]
  by_cases trusted : s.trusted m = true
  · rw [if_pos trusted, if_pos trusted, State.setDirective_setLane, ← State.setDirective_lane s m .eject k, State.raiseFault]
  · rw [if_neg trusted, if_neg trusted, State.raiseFault]

/-! ### A closing (R143, R144) -/

theorem State.applyAllStaged_of_none {s : State} (none : s.NoneStaged) : s.applyAllStaged = s := by
  obtain ⟨units, same, keeps⟩ := s.applyAllStaged_eq
  have kept : units = s.units := by
    ext1 i inside
    exact keeps ⟨i, inside⟩ (none ⟨i, inside⟩)
  have entries : Vector.ofFn s.settledEntry = s.tables.units := by
    ext1 i inside
    rw [Vector.getElem_ofFn]
    rcases s.settledEntry_cases ⟨i, inside⟩ with ⟨still, _⟩ | ⟨r, staged, _⟩
    · exact still
    · rw [none] at staged
      cases staged
  rw [same, kept, entries]

/-- The closing goes on while another slot's confirmation waits (R143). -/
theorem State.confirmMove_waits {s : State} {k : LaneNo} {n : SlotNo} (closing : (s.lane k).phase = .closing)
    (waits : (s.lane k).WaitsForOther n) : s.confirmMove k n .waive = s.waivedFor k n := by
  have still := (moveConfirm_waits n (s.lane k)).mpr waits
  rw [State.confirmMove, if_pos closing, State.checkClosing, State.lane_setLane_same, if_neg (by simp only [still]; simp),
    moveConfirm_waive]
  rfl

/-- The closing ends with its CLOSED record stored, where no staged record waits (R144). -/
theorem State.endClosing_stored {s : State} {k : LaneNo} (none : s.NoneStaged) (fits : s.inFits k 4 = true) :
    s.endClosing k = s.closedFor k := by
  let r : LaneRecord := { s.lane k with phase := .closed, confirms := [] }
  have written : ((s.setLane k r).writeInternal k .closed []).1 =
      (s.setLane k r).storeIn k [4, 2, hiByte (s.lane k).tag, loByte (s.lane k).tag] := by
    have record : eventRecord .closed ((s.setLane k r).lane k).tag [] =
        [4, 2, hiByte (s.lane k).tag, loByte (s.lane k).tag] := by
      rw [State.lane_setLane_same]
      rfl
    rw [State.writeInternal, record, if_pos (by exact fits)]
  have ended : s.endClosing k =
      (((s.setLane k r).storeIn k [4, 2, hiByte (s.lane k).tag, loByte (s.lane k).tag]).setLane k
        { r with tag := 0 }).applyAllStaged := by
    rw [State.endClosing]
    simp only [r] at written ⊢
    rw [written]
    simp [State.storeIn]
  rw [ended, State.applyAllStaged_of_none (by exact none)]
  simp [State.closedFor, State.storeIn, State.setLane, State.setInQueue, State.inQueue, r]

/-- The closing ends with the last confirmation waived (R144). -/
theorem State.confirmMove_closes {s : State} {k : LaneNo} {n : SlotNo} (closing : (s.lane k).phase = .closing)
    (last : ¬(s.lane k).WaitsForOther n) (none : s.NoneStaged) (fits : s.inFits k 4 = true) :
    s.confirmMove k n .waive = s.closedFor k := by
  have done : ((moveConfirm n .waive (s.lane k).confirms).any fun c => c.2.waits) = false := by
    rw [← Bool.not_eq_true, moveConfirm_waits]
    exact last
  rw [State.confirmMove, if_pos closing, State.checkClosing, State.lane_setLane_same, if_pos ⟨closing, done⟩,
    State.endClosing_stored (by exact none) (by exact fits)]
  simp [State.closedFor, State.setLane, State.lane, State.inQueue]

end Sys2Proof.Machine
end

section
/-! SUPPORT. Exchanges without a complete reply (R66, R68, R70). -/

namespace Sys2Proof.Machine

/-! ### The slot is told LOST, then the item is settled (R108) -/

/-- The part told that a slot is LOST, with the slot's record and the engine replaced afterwards. -/
theorem State.toldLost_settled (s : State) (n : SlotNo) (l : Line) (v w : UnitRun) (d e : Engine) :
    ((s.toldLost n (s.units.set n v) (s.engines.set l d)).setUnit n w).setEngine l e =
      s.toldLost n (s.units.set n w) (s.engines.set l e) := by
  simp [State.toldLost, State.running, State.setUnit, State.setEngine]

/-- A slot's record and the engine replaced a second time. -/
theorem State.setUnit_settled (s : State) (n : SlotNo) (l : Line) (v w : UnitRun) (d e : Engine) :
    (((s.setEngine l d).setUnit n v).setUnit n w).setEngine l e = (s.setUnit n w).setEngine l e := by
  simp [State.setUnit, State.setEngine]

/-- What `toldLost` leaves as it was. -/
theorem State.toldLost_frame (s : State) (n : SlotNo) (units : Vector UnitRun 16) (engines : PerLine Engine) :
    (s.toldLost n units engines).tables = s.tables ∧ (s.toldLost n units engines).inbound = s.inbound := by
  obtain ⟨alerts, link, choices, same, _⟩ := s.toldLost_eq n units engines
  rw [same]
  exact ⟨rfl, rfl⟩

theorem State.tried_presence (s : State) (x : Exchange) (u : UnitRun) : (s.tried x u).presence = u.presence := by
  unfold State.tried
  split
  · split
    · split <;> rfl
    · rfl
  · split <;> rfl
  · rfl

/-! ### What a lane reads -/

theorem State.readerOf_congr {s t : State} (tables : t.tables = s.tables) (k : LaneNo) : t.readerOf k = s.readerOf k := by
  have record (m : SlotNo) : t.record m = s.record m := by rw [State.record, tables]; rfl
  have bound : t.bound k = s.bound k := by
    funext m
    rw [State.bound, record]
    rfl
  simp only [State.readerOf, State.boundSlots, record, bound]

theorem State.inFits_congr {s t : State} (tables : t.tables = s.tables) (inbound : t.inbound = s.inbound) (k : LaneNo)
    (size : Nat) : t.inFits k size = s.inFits k size := by
  have queues : t.inQueue = s.inQueue := by
    funext j
    rw [State.inQueue, State.inQueue, inbound]
  rw [State.inFits, State.inCapacity, State.inOccupancy, tables, queues]
  rfl

/-! ### A slot's loss in its lane, by the lane's phase (R108) -/

/-- What a lane does about a slot's loss, the slot's record and the engine replaced after it, makes `t`. -/
structure State.EndsLoss (s : State) (k : LaneNo) (l : Line) (n : SlotNo) (u : UnitRun) (e : Engine) (t : State) : Prop where
  loses : s.LosesIn (s.laneLoss k n) l n
  settled : ((s.laneLoss k n).setUnit n u).setEngine l e = t

section

variable {s : State} {k : LaneNo} {l : Line} {n : SlotNo} {u : UnitRun} {e : Engine}

theorem State.losesIn_self : s.LosesIn s l n := ⟨rfl, rfl, rfl, rfl, rfl, rfl, rfl⟩

theorem State.losesIn_setDirective {m : SlotNo} (other : n ≠ m) (d : Directive) : s.LosesIn (s.setDirective m d) l n := by
  by_cases skips : s.SkipsDirective m d
  · rw [State.setDirective_of_skips skips]
    exact State.losesIn_self
  · rw [State.setDirective_of_sets skips]
    exact ⟨rfl, rfl, rfl, rfl, rfl, rfl, State.unit_setUnit_other s _ other⟩

theorem State.endsLoss_still (h : (s.lane k).phase = .closed ∨ (s.lane k).phase = .faulted) :
    s.EndsLoss k l n u e ((s.setUnit n u).setEngine l e) := by
  have still : s.laneLoss k n = s := by rcases h with phase | phase <;> simp only [State.laneLoss, phase]
  exact ⟨by rw [still]; exact State.losesIn_self, by rw [still]⟩

theorem State.laneLoss_served (n : SlotNo) (h : (s.lane k).phase = .opening ∨ (s.lane k).phase = .opened) :
    s.laneLoss k n = s.faultLane k .unitLost := by
  rcases h with phase | phase <;> simp only [State.laneLoss, phase]

theorem State.endsLoss_unread (h : (s.lane k).phase = .opening ∨ (s.lane k).phase = .opened)
    (unread : (s.lane k).decision = none ∨ s.readerOf k = none) :
    s.EndsLoss k l n u e (((s.setUnit n u).setEngine l e).faultedFor k 1) := by
  have faults : s.laneLoss k n = s.faultedFor k 1 := by
    rw [State.laneLoss_served n h]
    rcases unread with undecided | readerless
    · exact State.faultLane_of_none undecided .unitLost
    · exact State.faultLane_of_noReader readerless .unitLost
  exact ⟨by rw [faults]; exact ⟨rfl, rfl, rfl, rfl, rfl, rfl, rfl⟩, by rw [faults]; rfl⟩

/-- The slot that is LOST gets no EJECT: a decision's reader does, where it is another slot (R146). -/
theorem State.endsLoss_decided (h : (s.lane k).phase = .opening ∨ (s.lane k).phase = .opened)
    (decided : (s.lane k).decision ≠ none) {m : SlotNo} (reader : s.readerOf k = some m)
    (lost : s.trusted n = false) (stays : u.presence.trusted = false) :
    s.EndsLoss k l n u e
      (State.faultedFor (if ((s.setUnit n u).setEngine l e).trusted m = true then
        ((s.setUnit n u).setEngine l e).setDirective m .eject else (s.setUnit n u).setEngine l e) k 1) := by
  have faults : s.laneLoss k n = (if s.trusted m = true then s.setDirective m .eject else s).faultedFor k 1 := by
    rw [State.laneLoss_served n h]
    exact State.faultLane_of_reader decided reader .unitLost
  by_cases trusted : s.trusted m = true
  · have other : n ≠ m := by
      rintro rfl
      rw [lost] at trusted
      cases trusted
    have same : ((s.setUnit n u).setEngine l e).trusted m = true := by
      rw [← trusted]
      exact congrArg (fun v : UnitRun => v.presence.trusted) (State.unit_setUnit_other s u other.symm)
    rw [if_pos trusted] at faults
    rw [if_pos same, State.setDirective_setUnit other.symm]
    have loses : s.LosesIn (s.setDirective m .eject) l n := State.losesIn_setDirective other _
    exact ⟨by rw [faults]; exact { loses with }, by rw [faults]; rfl⟩
  · have same : ¬((s.setUnit n u).setEngine l e).trusted m = true := by
      by_cases own : m = n
      · subst own
        have record : ((s.setUnit m u).setEngine l e).unit m = u := State.unit_setUnit_same s m u
        rw [State.trusted, record, stays]
        exact Bool.false_ne_true
      · have record : ((s.setUnit n u).setEngine l e).unit m = s.unit m := State.unit_setUnit_other s u own
        rw [State.trusted, record]
        exact trusted
    rw [if_neg trusted] at faults
    rw [if_neg same]
    exact ⟨by rw [faults]; exact ⟨rfl, rfl, rfl, rfl, rfl, rfl, rfl⟩, by rw [faults]; rfl⟩

theorem State.endsLoss_waits (closing : (s.lane k).phase = .closing) (waits : (s.lane k).WaitsForOther n) :
    s.EndsLoss k l n u e (((s.setUnit n u).setEngine l e).waivedFor k n) := by
  have waived : s.laneLoss k n = s.waivedFor k n := by
    simp only [State.laneLoss, closing]
    exact State.confirmMove_waits closing waits
  exact ⟨by rw [waived]; exact ⟨rfl, rfl, rfl, rfl, rfl, rfl, rfl⟩, by rw [waived]; rfl⟩

theorem State.endsLoss_closes (closing : (s.lane k).phase = .closing) (last : ¬(s.lane k).WaitsForOther n)
    (none : s.NoneStaged) (fits : s.inFits k 4 = true) :
    s.EndsLoss k l n u e (((s.setUnit n u).setEngine l e).closedFor k) := by
  have closed : s.laneLoss k n = s.closedFor k := by
    simp only [State.laneLoss, closing]
    exact State.confirmMove_closes closing last none fits
  exact ⟨by rw [closed]; exact ⟨rfl, rfl, rfl, rfl, rfl, rfl, rfl⟩, by rw [closed]; rfl⟩

end

/-! ### The commands (R66, R68) -/

theorem exec_noReply {s : State} {l : Line} {x : Exchange} (exchange : (s.engine l).exchange = some x)
    (awaits : (s.engine l).xstate = .await) :
    exec (.noReply l) s = .next (State.selectNew ((s.endExchange l x .noReply .guarding).refresh l)) := by
  show execNoReply l s = _
  simp only [execNoReply, awaits, exchange]
  rfl

theorem exec_noReply_other {s : State} {l : Line} (other : (s.engine l).xstate ≠ .await) :
    exec (.noReply l) s = .next s.selectNew := by
  show execNoReply l s = _
  unfold execNoReply
  split
  · next awaits _ => exact absurd awaits other
  · rfl

theorem LineRx.inside_iff (rx : LineRx) : rx.inside = true ↔ ∃ o, rx = .inCharacter o := by
  cases rx <;> simp [LineRx.inside]

theorem exec_truncated {s : State} {l : Line} {x : Exchange} (exchange : (s.engine l).exchange = some x)
    (receiving : (s.engine l).xstate = .receiving) (outside : ∀ o, (s.engine l).rx ≠ .inCharacter o) :
    exec (.truncated l) s = .next (State.selectNew ((s.endExchange l x .truncated .guarding).refresh l)) := by
  have rest : ¬(s.engine l).rx.inside = true := fun inside =>
    (LineRx.inside_iff _).mp inside |>.elim outside
  show execTruncated l s = _
  simp only [execTruncated, receiving, exchange]
  rw [if_neg rest]
  rfl

theorem exec_truncated_other {s : State} {l : Line}
    (other : (s.engine l).xstate ≠ .receiving ∨ ∃ o, (s.engine l).rx = .inCharacter o) :
    exec (.truncated l) s = .next s.selectNew := by
  show execTruncated l s = _
  unfold execTruncated
  split
  · next receiving _ =>
    rw [if_pos ((LineRx.inside_iff _).mpr (other.resolve_left fun not => not receiving))]
    rfl
  · rfl

end Sys2Proof.Machine

namespace Sys2Proof.Proofs

open Sys2Proof.Machine

/-- Settles O44. -/
theorem failedExchangesMovePresence : Obligations.FailedExchangesMovePresence := by
  intro s l x e n u moves guarding after moved tried eighth noReply badReply exchange
  have eighth_iff : s.EighthAttempt x ↔ eighth := Iff.rfl
  refine ⟨fun other => exec_noReply_other other, fun other => exec_truncated_other other, fun applied awaits => ?_, fun new standing few => ?_,
    fun new faltering many few => ?_⟩
  · rw [exec_noReply exchange awaits, State.endExchange_superseded applied]
    rfl
  · have ends {o : ExchangeOutcome} (fails : o.isValid = false) :
        s.endExchange l x o .guarding =
          (s.setUnit n (tried (moved (u.counters.count o)))).setEngine l guarding := by
      have kept (c : SlotCounters) : (u.missed c).directives = u.directives ∧ (u.missed c).headAttempts = u.headAttempts := by
        unfold UnitRun.missed
        split <;> exact ⟨rfl, rfl⟩
      have presence : (s.setEngine l (e.freed .guarding)).outcomePresence n x.kind o =
          (s.setEngine l (e.freed .guarding)).setUnit n (u.missed (u.counters.count o)) :=
        State.outcomePresence_missed fails standing
      rw [State.endExchange_failed fails new (fun many => few (eighth_iff.mp many)) presence
        (State.settling_setUnit (kept _).1 (kept _).2), State.unit_setUnit_same]
      exact State.setUnit_settled s _ l _ _ _ _
    exact ⟨fun awaits => by rw [exec_noReply exchange awaits, ends rfl]; rfl,
      fun receiving outside => by rw [exec_truncated exchange receiving outside, ends rfl]; rfl⟩
  · intro third
    have thirdFails {o : ExchangeOutcome} (fails : o.isValid = false) {failed : Host.Outcome State Fault Refusal}
        (ends : failed = .next (State.selectNew ((s.endExchange l x o .guarding).refresh l))) :
        third (u.counters.count o) failed := by
      have under : ¬s.EighthAttempt x := fun many => few (eighth_iff.mp many)
      dsimp -zeta only [third]
      intro lost gone reached
      refine ⟨fun disabled => ?_, fun enabled => ?_⟩
      · have presence : (s.setEngine l (e.freed .guarding)).outcomePresence n x.kind o =
            (s.setEngine l (e.freed .guarding)).setUnit n (u.gone (u.counters.count o)) := by
          rw [State.outcomePresence_gone fails (by exact faltering) (by exact many),
            if_neg (by exact fun enabled => Bool.noConfusion (disabled.symm.trans enabled))]
          rfl
        have result : s.endExchange l x o .guarding = gone := by
          rw [State.endExchange_failed fails new under presence (State.settling_setUnit rfl rfl), State.unit_setUnit_same]
          exact State.setUnit_settled s _ l _ _ _ _
        show failed = .next (State.selectNew (State.refresh gone l))
        rw [ends, result]
      · intro k role told
        let missing := u.gone (u.counters.count o)
        obtain ⟨before, is⟩ : ∃ t, s.toldLost n (s.units.set n missing) (s.engines.set l (e.freed .guarding)) = t := ⟨_, rfl⟩
        have after : (before.setUnit n lost).setEngine l guarding = told := by
          rw [← is]
          exact (s.toldLost_settled n l _ _ _ _).trans
            (s.atOnce_running (s.alerted k 0 role 0) s.units (s.units.set n lost) s.engines (s.engines.set l guarding)).symm
        obtain ⟨alerts, lane⟩ : ∃ alerts, before.lane k = { s.lane k with alerts := alerts } := by
          rw [← is]
          exact s.toldLost_lane n _ _
        obtain ⟨tables, inbound⟩ : before.tables = s.tables ∧ before.inbound = s.inbound := by
          rw [← is]
          exact s.toldLost_frame n _ _
        have reader : before.readerOf k = s.readerOf k := State.readerOf_congr tables k
        have untrusted : before.trusted n = false := by
          rw [State.trusted, ← is]
          exact congrArg (fun v : UnitRun => v.presence.trusted) (State.unit_setUnit_same s n missing)
        have result {t : State} (loss : before.EndsLoss k l n lost guarding t) :
            failed = .next (State.selectNew (State.refresh t l)) := by
          rw [ends, ← loss.settled]
          subst is
          rw [State.endExchange_lost fails new under faltering many enabled rfl loss.loses]
          rfl
        rw [← after]
        refine ⟨fun still => result (State.endsLoss_still (by rwa [lane])),
          fun served => ⟨fun unread => ?_, fun decided m held => ?_⟩, fun closing => ⟨fun waits => ?_, fun last none fits => ?_⟩⟩
        · exact result (State.endsLoss_unread (by rwa [lane]) (by rwa [lane, reader]))
        · refine result (State.endsLoss_decided (by rwa [lane]) (by rwa [lane]) (by rwa [reader]) untrusted ?_)
          exact congrArg Presence.trusted (State.tried_presence s x missing)
        · exact result (State.endsLoss_waits (by rwa [lane]) (by rwa [lane]))
        · refine result (State.endsLoss_closes (by rwa [lane]) (by rwa [lane]) (fun m => ?_) ?_)
          · rw [State.staged, tables]
            exact none m
          · rw [State.inFits_congr tables inbound]
            exact fits
    exact ⟨fun awaits => thirdFails (o := .noReply) rfl (exec_noReply exchange awaits),
      fun receiving outside => thirdFails (o := .truncated) rfl (exec_truncated exchange receiving outside)⟩

end Sys2Proof.Proofs
end

section
/-! SUPPORT. What follows an exchange's failure, once LINE_STUCK is told (R57, R58, R71): no notice is selected any more, and
the slot keeps its counters, its acknowledgement and its presence while its record stays. -/

namespace Sys2Proof.Machine

/-! ### What stays -/

/-- Two runtime records agree in what a failure counts and moves: counters, pending acknowledgement and presence. -/
structure UnitRun.SameStanding (u v : UnitRun) : Prop where
  counters : u.counters = v.counters
  pendingAck : u.pendingAck = v.pendingAck
  presence : u.presence = v.presence
  fail : u.fail = v.fail
  returning : u.returning = v.returning

theorem UnitRun.SameStanding.trans {u v w : UnitRun} (h : u.SameStanding v) (h' : v.SameStanding w) : u.SameStanding w :=
  ⟨h.counters.trans h'.counters, h.pendingAck.trans h'.pendingAck, h.presence.trans h'.presence, h.fail.trans h'.fail,
    h.returning.trans h'.returning⟩

theorem UnitRun.sameStanding_self (u : UnitRun) : u.SameStanding u := ⟨rfl, rfl, rfl, rfl, rfl⟩

/-- No act selects a source in its midst: the transmitter is not IDLE, or the notice set is a candidate already. -/
def State.HoldsBack (s : State) : Prop := s.link.tx ≠ .idle ∨ s.isCandidate .notices = true

theorem State.HoldsBack.congr {s t : State} (notices : t.notices = s.notices) (tx : t.link.tx = s.link.tx)
    (h : s.HoldsBack) : t.HoldsBack := by
  rwa [State.HoldsBack, State.isCandidate, notices, tx]

theorem State.atOnce_holdsBack {before s : State} (held : before.HoldsBack) (tx : s.link.tx = before.link.tx) :
    before.atOnce s = s := by
  rcases held with busy | candidate
  · unfold State.atOnce
    split
    · rcases s.selectNew_cases with ⟨_, same⟩ | ⟨idle, _⟩ | ⟨idle, _⟩
      · exact same
      · exact absurd (tx.symm.trans idle) busy
      · exact absurd (tx.symm.trans idle) busy
    · rfl
  · exact State.atOnce_waits s (List.ne_nil_of_mem ((before.mem_candidates _).mpr candidate))

/-- A selection changes no runtime record, no table and no phase. -/
theorem State.atOnce_frame (before s : State) :
    (before.atOnce s).tables = s.tables ∧ (before.atOnce s).units = s.units ∧ (before.atOnce s).engines = s.engines ∧
      ∀ k, ((before.atOnce s).lane k).phase = (s.lane k).phase := by
  have phase (src : Source) (k : LaneNo) : ((s.select src).lane k).phase = (s.lane k).phase := by
    cases src with
    | alerts j =>
      have lane : (s.select (.alerts j)).lane k = (s.setLane j { s.lane j with alerts := noAlerts }).lane k := rfl
      rw [lane, State.lane_setLane]
      split
      · next same => rw [same]
      · rfl
    | reply => rfl
    | notices => rfl
    | events j => rfl
  unfold State.atOnce
  split
  · rcases s.selectNew_cases with ⟨_, same⟩ | ⟨_, src, _, same⟩ | ⟨_, _, same⟩ <;> rw [same]
    · exact ⟨rfl, rfl, rfl, fun _ => rfl⟩
    · obtain ⟨tables, _, _, units, engines, _⟩ := s.select_frame src
      exact ⟨tables, units, engines, phase src⟩
    · obtain ⟨tables, _, _, units, engines, _⟩ := s.select_frame (s.anyOf s.candidates)
      exact ⟨tables, units, engines, phase _⟩
  · exact ⟨rfl, rfl, rfl, fun _ => rfl⟩

/-- `t` comes of `s` by what follows a failure of slot `n`: the notices and the transmitter stay where selections are held
back, and the slot's standing stays while its record does (R13, R27). -/
structure State.Aftermath (n : SlotNo) (s t : State) : Prop where
  told : s.HoldsBack → t.notices = s.notices ∧ t.link.tx = s.link.tx
  stays : s.RecordStays n → t.RecordStays n ∧ (t.unit n).SameStanding (s.unit n)

namespace State.Aftermath

variable {n : SlotNo} {s t : State}

theorem refl : s.Aftermath n s := ⟨fun _ => ⟨rfl, rfl⟩, fun stays => ⟨stays, UnitRun.sameStanding_self _⟩⟩

theorem held (h : Aftermath n s t) (back : s.HoldsBack) : t.HoldsBack := back.congr (h.told back).1 (h.told back).2

/-- An act that changes neither the tables nor the slot's standing, and begins no closing. -/
theorem act (h : Aftermath n s t) {u : State} (tables : u.tables = t.tables)
    (standing : (u.unit n).SameStanding (t.unit n))
    (phase : ∀ k, (u.lane k).phase = .closing → (t.lane k).phase = .closing)
    (told : s.HoldsBack → u.notices = t.notices ∧ u.link.tx = t.link.tx) : Aftermath n s u where
  told back := ⟨(told back).1.trans (h.told back).1, (told back).2.trans (h.told back).2⟩
  stays record := by
    obtain ⟨before, same⟩ := h.stays record
    refine ⟨?_, standing.trans same⟩
    rcases before with none | served
    · exact .inl (by rw [State.staged, tables]; exact none)
    · refine .inr fun k mem closing => served k ?_ (phase k closing)
      rwa [State.currentLane, State.record, tables] at mem

theorem setUnit (h : Aftermath n s t) (m : SlotNo) {u : UnitRun} (standing : u.SameStanding (t.unit m)) :
    Aftermath n s (t.setUnit m u) := by
  refine h.act rfl ?_ (fun _ => id) fun _ => ⟨rfl, rfl⟩
  rw [State.unit_setUnit]
  split
  · next same => exact same ▸ standing
  · exact UnitRun.sameStanding_self _

theorem setLane (h : Aftermath n s t) (k : LaneNo) {r : LaneRecord}
    (phase : r.phase = .closing → (t.lane k).phase = .closing) : Aftermath n s (t.setLane k r) := by
  refine h.act rfl (UnitRun.sameStanding_self _) (fun j closing => ?_) fun _ => ⟨rfl, rfl⟩
  rw [State.lane_setLane] at closing
  split at closing
  · next same => exact same ▸ phase closing
  · exact closing

theorem setInQueue (h : Aftermath n s t) (k : LaneNo) (q : List (List Byte)) : Aftermath n s (t.setInQueue k q) :=
  h.act rfl (UnitRun.sameStanding_self _) (fun _ => id) fun _ => ⟨rfl, rfl⟩

theorem setOutQueue (h : Aftermath n s t) (k : LaneNo) (q : List OutRecord) : Aftermath n s (t.setOutQueue k q) :=
  h.act rfl (UnitRun.sameStanding_self _) (fun _ => id) fun _ => ⟨rfl, rfl⟩

theorem raiseAlert (h : Aftermath n s t) (k : LaneNo) (kind : AlertKind) (d1 d2 : Byte) :
    Aftermath n s (t.raiseAlert k kind d1 d2) := h.setLane k id

theorem atOnce (h : Aftermath n s t) {before : State} (first : Aftermath n s before) : Aftermath n s (before.atOnce t) := by
  obtain ⟨tables, units, _, phase⟩ := before.atOnce_frame t
  refine h.act tables ?_ (fun k => by rw [phase]; exact id) fun back => ?_
  · rw [State.unit, units]
    exact UnitRun.sameStanding_self _
  · rw [State.atOnce_holdsBack (first.held back) ((h.told back).2.trans (first.told back).2.symm)]
    exact ⟨rfl, rfl⟩

theorem setDirective (h : Aftermath n s t) (m : SlotNo) (d : Directive) : Aftermath n s (t.setDirective m d) := by
  by_cases skips : t.SkipsDirective m d
  · rw [State.setDirective_of_skips skips]
    exact h
  · rw [State.setDirective_of_sets skips]
    have set := h.setUnit m
      (u := { t.unit m with directives := (t.unit m).directives.join d ⟨0, t.serial⟩ }) ⟨rfl, rfl, rfl, rfl, rfl⟩
    exact set.act rfl (UnitRun.sameStanding_self _) (fun _ => id) fun _ => ⟨rfl, rfl⟩

theorem dropHead (h : Aftermath n s t) (k : LaneNo) : Aftermath n s (t.dropHead k) := by
  have each (slots : List SlotNo) {u : State} (hu : Aftermath n s u) :
      Aftermath n s (slots.foldl (fun v m => v.setUnit m { v.unit m with headAttempts := 0 }) u) := by
    induction slots generalizing u with
    | nil => exact hu
    | cons m rest ih => exact ih (hu.setUnit m ⟨rfl, rfl, rfl, rfl, rfl⟩)
  exact each _ (h.setOutQueue k _)

/-! ### The lane -/

theorem faultLane (h : Aftermath n s t) (k : LaneNo) (reason : FaultReason) : Aftermath n s (t.faultLane k reason) := by
  refine raiseAlert ?_ k _ _ _
  have entered : Aftermath n s (t.setLane k ((t.lane k).faulted (t.lane k).decision)) := h.setLane k nofun
  have dropped : Aftermath n s ((t.setLane k ((t.lane k).faulted (t.lane k).decision)).dropDecision k) := entered.setLane k id
  rw [State.enterFaulted_eq, State.faultDecision]
  split
  · exact entered
  · split
    · exact dropped
    · split
      · exact dropped.setDirective _ _
      · exact dropped

/-- Staged records are applied to other slots only, where the slot has none (R27). -/
theorem applyAllStaged (h : Aftermath n s t) (none : s.RecordStays n → t.staged n = none) :
    Aftermath n s t.applyAllStaged := by
  obtain ⟨units, same, keeps⟩ := t.applyAllStaged_eq
  have entry : t.applyAllStaged.tables.units[n] = t.settledEntry n := by rw [same]; simp
  refine ⟨fun back => ?_, fun record => ⟨.inl ?_, ?_⟩⟩
  · rw [same]
    exact h.told back
  · rw [State.staged, entry]
    rcases t.settledEntry_cases n with ⟨still, _⟩ | ⟨r, staged, _⟩
    · rw [still]
      exact none record
    · rw [none record] at staged
      cases staged
  · have kept : t.applyAllStaged.unit n = t.unit n := by
      rw [same]
      exact keeps n (none record)
    rw [kept]
    exact (h.stays record).2

theorem endClosing (h : Aftermath n s t) (k : LaneNo) (none : s.RecordStays n → t.staged n = none) :
    Aftermath n s (t.endClosing k) := by
  obtain ⟨r, closed, _, same⟩ := t.endClosing_eq k
  have written : Aftermath n s (t.writeInternal k .closed []).1 := by
    rcases t.writeInternal_cases k .closed [] with ⟨_, e⟩ | ⟨_, e⟩ <;> rw [e]
    · exact h.setInQueue k _
    · exact h.raiseAlert k _ _ _
  have tables : (t.writeInternal k .closed []).1.tables = t.tables := by
    rcases t.writeInternal_cases k .closed [] with ⟨_, e⟩ | ⟨_, e⟩ <;> rw [e] <;> rfl
  rw [same]
  refine (written.setLane k fun closing => ?_).applyAllStaged fun record => ?_
  · rw [closed] at closing
    cases closing
  · show (t.writeInternal k .closed []).1.staged n = _
    rw [State.staged, tables]
    exact none record

/-- A close confirmation of the slot's own lane moves. -/
theorem confirmMove (h : Aftermath n s t) {k : LaneNo} (current : t.currentLane n = some k) (m : SlotNo)
    (f : Confirmation → Confirmation) : Aftermath n s (t.confirmMove k m f) := by
  unfold State.confirmMove
  split
  · next closing =>
    have moved : Aftermath n s (t.setLane k { t.lane k with confirms := moveConfirm m f (t.lane k).confirms }) :=
      h.setLane k id
    unfold State.checkClosing
    split
    · refine moved.endClosing k fun record => ?_
      exact (h.stays record).1.resolve_right fun served => served k (by simp [current]) closing
    · exact moved
  · exact h

theorem laneUnitLost (h : Aftermath n s t) {k : LaneNo} (current : t.currentLane n = some k) :
    Aftermath n s (t.laneUnitLost k n) := by
  have told := (h.raiseAlert k .unitLost (t.record n).kind.role 0).atOnce h
  have tables := (t.atOnce_frame (t.raiseAlert k .unitLost (t.record n).kind.role 0)).1
  unfold State.laneUnitLost
  dsimp only
  split
  · exact told.faultLane k _
  · exact told.faultLane k _
  · refine told.confirmMove ?_ n _
    rw [State.currentLane, State.record, tables]
    exact current
  · exact told
  · exact told

/-! ### The item carried -/

theorem undelivered (h : Aftermath n s t) (code : Byte) : Aftermath n s (t.undelivered n code) := by
  unfold State.undelivered
  split
  · exact h
  · exact h.raiseAlert _ _ _ _

theorem directiveGivenUp (h : Aftermath n s t) (d : Directive) : Aftermath n s (t.directiveGivenUp n d) := by
  unfold State.directiveGivenUp
  split
  · split
    · exact h.faultLane _ _
    · exact h
  · next current => exact h.confirmMove current n _
  all_goals exact h

theorem giveUp (h : Aftermath n s t) (it : Item) : Aftermath n s (t.giveUp n it) := by
  cases it with
  | directive d serial =>
    have dropped : Aftermath n s (t.dropDirective n d) := h.setUnit n ⟨rfl, rfl, rfl, rfl, rfl⟩
    exact ((dropped.undelivered d.code).atOnce h).directiveGivenUp d
  | record k serial =>
    unfold State.giveUp
    dsimp only
    split
    · exact h
    · exact (h.dropHead k).undelivered _

theorem countAttempt (h : Aftermath n s t) (it : Item) : Aftermath n s (t.countAttempt n it) := by
  unfold State.countAttempt
  split
  · split
    · exact h.setUnit n (by cases it <;> exact ⟨rfl, rfl, rfl, rfl, rfl⟩)
    · exact h.giveUp it
  · exact h

theorem settleItems (h : Aftermath n s t) {x : Exchange} (slot : x.slot = n) {o : ExchangeOutcome} (fails : o.isValid = false)
    (wasTrusted : Bool) : Aftermath n s (t.settleItems x o wasTrusted) := by
  subst slot
  by_cases command : x.kind = .command
  · cases item : x.item with
    | none =>
      have still : t.settleItems x o wasTrusted = t := by simp only [State.settleItems, command, item]
      rw [still]
      exact h
    | some it =>
      have ends : t.settleItems x o wasTrusted = (t.countAttempt x.slot it).setDoubt x.slot (some it) := by
        simp only [State.settleItems, command, item, State.commandEnds_failed fails]
      rw [ends]
      exact (h.countAttempt it).setUnit x.slot ⟨rfl, rfl, rfl, rfl, rfl⟩
  · rw [State.settleItems_uncommanded fails command]
    exact h

end State.Aftermath

/-! ### Lines outside an act's reach -/

/-- Acts that reach no line leave the engines and the lines' settings alone, whatever is selected meanwhile. -/
theorem State.Acts.engines {rc : Reach} {s t : State} (closed : ¬rc.port) (out : ∀ l, ¬rc.line l) (h : s.Acts rc t) :
    t.engines = s.engines ∧ t.tables.lines = s.tables.lines := by
  induction h with
  | refl => exact ⟨rfl, rfl⟩
  | @close t _ k hk r _ ih =>
    obtain ⟨units, same, _⟩ := (t.setLane k r).applyAllStaged_eq
    rw [same]
    exact ih
  | setEngine _ hl => exact absurd hl (out _)
  | setLine _ hl => exact absurd hl (out _)
  | setPort _ hp => exact absurd hp closed
  | @select t _ _ src ih =>
    obtain ⟨tables, _, _, _, engines, _⟩ := t.select_frame src
    rw [tables, engines]
    exact ih
  | setLane | setUnits | setNotices | storeIn | storeOut | emptyIn | dropOut | clearPenalty | choose => assumption

/-! ### An exchange ends ABORTED (R58, R71) -/

/-- The runtime record of a slot after the presence step of an outcome that fails (R105, R107 to R109). -/
def UnitRun.failedOnce (u : UnitRun) (counters : SlotCounters) : UnitRun :=
  if u.presence = .faltering ∧ 2 ≤ u.fail then u.gone counters else u.missed counters

theorem State.outcomePresence_aftermath {s : State} {n : SlotNo} {kind : TelegramKind} {o : ExchangeOutcome}
    (fails : o.isValid = false) :
    State.Aftermath n (s.setUnit n ((s.unit n).failedOnce ((s.unit n).counters.count o))) (s.outcomePresence n kind o) := by
  by_cases third : (s.unit n).presence = .faltering ∧ 2 ≤ (s.unit n).fail
  · rw [UnitRun.failedOnce, if_pos third, State.outcomePresence_gone fails third.1 third.2]
    split
    · next enabled =>
      refine State.Aftermath.refl.laneUnitLost ?_
      rw [State.currentLane, State.record_setUnit, if_pos enabled]
    · exact .refl
  · rw [UnitRun.failedOnce, if_neg third, State.outcomePresence_missed fails third]
    exact .refl

theorem State.HoldsBack.setUnit {s : State} (h : s.HoldsBack) (n : SlotNo) (u : UnitRun) : (s.setUnit n u).HoldsBack := h

/-- A failed exchange: its slot fails once, and what follows is an aftermath of that (R71). -/
theorem State.handleOutcome_aftermath {s : State} {x : Exchange} {o : ExchangeOutcome} (fails : o.isValid = false) :
    State.Aftermath x.slot (s.setUnit x.slot ((s.unit x.slot).failedOnce ((s.unit x.slot).counters.count o)))
      (s.handleOutcome x o) := by
  have same (v : UnitRun) (t : State) : s.atOnce t = (s.setUnit x.slot v).atOnce t := by
    have candidates : (s.setUnit x.slot v).candidates = s.candidates := State.candidates_congr rfl rfl rfl rfl rfl
    rw [State.atOnce, State.atOnce, candidates]
  have presence := s.outcomePresence_aftermath (n := x.slot) (kind := x.kind) fails
  have settled := (presence.atOnce .refl).settleItems rfl fails (s.trusted x.slot)
  rw [State.handleOutcome, State.outcomeReply_failed _ fails, State.outcomeSettled, same, same ((s.unit x.slot).failedOnce _)]
  exact settled.atOnce .refl

theorem State.giveOutcome_told {s : State} {x : Exchange} {o : ExchangeOutcome} (fails : o.isValid = false)
    (back : s.HoldsBack) : (s.giveOutcome x o).notices = s.notices ∧ (s.giveOutcome x o).link.tx = s.link.tx := by
  unfold State.giveOutcome
  split
  · exact ⟨rfl, rfl⟩
  · exact (State.handleOutcome_aftermath fails).told back

/-- What the handling of an outcome never touches: the engines and the lines' settings. -/
theorem State.giveOutcome_lines (s : State) (x : Exchange) (o : ExchangeOutcome) :
    (s.giveOutcome x o).engines = s.engines ∧ (s.giveOutcome x o).tables.lines = s.tables.lines := by
  have acts : s.Acts ⟨fun _ => True, fun _ => False, True, False, False⟩ (s.giveOutcome x o) :=
    State.Acts.refl.giveOutcome ⟨fun _ => trivial, trivial⟩ x o
  exact acts.engines id fun _ => id

end Sys2Proof.Machine
end

section
/-! SUPPORT. The line watchdogs: what their expiry tells, and how each line recovers (R57, R58). -/

namespace Sys2Proof.Machine

/-! ### Selections and refreshed lines -/

theorem State.selectNew_frame (s : State) :
    s.selectNew.tables = s.tables ∧ s.selectNew.units = s.units ∧ s.selectNew.engines = s.engines := by
  rcases s.selectNew_cases with ⟨_, same⟩ | ⟨_, src, _, same⟩ | ⟨_, _, same⟩ <;> rw [same]
  · exact ⟨rfl, rfl, rfl⟩
  · obtain ⟨tables, _, _, units, engines, _⟩ := s.select_frame src
    exact ⟨tables, units, engines⟩
  · obtain ⟨tables, _, _, units, engines, _⟩ := s.select_frame (s.anyOf s.candidates)
    exact ⟨tables, units, engines⟩

theorem State.selectNew_setEngine (s : State) (l : Line) (e : Engine) :
    (s.setEngine l e).selectNew = s.selectNew.setEngine l e := by
  obtain ⟨_, units, engines⟩ := s.selectNew_frame
  have ran : (s.setEngine l e).selectNew = s.selectNew.running s.units (s.engines.set l e) := s.selectNew_running _ _
  rw [ran]
  simp only [State.running, State.setEngine, engines, units]

theorem State.refresh_selectNew (s : State) (l : Line) : s.selectNew.refresh l = (s.refresh l).selectNew := by
  obtain ⟨tables, _, engines⟩ := s.selectNew_frame
  have engine : s.selectNew.engine l = s.engine l := by rw [State.engine, engines]; rfl
  have wanted : s.selectNew.wantedTune l = s.wantedTune l := by
    simp only [State.wantedTune, engine, State.lineInForce, tables]
  rw [State.refresh_eq, State.refresh_eq, State.selectNew_setEngine, engine, wanted]

/-- What is selected at once, before a line is changed and refreshed, is selected all the same after it. -/
theorem State.selectNew_atOnce (before s : State) (l : Line) (e : Engine) :
    (((before.atOnce s).setEngine l e).refresh l).selectNew = ((s.setEngine l e).refresh l).selectNew := by
  unfold State.atOnce
  split
  · rw [← State.selectNew_setEngine, State.refresh_selectNew, State.selectNew_selectNew]
  · rfl

/-! ### LINE_STUCK told (R13, R57) -/

/-- A notice raised and selected at once: nothing is selected any more before the act ends. -/
theorem State.holdsBack_atOnce {s : State} (before : State) (candidate : s.isCandidate .notices = true) :
    (before.atOnce s).HoldsBack := by
  unfold State.atOnce
  split
  · by_cases idle : s.link.tx = .idle
    · have some : s.candidates ≠ [] := List.ne_nil_of_mem ((s.mem_candidates _).mpr candidate)
      obtain ⟨src, _, same | same⟩ := State.selectNew_of_idle idle some <;> rw [same]
      · exact .inl (by simp)
      · exact .inl (by simp)
    · rcases s.selectNew_cases with ⟨_, same⟩ | ⟨free, _⟩ | ⟨free, _⟩
      · rw [same]
        exact .inl idle
      · exact absurd free idle
      · exact absurd free idle
  · exact .inr candidate

theorem State.countStuck_candidate (s : State) (l : Line) : (s.countStuck l).isCandidate .notices = true := by
  have held : noneHeld (s.countStuck l).notices.toList = false := by
    rw [noneHeld_toList, State.countStuck_eq]
    exact ⟨1, by simp [NoticeSet.raise, NoticeKind.ix]⟩
  rw [State.isCandidate, held]
  rfl

/-! ### Recovery (R57, R58) -/

/-- The engine after the recovery that a mode asks for (R57, R58). -/
def Engine.recovered (e : Engine) : Recovery → Engine
  | .reset => e.lineReset
  | .flag => { e with watchdog := 0 }

theorem State.lineReset_lines (s : State) (l : Line) :
    (s.lineReset l).engines = s.engines.set l (s.engine l).lineReset ∧ (s.lineReset l).tables.lines = s.tables.lines := by
  unfold State.lineReset
  dsimp only
  split
  · exact ⟨rfl, rfl⟩
  · exact State.giveOutcome_lines _ _ _

theorem State.recover_lines (s : State) (l : Line) :
    (s.recover l).engines = s.engines.set l ((s.engine l).recovered (s.lineInForce l).recovery) ∧
      (s.recover l).tables.lines = s.tables.lines := by
  obtain ⟨engines, lines⟩ := s.lineReset_lines l
  unfold State.recover
  dsimp only
  cases (s.lineInForce l).recovery with
  | reset =>
    have engine : (s.lineReset l).engine l = (s.engine l).lineReset := by
      rw [State.engine, engines, PerLine.get_set_same]
    refine ⟨?_, lines⟩
    rw [State.setEngine_engines, engine, engines, PerLine.set_set]
    rfl
  | flag => exact ⟨rfl, rfl⟩

theorem State.recover_told {s : State} (l : Line) (back : s.HoldsBack) :
    (s.recover l).notices = s.notices ∧ (s.recover l).link.tx = s.link.tx := by
  unfold State.recover
  dsimp only
  cases (s.lineInForce l).recovery with
  | reset =>
    show (s.lineReset l).notices = _ ∧ (s.lineReset l).link.tx = _
    unfold State.lineReset
    dsimp only
    split
    · exact ⟨rfl, rfl⟩
    · exact State.giveOutcome_told rfl back
  | flag => exact ⟨rfl, rfl⟩

/-! ### One line's watchdog -/

theorem Engine.unsettled_iff (e : Engine) :
    e.unsettled = true ↔ (e.rx = .inBreak ∧ e.driver = false) ∨ e.chatter = true := by
  simp [Engine.unsettled]

theorem exec_lineWatchdog {s : State} {l : Line} (unsettled : (s.engine l).unsettled = true) :
    exec (.lineWatchdog l) s = .next (State.selectNew ((s.watchdogExpires l).refresh l)) := by
  show execLineWatchdog l s = _
  rw [execLineWatchdog, if_pos unsettled]
  rfl

theorem exec_lineWatchdog_settled {s : State} {l : Line} (settled : ¬(s.engine l).unsettled = true) :
    exec (.lineWatchdog l) s = .next s.selectNew := by
  show execLineWatchdog l s = _
  rw [execLineWatchdog, if_neg settled]
  rfl

/-- The engine whose watchdog expiry has been counted. -/
def Engine.countedStuck (e : Engine) : Engine := { e with counters := { e.counters with stuck := bump e.counters.stuck } }

/-- The part with LINE_STUCK told for a line, and selected where that is at once (R13, R57). -/
def State.toldStuck (s : State) (l : Line) : State := s.atOnce (s.countStuck l)

theorem State.toldStuck_engine (s : State) (l : Line) : (s.toldStuck l).engine l = (s.engine l).countedStuck := by
  have engines := (s.atOnce_frame (s.countStuck l)).2.2.1
  rw [State.toldStuck, State.engine, engines, State.countStuck_eq]
  exact PerLine.get_set_same _ _ _

theorem State.toldStuck_lineInForce (s : State) (l m : Line) : (s.toldStuck l).lineInForce m = s.lineInForce m := by
  have tables := (s.atOnce_frame (s.countStuck l)).1
  rw [State.toldStuck, State.lineInForce, tables]
  rfl

theorem State.holdsBack_toldStuck (s : State) (l : Line) : (s.toldStuck l).HoldsBack :=
  State.holdsBack_atOnce s (s.countStuck_candidate l)

theorem State.watchdogExpires_lines (s : State) (l : Line) :
    (s.watchdogExpires l).engine l = (s.engine l).countedStuck.recovered (s.lineInForce l).recovery := by
  obtain ⟨engines, _⟩ := (s.toldStuck l).recover_lines l
  show ((s.toldStuck l).recover l).engine l = _
  rw [State.engine, engines, PerLine.get_set_same, State.toldStuck_engine, State.toldStuck_lineInForce]

/-- A line that recovers without an exchange to end: its engine alone is replaced (R57, R58). -/
theorem State.watchdogExpires_idle {s : State} {l : Line}
    (idle : (s.lineInForce l).recovery = .reset → (s.engine l).exchange = none) :
    s.watchdogExpires l =
      (s.toldStuck l).setEngine l ((s.engine l).countedStuck.recovered (s.lineInForce l).recovery) := by
  show (s.toldStuck l).recover l = _
  unfold State.recover
  dsimp only
  rw [State.toldStuck_lineInForce]
  cases mode : (s.lineInForce l).recovery with
  | reset =>
    have none : ((s.toldStuck l).engine l).exchange = none := by
      rw [State.toldStuck_engine]
      exact idle mode
    have reset : (s.toldStuck l).lineReset l = (s.toldStuck l).setEngine l (s.engine l).countedStuck.lineReset := by
      simp only [State.lineReset, none]
      rw [State.toldStuck_engine]
    dsimp only
    rw [reset, State.setEngine_setEngine, State.engine_setEngine_same]
    rfl
  | flag =>
    dsimp only
    rw [State.toldStuck_engine]
    rfl

/-- An expiry that ends no exchange, with the selection at its end (R13, R57). -/
theorem State.selectNew_watchdogExpires {s : State} {l : Line}
    (idle : (s.lineInForce l).recovery = .reset → (s.engine l).exchange = none) :
    State.selectNew ((s.watchdogExpires l).refresh l) =
      State.selectNew (State.refresh
        { s with
          notices := s.notices.raise .lineStuck (stuckFlag l) 0
          engines := s.engines.set l ((s.engine l).countedStuck.recovered (s.lineInForce l).recovery) } l) := by
  rw [State.watchdogExpires_idle idle, State.toldStuck, State.selectNew_atOnce, State.countStuck_eq]
  simp only [State.setEngine, PerLine.set_set]

/-- An exchange that a line reset ends ABORTED leaves its slot failed once, while the slot's record stays (R27, R58). -/
theorem State.watchdogExpires_unit {s : State} {l : Line} {x : Exchange} (reset : (s.lineInForce l).recovery = .reset)
    (exchange : (s.engine l).exchange = some x) (new : (s.unit x.slot).superseded = false) (stays : s.RecordStays x.slot) :
    ((s.watchdogExpires l).unit x.slot).SameStanding
      ((s.unit x.slot).failedOnce ((s.unit x.slot).counters.count .aborted)) := by
  obtain ⟨tables, units, _, phase⟩ := s.atOnce_frame (s.countStuck l)
  have unit : (s.toldStuck l).unit x.slot = s.unit x.slot := by
    rw [State.toldStuck, State.unit, units]
    rfl
  have told : ((s.toldStuck l).engine l).exchange = some x := by
    rw [State.toldStuck_engine]
    exact exchange
  have ended : (s.watchdogExpires l).unit x.slot =
      (((s.toldStuck l).setEngine l ((s.toldStuck l).engine l).lineReset).handleOutcome x .aborted).unit x.slot := by
    show ((s.toldStuck l).recover l).unit x.slot = _
    unfold State.recover
    dsimp only
    rw [State.toldStuck_lineInForce, reset]
    dsimp only
    rw [State.unit_setEngine]
    simp only [State.lineReset, told]
    rw [State.giveOutcome, if_neg]
    rw [State.unit_setEngine, unit, new]
    exact Bool.false_ne_true
  rw [ended]
  have aftermath := State.handleOutcome_aftermath
    (s := (s.toldStuck l).setEngine l ((s.toldStuck l).engine l).lineReset) (x := x) (o := .aborted) rfl
  rw [State.unit_setEngine, unit] at aftermath
  refine UnitRun.SameStanding.trans (aftermath.stays ?_).2 ?_
  · rcases stays with none | served
    · refine .inl ?_
      show (s.toldStuck l).staged x.slot = _
      rw [State.toldStuck, State.staged, tables]
      exact none
    · refine .inr fun k mem => ?_
      show ((s.toldStuck l).lane k).phase ≠ _
      rw [State.toldStuck, phase]
      refine served k ?_
      have current : (s.toldStuck l).currentLane x.slot = s.currentLane x.slot := by
        rw [State.toldStuck, State.currentLane, State.record, tables]
        rfl
      rw [← current]
      exact mem
  · rw [State.unit_setUnit_same]
    exact UnitRun.sameStanding_self _

end Sys2Proof.Machine
end

section
/-! SUPPORT. Both line watchdogs at one tick (R57; log entries 2, 3 and 33). -/

namespace Sys2Proof.Machine

/-! ### What a recovered engine is (R56, R57, R58) -/

theorem Engine.recovered_watchdog (e : Engine) (mode : Recovery) : (e.recovered mode).watchdog = 0 := by
  cases mode <;> rfl

/-- The watchdog's count at the tick is gone after the recovery (R56, R57). -/
theorem Engine.recovered_countWatchdog (e : Engine) (mode : Recovery) :
    e.countWatchdog.countedStuck.recovered mode = e.countedStuck.recovered mode := by
  unfold Engine.countWatchdog
  split
  · cases mode <;> rfl
  · rfl

/-- A line whose watchdog counter is 0 has only its receiver retuned (R50, R56). -/
theorem State.refresh_calm {s : State} {l : Line} (calm : (s.engine l).watchdog = 0) :
    (s.refresh l).engine l = { s.engine l with tuned := ((s.refresh l).engine l).tuned } := by
  rw [State.refresh_eq, State.engine_setEngine_same, calm, ite_self, ← calm]

theorem State.refresh_told (s : State) (l : Line) :
    (s.refresh l).notices = s.notices ∧ (s.refresh l).link = s.link := by
  rw [State.refresh_eq]
  exact ⟨rfl, rfl⟩

/-! ### LINE_STUCK told for both lines (R57) -/

/-- The part with both lines' expiries counted and told. -/
def State.bothStuck (s : State) : State := (s.countStuck .a).countStuck .b

theorem State.countStuck_both (s : State) (first : Line) :
    (s.countStuck first).countStuck (otherLine first) = s.bothStuck := by
  cases first with
  | a => rfl
  | b => exact s.countStuck_comm.symm

theorem State.bothStuck_engine (s : State) (l : Line) : s.bothStuck.engine l = (s.engine l).countedStuck := by
  rw [State.bothStuck, State.countStuck_eq, State.countStuck_eq]
  cases l <;> rfl

/-- LINE_STUCK with both lines' flags and a count that rose by 2 (R57, R139). -/
def NoticeSet.toldBoth (n : NoticeSet) : NoticeSet :=
  n.set 1 (some (raisedEntry (some (raisedEntry n[1] (heldDetail n[1] ||| 3) 0)) (heldDetail n[1] ||| 3) 0))

theorem State.bothStuck_notices (s : State) : s.bothStuck.notices = s.notices.toldBoth := by
  have flags (b : Byte) : b ||| 1#8 ||| 2#8 = b ||| 3#8 := BitVec.or_assoc ..
  rw [State.bothStuck, State.countStuck_eq, State.countStuck_eq]
  cases held : s.notices[1] <;>
    simp [NoticeSet.raise, NoticeSet.toldBoth, NoticeKind.ix, stuckFlag, raisedEntry, heldDetail, held, flags]

/-- With nothing else to send, an IDLE transmitter sends the notice set at once (R13, R57). -/
theorem State.atOnce_bothStuck {s : State} (idle : s.link.tx = .idle) (empty : s.candidates = []) :
    (s.atOnce s.bothStuck).link.tx = .sending ⟨0x0F, .notice, entryBytes 1 s.notices.toldBoth.toList⟩ ∧
      (s.atOnce s.bothStuck).notices = Vector.replicate 5 none := by
  have candidate : s.bothStuck.isCandidate .notices = true := (s.countStuck .a).countStuck_candidate .b
  have only (src : Source) (h : s.bothStuck.isCandidate src = true) : src = .notices := by
    by_contra other
    have before : s.isCandidate src = true := by
      cases src with
      | notices => exact absurd rfl other
      | reply => exact h
      | alerts k => exact h
      | events k => exact h
    have mem := (s.mem_candidates src).mpr before
    rw [empty] at mem
    cases mem
  obtain ⟨src, won, same⟩ := State.selectNew_of_idle (s := s.bothStuck) idle
    (List.ne_nil_of_mem ((State.mem_candidates _ _).mpr candidate))
  have sent : (s.bothStuck.select .notices).link.tx =
      .sending ⟨0x0F, .notice, entryBytes 1 s.notices.toldBoth.toList⟩ := by
    rw [← State.bothStuck_notices]
    rfl
  rw [State.atOnce, if_pos empty]
  rcases same with same | same <;> rw [same, only src won] <;> exact ⟨sent, rfl⟩

/-! ### Both recoveries (R57, R58; log entry 33) -/

theorem State.holdsBack_bothStuck (s : State) : (s.atOnce s.bothStuck).HoldsBack :=
  State.holdsBack_atOnce s ((s.countStuck .a).countStuck_candidate .b)

/-- Between the two recoveries nothing is selected: LINE_STUCK is a candidate still, or its frame is being sent. -/
theorem State.bothWatchdogsExpire_eq (s : State) (first : Line) :
    s.bothWatchdogsExpire first = ((s.atOnce s.bothStuck).recover first).recover (otherLine first) := by
  have back := s.holdsBack_bothStuck
  have still := State.atOnce_holdsBack back (State.recover_told first back).2
  rw [State.bothWatchdogsExpire, State.countStuck_both, still]

theorem State.bothWatchdogsExpire_told (s : State) (first : Line) :
    (s.bothWatchdogsExpire first).notices = (s.atOnce s.bothStuck).notices ∧
      (s.bothWatchdogsExpire first).link.tx = (s.atOnce s.bothStuck).link.tx := by
  have back := s.holdsBack_bothStuck
  have one := State.recover_told first back
  have two := State.recover_told (otherLine first) (back.congr one.1 one.2)
  rw [State.bothWatchdogsExpire_eq]
  exact ⟨two.1.trans one.1, two.2.trans one.2⟩

/-- Each line recovers by its own mode, whichever recovers first (R57). -/
theorem State.bothWatchdogsExpire_engine (s : State) (first l : Line) :
    (s.bothWatchdogsExpire first).engine l = (s.engine l).countedStuck.recovered (s.lineInForce l).recovery := by
  obtain ⟨tables, _, engines, _⟩ := s.atOnce_frame s.bothStuck
  obtain ⟨one, lines⟩ := (s.atOnce s.bothStuck).recover_lines first
  obtain ⟨two, _⟩ := ((s.atOnce s.bothStuck).recover first).recover_lines (otherLine first)
  have mode (m : Line) : ((s.atOnce s.bothStuck).lineInForce m).recovery = (s.lineInForce m).recovery := by
    rw [State.lineInForce, tables]
    rfl
  have later (m : Line) : (((s.atOnce s.bothStuck).recover first).lineInForce m).recovery = (s.lineInForce m).recovery := by
    rw [← mode m, State.lineInForce, lines]
    rfl
  have told (m : Line) : (s.atOnce s.bothStuck).engine m = (s.engine m).countedStuck := by
    rw [State.engine, engines]
    exact s.bothStuck_engine m
  rw [State.bothWatchdogsExpire_eq, State.engine, two, later]
  by_cases same : l = otherLine first
  · rw [same, PerLine.get_set_same, State.engine, one, PerLine.get_set_other _ _ (otherLine_ne first), ← State.engine, told]
  · have isFirst : l = first := by
      cases l <;> cases first <;> simp_all [otherLine]
    rw [isFirst, PerLine.get_set_other _ _ (otherLine_ne first).symm, one, PerLine.get_set_same, told, mode]

/-! ### The tick (log entries 2 and 3) -/

/-- A tick at which both watchdogs expire, and nothing else comes: they expire together, in an order left open. -/
theorem State.tick_of_watchdogs {s : State}
    (h : tickEvents.filter s.countTick.comes = [.watchdog .a, .watchdog .b]) :
    ∃ first, s.tick =
      ((((s.countTick.countChoice 2).bothWatchdogsExpire first).refresh first).refresh (otherLine first)).selectNew := by
  have comes (l : Line) : (s.countTick.countChoice 2).comes (.watchdog l) = true := by
    have mem : TickEvent.watchdog l ∈ tickEvents.filter s.countTick.comes := by
      rw [h]
      cases l <;> simp
    exact (List.mem_filter.mp mem).2
  have event (l : Line) : ((s.countTick.countChoice 2).tickEvent (.watchdog l)).selectNew =
      ((((s.countTick.countChoice 2).bothWatchdogsExpire l).refresh l).refresh (otherLine l)).selectNew := by
    rw [State.tickEvent, if_pos (comes l), State.selectNew_selectNew, State.watchdogTick, if_pos (comes (otherLine l))]
  have place : s.countTick.nextPlace 2 = 0 ∨ s.countTick.nextPlace 2 = 1 := by
    have small : s.countTick.nextPlace 2 < 2 := Nat.mod_lt _ (by decide)
    omega
  rcases place with place | place
  · refine ⟨.a, ?_⟩
    rw [← event .a]
    simp [State.tick, h, State.takeEvents, place, TickEvent.takes]
  · refine ⟨.b, ?_⟩
    rw [← event .b]
    simp [State.tick, h, State.takeEvents, place, TickEvent.takes]

/-- A tick counts no source's items up or down (R13, R14). -/
theorem State.countTick_candidates (s : State) : s.countTick.candidates = s.candidates := by
  have same : s.countTick.isCandidate = s.isCandidate := by
    funext src
    cases src with
    | alerts k =>
      rw [State.isCandidate, State.countTick_lane, State.countTick_eq]
      rfl
    | reply => rw [State.countTick_eq]; rfl
    | notices => rw [State.countTick_eq]; rfl
    | events k => rw [State.countTick_eq]; rfl
  rw [State.candidates, State.candidates, same]

/-- What both watchdogs leave after their tick: the notices, the frame in the transmitter, and the two engines (R57). -/
theorem State.tick_of_watchdogs_told {s : State}
    (h : tickEvents.filter s.countTick.comes = [.watchdog .a, .watchdog .b]) :
    (s.link.tx ≠ .idle → s.tick.notices = s.notices.toldBoth ∧ s.tick.link.tx = s.link.tx) ∧
      (s.link.tx = .idle → s.candidates = [] →
        s.tick.link.tx = .sending ⟨0x0F, .notice, entryBytes 1 s.notices.toldBoth.toList⟩ ∧
          s.tick.notices = Vector.replicate 5 none) ∧
      ∀ l, s.tick.engine l =
        { (s.engine l).countedStuck.recovered (s.lineInForce l).recovery with tuned := (s.tick.engine l).tuned } := by
  obtain ⟨first, tick⟩ := State.tick_of_watchdogs h
  set u := s.countTick.countChoice 2 with hu
  have notices : u.notices = s.notices := by rw [hu, State.countTick_eq]; rfl
  have tx : u.link.tx = s.link.tx := by rw [hu, State.countTick_eq]; rfl
  have candidates : u.candidates = s.candidates := s.countTick_candidates ▸ State.candidates_congr rfl rfl rfl rfl rfl
  have engine (l : Line) : u.engine l = (s.engine l).countWatchdog := s.countTick_engine l
  have mode (l : Line) : u.lineInForce l = s.lineInForce l := by rw [hu, State.countTick_eq]; rfl
  set v := ((u.bothWatchdogsExpire first).refresh first).refresh (otherLine first) with hv
  have told : v.notices = (u.atOnce u.bothStuck).notices ∧ v.link.tx = (u.atOnce u.bothStuck).link.tx := by
    obtain ⟨toldNotices, toldTx⟩ := u.bothWatchdogsExpire_told first
    obtain ⟨one, one'⟩ := (u.bothWatchdogsExpire first).refresh_told first
    obtain ⟨two, two'⟩ := ((u.bothWatchdogsExpire first).refresh first).refresh_told (otherLine first)
    exact ⟨two.trans (one.trans toldNotices), by rw [hv, two', one', toldTx]⟩
  rw [tick]
  refine ⟨fun busy => ?_, fun idle none => ?_, fun l => ?_⟩
  · have held : u.atOnce u.bothStuck = u.bothStuck := State.atOnce_holdsBack (.inl (tx ▸ busy)) rfl
    have still : v.link.tx = s.link.tx := by
      rw [told.2, held]
      exact tx
    rcases v.selectNew_cases with ⟨_, same⟩ | ⟨idle, _⟩ | ⟨idle, _⟩
    · rw [same, told.1, held, State.bothStuck_notices, notices]
      exact ⟨rfl, still⟩
    · exact absurd (still ▸ idle) busy
    · exact absurd (still ▸ idle) busy
  · obtain ⟨sent, empty⟩ := State.atOnce_bothStuck (tx.trans idle) (candidates.trans none)
    rw [State.selectNew_sending (told.2.trans sent), told.1, told.2, sent, notices]
    exact ⟨rfl, empty⟩
  · have recovered (m : Line) : (u.bothWatchdogsExpire first).engine m =
        (s.engine m).countedStuck.recovered (s.lineInForce m).recovery := by
      rw [State.bothWatchdogsExpire_engine, engine, mode, Engine.recovered_countWatchdog]
    have calm (m : Line) : ((u.bothWatchdogsExpire first).engine m).watchdog = 0 := by
      rw [recovered]
      exact Engine.recovered_watchdog _ _
    have ran : v.selectNew.engine l = v.engine l := by rw [State.engine, v.selectNew_frame.2.2]; rfl
    rw [ran, ← recovered l]
    by_cases same : l = otherLine first
    · have before := (u.bothWatchdogsExpire first).refresh_other (otherLine_ne first)
      rw [same, hv, State.refresh_calm (by rw [before]; exact calm _), before]
    · have isFirst : l = first := by
        cases l <;> cases first <;> simp_all [otherLine]
      rw [isFirst, hv, State.refresh_other _ (otherLine_ne first).symm]
      exact State.refresh_calm (calm first)

end Sys2Proof.Machine
end

section
/-! SUPPORT. The statement about the line watchdogs (R57, R58). -/

namespace Sys2Proof.Machine

/-- An exchange cut off by its line's watchdog: the line, what is told, and the slot (R57, R58; log entry 10). -/
theorem State.watchdogExpires_reset {s : State} {l : Line} (reset : (s.lineInForce l).recovery = .reset) :
    let t := (s.watchdogExpires l).refresh l
    t.engine l = { (s.engine l).countedStuck.lineReset with tuned := (t.engine l).tuned } ∧ t.lineOutput l = .mark ∧
      t.notices = (s.atOnce { s with notices := s.notices.raise .lineStuck (stuckFlag l) 0 }).notices := by
  dsimp only
  have engine := s.watchdogExpires_lines l
  rw [reset] at engine
  have calm : ((s.watchdogExpires l).engine l).watchdog = 0 := by rw [engine]; rfl
  have refreshed := State.refresh_calm calm
  rw [engine] at refreshed
  refine ⟨refreshed, State.lineOutput_low (by rw [refreshed]; rfl), ?_⟩
  have told : (s.watchdogExpires l).notices = (s.toldStuck l).notices :=
    (State.recover_told l (s.holdsBack_toldStuck l)).1
  have ran : s.toldStuck l =
      (s.atOnce { s with notices := s.notices.raise .lineStuck (stuckFlag l) 0 }).running s.units
        (s.countStuck l).engines := by
    rw [State.toldStuck, ← State.atOnce_running s _ s.units s.units s.engines, State.countStuck_eq]
    rfl
  rw [(State.refresh_told _ l).1, told, ran]
  rfl

/-- What ABORTED does to a slot whose record stays (R58, R71, R105, R107, R108). -/
theorem State.watchdogExpires_slot {s : State} {l : Line} {x : Exchange} (reset : (s.lineInForce l).recovery = .reset)
    (exchange : (s.engine l).exchange = some x) (new : (s.unit x.slot).superseded = false) (stays : s.RecordStays x.slot) :
    let u := s.unit x.slot
    let v := ((s.watchdogExpires l).refresh l).unit x.slot
    v.counters = { u.counters with interrupted := bump u.counters.interrupted } ∧ v.pendingAck = u.pendingAck ∧
      (u.presence = .locked → v.presence = .faltering ∧ v.fail = 1) ∧
      (u.presence = .faltering → 2 ≤ u.fail → v.presence = .lost ∧ v.returning = true) := by
  dsimp only
  have standing := State.watchdogExpires_unit reset exchange new stays
  have unit : ((s.watchdogExpires l).refresh l).unit x.slot = (s.watchdogExpires l).unit x.slot := by
    rw [State.refresh_eq, State.unit_setEngine]
  rw [unit, standing.counters, standing.pendingAck, standing.presence, standing.fail, standing.returning]
  by_cases third : (s.unit x.slot).presence = .faltering ∧ 2 ≤ (s.unit x.slot).fail
  · rw [UnitRun.failedOnce, if_pos third]
    exact ⟨rfl, rfl, fun locked => by simp [third.1] at locked, fun _ _ => ⟨rfl, rfl⟩⟩
  · rw [UnitRun.failedOnce, if_neg third]
    refine ⟨?_, ?_, fun locked => ?_, fun faltering twice => absurd ⟨faltering, twice⟩ third⟩
    · cases h : (s.unit x.slot).presence <;> simp [UnitRun.missed, h, SlotCounters.count]
    · cases h : (s.unit x.slot).presence <;> simp [UnitRun.missed, h]
    · simp [UnitRun.missed, locked]

end Sys2Proof.Machine

namespace Sys2Proof.Proofs

open Sys2Proof.Machine

/-- Settles O52, line by line from the four steps of an expiry, and for both lines at one tick from the tick's events. -/
theorem watchdogExpiryResetsTheLine : Obligations.WatchdogExpiryResetsTheLine := by
  unfold Obligations.WatchdogExpiryResetsTheLine
  intro s l e flag held told counted unsettled wiped now
  have raised : s.notices.raise .lineStuck (stuckFlag l) 0 = told := by cases l <;> rfl
  have flagged : e.countedStuck.recovered .flag = counted := rfl
  have reset : e.countedStuck.recovered .reset = wiped := rfl
  have alone (out : unsettled) (idle : (s.lineInForce l).recovery = .reset → e.exchange = none) :
      exec (.lineWatchdog l) s = now (e.countedStuck.recovered (s.lineInForce l).recovery) := by
    rw [exec_lineWatchdog (e.unsettled_iff.mpr out), State.selectNew_watchdogExpires idle, raised]
  refine ⟨fun settled => exec_lineWatchdog_settled fun h => settled (e.unsettled_iff.mp h), fun out mode => ?_,
    fun out mode => ⟨fun idle => ?_, fun x exchange => ?_⟩, fun empty events => ?_⟩
  · rw [alone out (fun h => nomatch mode.symm.trans h), mode, flagged]
  · rw [alone out fun _ => idle, mode, reset]
  · obtain ⟨engine, output, notices⟩ := State.watchdogExpires_reset mode
    rw [raised] at notices
    exact ⟨_, exec_lineWatchdog (e.unsettled_iff.mpr out), engine, output, notices,
      State.watchdogExpires_slot mode exchange⟩
  · intro both
    obtain ⟨busy, idle, engine⟩ := State.tick_of_watchdogs_told events
    have own := engine l
    have toldBoth : s.notices.toldBoth = both := rfl
    rw [toldBoth] at busy idle
    refine ⟨s.tick, by rw [step, empty], busy, idle, fun mode => ?_, fun mode => ?_⟩
    · rwa [mode] at own
    · rwa [mode] at own

end Sys2Proof.Proofs
end

section
/-! SUPPORT. The sweep's ranges: what halving makes of [1,31], and how a search grows and shrinks (R91, R94). -/

namespace Sys2Proof.Machine

/-! ### Ranges made by halving (R91) -/

theorem halvings_lt {fuel lo hi d : Nat} {r : AddrRange} (made : halvings fuel lo hi r = some d) : d < fuel := by
  induction fuel generalizing lo hi d with
  | zero => cases made
  | succ fuel ih =>
    unfold halvings at made
    split at made
    · cases made
      omega
    · split at made
      all_goals
        obtain ⟨c, deeper, rfl⟩ := Option.map_eq_some_iff.mp made
        have := ih deeper
        omega

/-- No halving leads out of the range that is halved. -/
theorem halvings_within {fuel lo hi d : Nat} {r : AddrRange} (made : halvings fuel lo hi r = some d)
    (ordered : lo ≤ hi + 1) : lo ≤ r.lo ∧ r.hi ≤ hi := by
  induction fuel generalizing lo hi d with
  | zero => cases made
  | succ fuel ih =>
    unfold halvings at made
    split at made
    · next whole =>
      subst whole
      exact ⟨le_refl _, le_refl _⟩
    · split at made
      all_goals
        obtain ⟨c, deeper, rfl⟩ := Option.map_eq_some_iff.mp made
        have := ih deeper (by omega)
        omega

theorem halvings_zero {fuel lo hi : Nat} {r : AddrRange} (made : halvings fuel lo hi r = some 0) : r = ⟨lo, hi⟩ := by
  cases fuel with
  | zero => cases made
  | succ fuel =>
    unfold halvings at made
    split at made
    · assumption
    · split at made <;> simp at made

/-- A range is reached by no halving of itself. -/
theorem halvings_whole {fuel lo hi : Nat} (left : 0 < fuel) : halvings fuel lo hi ⟨lo, hi⟩ = some 0 := by
  cases fuel with
  | zero => omega
  | succ fuel => simp [halvings]

/-- The two halves of a range of several addresses are one halving deeper, while halvings are left. -/
theorem halvings_halves {fuel lo hi d : Nat} {r : AddrRange} (made : halvings fuel lo hi r = some d)
    (several : r.lo < r.hi) (size : hi - lo < 2 ^ (fuel - 1)) (ordered : lo ≤ hi + 1) :
    halvings fuel lo hi ⟨r.lo, (r.lo + r.hi) / 2⟩ = some (d + 1) ∧
      halvings fuel lo hi ⟨(r.lo + r.hi) / 2 + 1, r.hi⟩ = some (d + 1) := by
  induction fuel generalizing lo hi d with
  | zero => cases made
  | succ fuel ih =>
    have within := halvings_within made ordered
    have left : 0 < fuel := by
      rcases Nat.eq_zero_or_pos fuel with rfl | pos
      · simp only [Nat.zero_add, Nat.sub_self, Nat.pow_zero] at size
        omega
      · exact pos
    have room : 2 ^ fuel = 2 * 2 ^ (fuel - 1) := by
      rw [← Nat.pow_succ']
      congr 1
      omega
    rw [Nat.add_sub_cancel, room] at size
    have notLower : (⟨r.lo, (r.lo + r.hi) / 2⟩ : AddrRange) ≠ ⟨lo, hi⟩ := by
      simp only [ne_eq, AddrRange.mk.injEq]
      omega
    have notUpper : (⟨(r.lo + r.hi) / 2 + 1, r.hi⟩ : AddrRange) ≠ ⟨lo, hi⟩ := by
      simp only [ne_eq, AddrRange.mk.injEq]
      omega
    unfold halvings at made ⊢
    rw [if_neg notLower, if_neg notUpper]
    split at made
    · next whole =>
      cases made
      subst whole
      rw [if_pos (le_refl _), if_neg (by dsimp only at several ⊢; omega), halvings_whole left, halvings_whole left]
      exact ⟨rfl, rfl⟩
    · split at made
      · next lower =>
        obtain ⟨c, deeper, rfl⟩ := Option.map_eq_some_iff.mp made
        obtain ⟨first, second⟩ := ih deeper (by omega) (by omega)
        rw [if_pos (by dsimp only; omega), if_pos lower, first, second]
        exact ⟨rfl, rfl⟩
      · next upper =>
        obtain ⟨c, deeper, rfl⟩ := Option.map_eq_some_iff.mp made
        obtain ⟨first, second⟩ := ih deeper (by omega) (by omega)
        have inside := halvings_within deeper (by omega)
        rw [if_neg (by dsimp only; omega), if_neg upper, first, second]
        exact ⟨rfl, rfl⟩

/-! ### Depths -/

namespace AddrRange

variable {r : AddrRange}

/-- A range of a depth below 6 is made by that many halvings. -/
theorem halvings_of_depth (made : r.depth < 6) : halvings 6 1 31 r = some r.depth := by
  unfold depth at made ⊢
  cases h : halvings 6 1 31 r with
  | none => simp [h] at made
  | some d => rfl

theorem depth_of_halvings {d : Nat} (made : halvings 6 1 31 r = some d) : r.depth = d := by
  simp [depth, made]

theorem within_of_depth (made : r.depth < 6) : 1 ≤ r.lo ∧ r.hi ≤ 31 :=
  halvings_within (halvings_of_depth made) (by omega)

theorem whole_of_depth (made : r.depth = 0) : r = ⟨1, 31⟩ :=
  halvings_zero (made ▸ halvings_of_depth (made ▸ by omega : r.depth < 6))

/-- Halves of a range that is made by halving are one deeper, and made by halving (R94). -/
theorem halves_depth (made : r.depth < 6) (several : r.lo < r.hi) :
    depth ⟨r.lo, (r.lo + r.hi) / 2⟩ = r.depth + 1 ∧ depth ⟨(r.lo + r.hi) / 2 + 1, r.hi⟩ = r.depth + 1 ∧
      r.depth + 1 < 6 := by
  obtain ⟨lower, upper⟩ := halvings_halves (halvings_of_depth made) several (by decide) (by omega)
  exact ⟨depth_of_halvings lower, depth_of_halvings upper, halvings_lt lower⟩

end AddrRange

/-! ### Searches -/

theorem searchOk_nil : SearchOk [] := ⟨nofun, .nil, .nil, .nil⟩

/-- The range an empty stack is reloaded with (R91). -/
theorem searchOk_whole : SearchOk [⟨1, 31⟩] := by decide

theorem SearchOk.tail {r : AddrRange} {rest : List AddrRange} (h : SearchOk (r :: rest)) : SearchOk rest := by
  obtain ⟨each, apart, sinking, strict⟩ := h
  exact ⟨fun x mem => each x (.tail r mem), apart.tail, sinking.tail, List.Pairwise.tail strict⟩

/-- A range of several addresses replaced by its two halves (R94). -/
theorem SearchOk.split {r : AddrRange} {rest : List AddrRange} (h : SearchOk (r :: rest)) (several : r.lo < r.hi) :
    SearchOk (splitRange r rest) := by
  obtain ⟨each, apart, sinking, strict⟩ := h
  obtain ⟨lower, upper, deep⟩ := AddrRange.halves_depth (each r (by simp)).2 several
  rw [List.pairwise_cons] at apart sinking
  refine ⟨fun x mem => ?_, ?_, ?_, ?_⟩
  · rcases List.mem_cons.mp mem with rfl | mem
    · exact ⟨by dsimp only; omega, by omega⟩
    · rcases List.mem_cons.mp mem with rfl | mem
      · exact ⟨by dsimp only; omega, by omega⟩
      · exact each x (.tail r mem)
  · refine .cons (fun b mem => ?_) (.cons (fun b mem => ?_) apart.2)
    · rcases List.mem_cons.mp mem with rfl | mem
      · exact .inl (Nat.lt_succ_self _)
      · have := apart.1 b mem
        dsimp only
        omega
    · have := apart.1 b mem
      dsimp only
      omega
  · refine .cons (fun b mem => ?_) (.cons (fun b mem => ?_) sinking.2)
    · rcases List.mem_cons.mp mem with rfl | mem
      · omega
      · have := sinking.1 b mem
        omega
    · have := sinking.1 b mem
      omega
  · refine .cons (fun b mem => ?_) strict
    have := sinking.1 b mem
    omega

/-- A strictly falling list of numbers is no longer than its first number allows. -/
theorem length_le_of_falling {n : Nat} {rs : List AddrRange} (falls : rs.Pairwise fun a b => b.depth < a.depth)
    (bounds : ∀ r ∈ rs, 1 ≤ r.depth ∧ r.depth ≤ n) : rs.length ≤ n := by
  induction rs generalizing n with
  | nil => exact Nat.zero_le _
  | cons r rest ih =>
    rw [List.pairwise_cons] at falls
    have own := bounds r (by simp)
    have shorter := ih (n := n - 1) falls.2 fun b mem => by
      have := falls.1 b mem
      have := bounds b (.tail r mem)
      omega
    rw [List.length_cons]
    omega

/-- At most six ranges are searched, all within 1 to 31: beside another range none is [1,31], and all but the first fall in
depth (R91). -/
theorem SearchOk.bounds {rs : List AddrRange} (h : SearchOk rs) :
    rs.length ≤ 6 ∧ ∀ r ∈ rs, 1 ≤ r.lo ∧ r.lo ≤ r.hi ∧ r.hi ≤ 31 := by
  obtain ⟨each, apart, _, strict⟩ := h
  have inside (r : AddrRange) (mem : r ∈ rs) : 1 ≤ r.lo ∧ r.lo ≤ r.hi ∧ r.hi ≤ 31 := by
    obtain ⟨ordered, made⟩ := each r mem
    obtain ⟨low, high⟩ := AddrRange.within_of_depth made
    exact ⟨low, ordered, high⟩
  refine ⟨?_, inside⟩
  cases rs with
  | nil => exact Nat.zero_le _
  | cons r rest =>
    have short := length_le_of_falling (n := 5) strict fun b mem => by
      have made := (each b (.tail r mem)).2
      have proper : b.depth ≠ 0 := fun whole => by
        have same := AddrRange.whole_of_depth whole
        subst same
        have beside := (List.pairwise_cons.mp apart).1 _ mem
        have own := inside r (by simp)
        dsimp only at beside
        omega
      omega
    rw [List.length_cons]
    rw [List.tail_cons] at short
    omega

end Sys2Proof.Machine
end

section
/-! SUPPORT. The three ways in which an engine is in order: at rest, waiting with something due, or busy with what it has
begun (R65). -/

namespace Sys2Proof.Machine

/-- The engine is in order: its work and its search. -/
def Engine.Ok (e : Engine) : Prop := e.WorkOk ∧ SearchOk e.ranges

/-- Nothing is begun, the driver is low, and the stack is that of a search. -/
structure Engine.Free (e : Engine) : Prop where
  exchange : e.exchange = none
  probe : e.probe = none
  driver : e.driver = false
  conflicts : e.conflicts < Config.conflictLimit
  search : SearchOk e.stack

/-- The engine is in its ring or in its sweep step: neither before its first pass nor waiting for a tick. -/
def Engine.InPass (e : Engine) : Prop := e.stage = .ring ∨ e.stage = .sweepStep

/-- IDLE or in the guard, with nothing due. -/
structure Engine.Resting (e : Engine) : Prop extends e.Free where
  xstate : e.xstate = .idle ∨ e.xstate = .guarding
  due : e.due = none
  tick : e.stage = .tickWait → e.xstate = .idle
  toBegin : e.stage = .toBegin → e.run = none

/-- PAUSED, with something due that has not begun. -/
structure Engine.Waiting (e : Engine) : Prop extends e.Free where
  xstate : e.xstate = .paused
  due : e.due.isSome = true
  run : e.due = some .run → e.run.isSome = true
  stage : e.InPass

/-- An exchange or a probe is begun: being sent, to be sent again, or in its reply period. -/
structure Engine.Busy (e : Engine) : Prop where
  one : e.exchange = none ∨ e.probe = none
  begun : (e.exchange.isSome || e.probe.isSome) = true
  xstate : e.xstate ≠ .idle ∧ e.xstate ≠ .guarding
  due : e.due = none
  stage : e.InPass
  driver : e.driver = true ↔ e.xstate = .sending
  conflicts : e.conflicts < Config.conflictLimit
  search : SearchOk e.ranges

namespace Engine

variable {e : Engine}

theorem Free.ranges (h : e.Free) : e.ranges = e.stack := by simp [Engine.ranges, h.probe]

theorem Resting.ok (h : e.Resting) : e.Ok := by
  obtain ⟨⟨exchange, probe, driver, conflicts, search⟩, xstate, due, tick, toBegin⟩ := h
  refine ⟨⟨?_, ?_, .inl exchange, ?_, ?_, ?_, tick, fun first => ⟨xstate, toBegin first⟩, ?_, conflicts⟩, ?_⟩
  · rcases xstate with idle | guarding <;> simp [*]
  · simp [due]
  · simp [exchange, probe]
  · rcases xstate with idle | guarding <;> simp [XState.active, *]
  · rcases xstate with idle | guarding <;> simp [*]
  · simp [due]
  · simpa [Engine.ranges, probe] using search

theorem Waiting.ok (h : e.Waiting) : e.Ok := by
  obtain ⟨⟨exchange, probe, driver, conflicts, search⟩, xstate, due, run, stage⟩ := h
  refine ⟨⟨?_, fun _ => ⟨xstate, exchange, probe⟩, .inl exchange, ?_, ?_, ?_, ?_, ?_, run, conflicts⟩, ?_⟩
  · simp [driver, xstate]
  · simp [exchange, probe]
  · simp [xstate, XState.active]
  · simp [due]
  · rcases stage with ring | sweep <;> simp [*]
  · rcases stage with ring | sweep <;> simp [*]
  · simpa [Engine.ranges, probe] using search

theorem Busy.ok (h : e.Busy) : e.Ok := by
  obtain ⟨one, begun, xstate, due, stage, driver, conflicts, search⟩ := h
  refine ⟨⟨driver, ?_, one, fun _ => xstate, fun _ => begun, fun _ => ?_, ?_, ?_, ?_, conflicts⟩, search⟩
  · simp [due]
  · rw [Bool.or_assoc, begun, Bool.or_true]
  · rcases stage with ring | sweep <;> simp [*]
  · rcases stage with ring | sweep <;> simp [*]
  · simp [due]

/-- An engine in order is at rest, waits with something due, or is busy. -/
theorem Ok.cases (h : e.Ok) : e.Resting ∨ e.Waiting ∨ e.Busy := by
  obtain ⟨⟨driver, due, one, begun, active, paused, tick, toBegin, run, conflicts⟩, search⟩ := h
  have stage (early : e.xstate ≠ .idle) (late : e.xstate ≠ .guarding) : e.InPass := by
    unfold Engine.InPass
    cases at_ : e.stage with
    | toBegin => exact absurd (toBegin at_).1 (by simp [early, late])
    | tickWait => exact absurd (tick at_) early
    | ring => exact .inl rfl
    | sweepStep => exact .inr rfl
  by_cases work : (e.exchange.isSome || e.probe.isSome) = true
  · obtain ⟨early, late⟩ := begun work
    have nothing : e.due = none := by
      cases held : e.due with
      | none => rfl
      | some d =>
        obtain ⟨_, exchange, probe⟩ := due (by simp [held])
        simp [exchange, probe] at work
    exact .inr (.inr ⟨one, work, ⟨early, late⟩, nothing, stage early late, driver, conflicts, search⟩)
  · have exchange : e.exchange = none := by simp_all
    have probe : e.probe = none := by simp_all
    have still : e.xstate.active = false := by simpa [work] using mt active work
    have low : e.driver = false := by
      by_contra high
      rw [driver.mp (by simpa using high)] at still
      cases still
    have free : e.Free := ⟨exchange, probe, low, conflicts, by simpa [Engine.ranges, probe] using search⟩
    cases xstate : e.xstate with
    | idle | guarding =>
      have nothing : e.due = none := by
        cases held : e.due with
        | none => rfl
        | some d => exact absurd (due (by simp [held])).1 (by simp [xstate])
      exact .inl ⟨free, by simp [xstate], nothing, tick, fun first => (toBegin first).2⟩
    | paused =>
      have waits : e.due.isSome = true := by simpa [exchange, probe] using paused xstate
      exact .inr (.inl ⟨free, xstate, waits, run, stage (by simp [xstate]) (by simp [xstate])⟩)
    | sending | await | receiving => simp [xstate, XState.active] at still

theorem Ok.resting (h : e.Ok) (xstate : e.xstate = .idle ∨ e.xstate = .guarding) : e.Resting := by
  rcases h.cases with rest | waits | busy
  · exact rest
  · simp [waits.xstate] at xstate
  · simp [busy.xstate] at xstate

theorem Ok.waiting (h : e.Ok) (due : e.due.isSome = true) : e.Waiting := by
  rcases h.cases with rest | waits | busy
  · simp [rest.due] at due
  · exact waits
  · simp [busy.due] at due

theorem Ok.busy (h : e.Ok) (begun : (e.exchange.isSome || e.probe.isSome) = true) : e.Busy := by
  rcases h.cases with rest | waits | busy
  · simp [rest.exchange, rest.probe] at begun
  · simp [waits.exchange, waits.probe] at begun
  · exact busy

theorem Ok.busy_of_active (h : e.Ok) (active : e.xstate.active = true) : e.Busy := by
  rcases h.cases with rest | waits | busy
  · rcases rest.xstate with idle | guarding <;> simp [*, XState.active] at active
  · simp [waits.xstate, XState.active] at active
  · exact busy

/-- Before its first pass, and while it waits for a tick, an engine is at rest. -/
theorem Ok.resting_of_stage (h : e.Ok) (stage : e.stage = .tickWait ∨ e.stage = .toBegin) : e.Resting := by
  rcases h.cases with rest | waits | busy
  · exact rest
  · rcases waits.stage with ring | sweep <;> simp [*] at stage
  · rcases busy.stage with ring | sweep <;> simp [*] at stage

theorem Busy.with_exchange (h : e.Busy) {x : Exchange} (exchange : e.exchange = some x) :
    e.probe = none ∧ SearchOk e.stack := by
  have probe : e.probe = none := h.one.resolve_left (by simp [exchange])
  exact ⟨probe, by simpa [Engine.ranges, probe] using h.search⟩

theorem Busy.with_probe (h : e.Busy) {p : Probe} (probe : e.probe = some p) :
    e.exchange = none ∧ SearchOk (p.range :: e.stack) := by
  have exchange : e.exchange = none := h.one.resolve_right (by simp [probe])
  exact ⟨exchange, by simpa [Engine.ranges, probe] using h.search⟩

end Engine

end Sys2Proof.Machine
end

section
/-! SUPPORT. Passes and runs at one line, and the engine after each: what becomes due leaves it in order (R86 to R91, R96). -/

namespace Sys2Proof.Machine

/-! ### What becomes due (R86, R87, R89) -/

/-- An entry that is served is due, and nothing else changes. -/
theorem State.entryDue_served (s : State) (l : Line) (p : Nat) (n : SlotNo) {a : EntryAction} (served : a ≠ .confirmed) :
    s.entryDue l p n a =
      s.setEngine l { s.engine l with ringPtr := p, stage := .ring, xstate := .paused, due := some .entry } := by
  simp [State.entryDue, served]

/-- An entry that is confirmed begins a confirmation run, whose first telegram is due (R96, R99). -/
theorem State.entryDue_confirmed (s : State) (l : Line) (p : Nat) (n : SlotNo) :
    s.entryDue l p n .confirmed =
      (s.setUnit n { s.unit n with confirm := 0, syncRequest := true }).setEngine l
        { s.engine l with
          ringPtr := p, stage := .ring, xstate := .paused, due := some .run, run := some ⟨n, true⟩ } := by
  simp [State.entryDue, State.startRun, State.setUnit, State.setEngine, State.unit, State.engine]

namespace Engine

variable {e : Engine}

theorem Free.waiting (h : e.Free) {p : Nat} {stage : Stage} {d : Due} {run : Option ConfirmRun}
    (inPass : stage = .ring ∨ stage = .sweepStep) (runs : d = .run → run.isSome = true) :
    Ok { e with ringPtr := p, stage := stage, xstate := .paused, due := some d, run := run } :=
  Waiting.ok ⟨⟨h.exchange, h.probe, h.driver, h.conflicts, h.search⟩, rfl, rfl, fun same => runs (Option.some.inj same),
    inPass⟩

end Engine

section

variable {s : State} {l : Line}

theorem State.entryDue_ok (free : (s.engine l).Free) (p : Nat) (n : SlotNo) (a : EntryAction) :
    ((s.entryDue l p n a).engine l).Ok := by
  by_cases confirmed : a = .confirmed
  · rw [confirmed, State.entryDue_confirmed, State.engine_setEngine_same]
    exact free.waiting (.inl rfl) fun _ => rfl
  · rw [State.entryDue_served _ _ _ _ confirmed, State.engine_setEngine_same]
    exact free.waiting (.inl rfl) nofun

theorem State.sweepDue_ok (free : (s.engine l).Free) : ((s.sweepDue l).engine l).Ok := by
  rw [State.sweepDue, State.engine_setEngine_same]
  exact free.waiting (.inr rfl) nofun

theorem State.waitTick_ok (free : (s.engine l).Free) : ((s.waitTick l).engine l).Ok := by
  rw [State.waitTick, State.engine_setEngine_same]
  exact Engine.Resting.ok
    ⟨⟨free.exchange, free.probe, free.driver, free.conflicts, free.search⟩, .inl rfl, rfl, fun _ => rfl, nofun⟩

theorem State.beginPass_ok (free : (s.engine l).Free) : ((s.beginPass l).engine l).Ok := by
  have begun : Engine.Free ((s.setEngine l { s.engine l with
      ringPtr := 0, passActive := false, cut := false, due := none, xstate := .idle }).engine l) := by
    rw [State.engine_setEngine_same]
    exact ⟨free.exchange, free.probe, free.driver, free.conflicts, free.search⟩
  unfold State.beginPass
  dsimp only
  split
  · exact State.entryDue_ok begun _ _ _
  · split
    · exact State.sweepDue_ok begun
    · exact State.waitTick_ok begun

theorem State.endPass_ok (free : (s.engine l).Free) : ((s.endPass l).engine l).Ok := by
  unfold State.endPass
  split
  · exact State.sweepDue_ok free
  · split
    · exact State.beginPass_ok free
    · exact State.waitTick_ok free

theorem State.reachNext_ok (free : (s.engine l).Free) : ((s.reachNext l).engine l).Ok := by
  unfold State.reachNext
  split
  · exact State.endPass_ok free
  · split
    · exact State.entryDue_ok free _ _ _
    · exact State.endPass_ok free

theorem State.nextDue_ok (free : (s.engine l).Free) (inPass : (s.engine l).InPass) : ((s.nextDue l).engine l).Ok := by
  unfold State.nextDue
  rcases inPass with ring | sweep
  · rw [ring]
    exact State.reachNext_ok free
  · rw [sweep]
    exact State.beginPass_ok free

/-! ### Runs (R96, R99) -/

/-- A run that ends leaves nothing due, and at most moves the pointer. -/
theorem State.endRun_eq (s : State) (l : Line) (r : ConfirmRun) :
    s.endRun l r =
      s.setEngine l
        { s.engine l with
          run := none, due := none
          ringPtr :=
            if r.atEntry then (if (s.engine l).cut then (s.ring l).length else (s.engine l).ringPtr + 1)
            else (s.engine l).ringPtr } := by
  unfold State.endRun
  dsimp only
  split
  · simp [State.passEntry, *]
  · simp [*]

theorem State.endRun_free (free : (s.engine l).Free) (r : ConfirmRun) : ((s.endRun l r).engine l).Free := by
  rw [State.endRun_eq, State.engine_setEngine_same]
  exact ⟨free.exchange, free.probe, free.driver, free.conflicts, free.search⟩

theorem State.endRun_inPass (inPass : (s.engine l).InPass) (r : ConfirmRun) : ((s.endRun l r).engine l).InPass := by
  rw [State.endRun_eq, State.engine_setEngine_same]
  exact inPass

/-- An engine that goes on from rest: in a pass to what is next, and before its first pass nowhere. -/
theorem State.advance_ok (rest : (s.engine l).Resting) (noTick : (s.engine l).stage ≠ .tickWait) :
    ((s.advance l).engine l).Ok := by
  have inPass (begun : (s.engine l).stage ≠ .toBegin) : (s.engine l).InPass := by
    unfold Engine.InPass
    cases stage : (s.engine l).stage <;> simp [stage] at noTick begun ⊢
  unfold State.advance
  split
  · by_cases first : (s.engine l).stage = .toBegin
    · rw [State.nextDue, first]
      exact rest.ok
    · exact State.nextDue_ok rest.toFree (inPass first)
  · next r run =>
    have goes := inPass fun first => by simp [rest.toBegin first] at run
    split
    · rw [State.engine_setEngine_same]
      exact rest.toFree.waiting goes fun _ => by simp [run]
    · exact State.nextDue_ok (State.endRun_free rest.toFree r) (State.endRun_inPass goes r)

/-- An engine before its first pass begins it on a ready line; any other stays as it is. -/
theorem State.wakeEngine_ok (ok : (s.engine l).Ok) : ((s.wakeEngine l).engine l).Ok := by
  unfold State.wakeEngine
  split
  · next first => exact State.beginPass_ok (ok.resting_of_stage (.inr first.1)).toFree
  · exact ok

/-! ### First transmissions and repeats (R45, R53, R64, R91) -/

theorem State.adopt_engine (s : State) (l m : Line) : (s.adopt l).engine m = s.engine m := by
  unfold State.adopt
  split <;> rfl

/-- What is due is looked at again, and something else may be due after it, or nothing. -/
theorem State.recheck_ok (ok : (s.engine l).Ok) : ((s.recheck l).engine l).Ok := by
  unfold State.recheck
  split
  · next r due _ =>
    have waits := ok.waiting (by simp [due])
    split
    · exact ok
    · exact State.nextDue_ok (State.endRun_free waits.toFree r) (State.endRun_inPass waits.stage r)
  · next due =>
    have waits := ok.waiting (by simp [due])
    split
    · exact State.reachNext_ok waits.toFree
    · split
      · exact ok
      · exact State.reachNext_ok waits.toFree
  · exact ok

theorem State.due_of_dueSlot {n : SlotNo} (slot : s.dueSlot l = some n) : (s.engine l).due.isSome = true := by
  unfold State.dueSlot at slot
  split at slot
  · next due => simp [due]
  · next due => simp [due]
  · cases slot
  · cases slot

theorem noConflicts : 0 < Config.conflictLimit := by decide

theorem State.beginExchange_ok (waits : (s.engine l).Waiting) (n : SlotNo) :
    ((s.beginExchange l n).engine l).Ok := by
  rw [State.beginExchange, State.engine_setEngine_same, State.adopt_engine]
  refine Engine.Busy.ok ⟨.inr waits.probe, rfl, ⟨nofun, nofun⟩, rfl, waits.stage, ?_, noConflicts, ?_⟩
  · simp
  · simpa [Engine.ranges, waits.probe] using waits.search

theorem State.beginTelegram_ok (ok : (s.engine l).Ok) : ((s.beginTelegram l).engine l).Ok := by
  have again := State.recheck_ok ok
  unfold State.beginTelegram
  dsimp only
  split
  · exact again
  · next n slot => exact State.beginExchange_ok (again.waiting (State.due_of_dueSlot slot)) n

theorem State.beginAgain_ok (busy : (s.engine l).Busy) : ((s.beginAgain l).engine l).Ok := by
  rw [State.beginAgain, State.engine_setEngine_same]
  exact Engine.Busy.ok ⟨busy.one, busy.begun, ⟨nofun, nofun⟩, busy.due, busy.stage, by simp, busy.conflicts, busy.search⟩

/-- The range a probe takes is the top of the search, and the stack it leaves the rest (R91). -/
theorem takeRange_search {stack : List AddrRange} (search : SearchOk stack) :
    SearchOk ((takeRange stack).1 :: (takeRange stack).2) := by
  cases stack with
  | nil => exact searchOk_whole
  | cons r rest => exact search

theorem State.beginProbe_ok (waits : (s.engine l).Waiting) : ((s.beginProbe l).engine l).Ok := by
  rw [State.beginProbe, State.engine_setEngine_same, State.adopt_engine]
  refine Engine.Busy.ok ⟨.inl waits.exchange, by simp, ⟨nofun, nofun⟩, rfl, waits.stage, by simp, noConflicts, ?_⟩
  exact takeRange_search waits.search

theorem State.sendTelegram_ok (ok : (s.engine l).Ok) : ((s.sendTelegram l).engine l).Ok := by
  unfold State.sendTelegram
  split
  · next begun => exact State.beginAgain_ok (ok.busy (by simp [begun]))
  · exact State.beginTelegram_ok ok

theorem State.sendProbe_ok (ok : (s.engine l).Ok) (due : s.probeDue l = true) : ((s.sendProbe l).engine l).Ok := by
  unfold State.sendProbe
  split
  · next begun => exact State.beginAgain_ok (ok.busy (by simp [begun]))
  · next fresh =>
    refine State.beginProbe_ok (ok.waiting ?_)
    simp only [State.probeDue, fresh, Bool.false_or, Bool.and_eq_true, beq_iff_eq] at due
    simp [due]

end

end Sys2Proof.Machine
end

section
/-! SUPPORT. The engine in order after each exchange, answer, character, conflict and line reset (R47, R51 to R53, R58, R65,
R85, R90, R94). -/

namespace Sys2Proof.Machine

/-! ### Acts that leave a line's engine alone -/

/-- Acts that do not reach a line leave its engine alone. -/
theorem State.Acts.engine_of_out {rc : Reach} {s t : State} {m : Line} (out : ¬rc.line m) (h : s.Acts rc t) :
    t.engine m = s.engine m := by
  induction h with
  | refl => rfl
  | @close t _ k hk r _ ih =>
    obtain ⟨units, same, _⟩ := (t.setLane k r).applyAllStaged_eq
    rw [same]
    exact ih
  | @setEngine t _ l hl e ih =>
    have other : m ≠ l := fun same => out (same ▸ hl)
    rw [State.engine_setEngine_other _ _ other]
    exact ih
  | @select t _ _ src ih =>
    obtain ⟨_, _, _, _, engines, _⟩ := t.select_frame src
    rw [State.engine, engines]
    exact ih
  | setLane | setUnits | setLine | setNotices | storeIn | storeOut | emptyIn | dropOut | clearPenalty | setPort | choose =>
    assumption

/-- What lanes and slots may do: everything but the drop lines and the Link Port. -/
def Reach.offLines : Reach := ⟨fun _ => True, fun _ => False, True, True, False⟩

theorem Reach.offLines_wide : Reach.offLines.Wide := ⟨fun _ => trivial, trivial⟩

theorem State.Acts.offLines_engine {s t : State} (h : s.Acts .offLines t) (l : Line) : t.engine l = s.engine l :=
  h.engine_of_out id

theorem State.giveOutcome_engine (s : State) (x : Exchange) (o : ExchangeOutcome) (l : Line) :
    (s.giveOutcome x o).engine l = s.engine l := by
  rw [State.engine, (s.giveOutcome_lines x o).1]
  rfl

section

variable {s : State} {l : Line}

/-! ### Ends of exchanges (R65, R86, R96) -/

/-- Behind an outcome the run may end and the pointer may move; nothing else changes at the line. -/
theorem State.settleRun_engine (due : (s.engine l).due = none) (n : SlotNo) (failed : Bool) :
    ∃ p run, (s.settleRun l n failed).engine l = { s.engine l with ringPtr := p, run := run } := by
  unfold State.settleRun
  split
  · split
    · exact ⟨_, _, State.engine_setEngine_same _ _ _⟩
    · exact ⟨_, _, rfl⟩
  · split
    · rw [State.endRun_eq, State.engine_setEngine_same, ← due]
      exact ⟨_, _, rfl⟩
    · exact ⟨_, _, rfl⟩

/-- The engine after an exchange: the exchange is gone, and the run and the pointer are settled. -/
theorem State.endExchange_engine (due : (s.engine l).due = none) (x : Exchange) (o : ExchangeOutcome) (after : XState) :
    ∃ p run, (s.endExchange l x o after).engine l =
      { s.engine l with
        exchange := none, received := [], conflicts := 0, xstate := after, ringPtr := p, run := run } := by
  unfold State.endExchange
  dsimp only
  have engine := (s.setEngine l
    { s.engine l with exchange := none, received := [], conflicts := 0, xstate := after }).giveOutcome_engine x o l
  rw [State.engine_setEngine_same] at engine
  have settles := State.settleRun_engine (l := l) (by rw [engine]; exact due) x.slot
    ((s.unit x.slot).superseded || !o.isValid)
  rw [engine] at settles
  exact settles

/-- An engine in a pass with its driver low, and nothing in progress but an exchange that may end. -/
structure Engine.MayEnd (e : Engine) : Prop where
  probe : e.probe = none
  driver : e.driver = false
  due : e.due = none
  stage : e.InPass
  search : SearchOk e.stack

theorem Engine.Busy.mayEnd {e : Engine} (busy : e.Busy) {x : Exchange} (exchange : e.exchange = some x)
    (done : e.xstate ≠ .sending) : e.MayEnd := by
  obtain ⟨probe, search⟩ := busy.with_exchange exchange
  exact ⟨probe, by simpa using mt busy.driver.mp done, busy.due, busy.stage, search⟩

/-- An exchange ends in rest, and still in its pass. -/
theorem State.endExchange_rests (ends : (s.engine l).MayEnd) (x : Exchange) (o : ExchangeOutcome) {after : XState}
    (rests : after = .idle ∨ after = .guarding) :
    ((s.endExchange l x o after).engine l).Resting ∧ ((s.endExchange l x o after).engine l).InPass := by
  obtain ⟨p, run, engine⟩ := State.endExchange_engine ends.due x o after
  have inPass : ((s.endExchange l x o after).engine l).InPass := by
    rw [engine]
    exact ends.stage
  refine ⟨?_, inPass⟩
  rw [engine] at inPass ⊢
  exact ⟨⟨rfl, ends.probe, ends.driver, noConflicts, ends.search⟩, rests, ends.due,
    fun tick => by rcases inPass with ring | sweep <;> simp_all, fun first => by rcases inPass with ring | sweep <;> simp_all⟩

theorem State.endExchange_ok (ends : (s.engine l).MayEnd) (x : Exchange) (o : ExchangeOutcome) :
    ((s.endExchange l x o .guarding).engine l).Ok :=
  (State.endExchange_rests ends x o (.inr rfl)).1.ok

/-! ### The sweep (R93 to R95) -/

/-- A clean answer begins a run at most, as far as the line is concerned. -/
theorem State.cleanAnswer_engine (s : State) (l : Line) (address : Nat) :
    ∃ run, (s.cleanAnswer l address).engine l = { s.engine l with run := run } := by
  have restart (n : SlotNo) : (s.restartDetected n).engine l = s.engine l :=
    (State.Acts.refl.restartDetected Reach.offLines_wide n).offLines_engine l
  unfold State.cleanAnswer
  split
  · exact ⟨_, rfl⟩
  · split
    · exact ⟨_, State.engine_setEngine_same _ _ _⟩
    · exact ⟨_, State.engine_setEngine_same _ _ _⟩
    · exact ⟨_, restart _⟩
    · exact ⟨_, restart _⟩
    · exact ⟨_, rfl⟩

/-- An engine whose probe has ended goes into the guard, its search as it is. -/
theorem Engine.Busy.guards {e : Engine} (busy : e.Busy) {p : Probe} (probe : e.probe = some p) (done : e.xstate ≠ .sending)
    {stack : List AddrRange} (search : SearchOk stack) (answers : List (Byte × Bool)) (run : Option ConfirmRun) :
    Engine.Ok { e with probe := none, answers := answers, conflicts := 0, xstate := .guarding, stack := stack, run := run } := by
  obtain ⟨exchange, _⟩ := busy.with_probe probe
  exact Engine.Resting.ok ⟨⟨exchange, rfl, by simpa using mt busy.driver.mp done, noConflicts, search⟩, .inr rfl, busy.due,
    fun tick => by rcases busy.stage with ring | sweep <;> simp_all,
    fun first => by rcases busy.stage with ring | sweep <;> simp_all⟩

/-- A probe ends in the guard; a garbled range of several addresses goes back in two halves (R93, R94). -/
theorem State.endProbe_ok (busy : (s.engine l).Busy) {p : Probe} (probe : (s.engine l).probe = some p)
    (done : (s.engine l).xstate ≠ .sending) (answers : List (Byte × Bool)) :
    ((s.endProbe l p answers).engine l).Ok := by
  have search := (busy.with_probe probe).2
  unfold State.endProbe State.judgeAnswer
  split
  · rw [State.engine_setEngine_same]
    exact busy.guards probe done search.tail _ _
  · obtain ⟨run, engine⟩ := State.cleanAnswer_engine _ l _
    rw [engine, State.engine_setEngine_same]
    exact busy.guards probe done search.tail _ _
  · unfold State.garble
    split
    · next several =>
      simp only [State.setEngine_setEngine, State.engine_setEngine_same]
      exact busy.guards probe done (search.split several) _ _
    · simp only [State.setEngine_setEngine, State.engine_setEngine_same]
      exact busy.guards probe done search.tail [] _

/-! ### Characters (R51, R67, R85) -/

theorem XState.replyPeriod_iff (x : XState) : x.replyPeriod = true ↔ x = .await ∨ x = .receiving := by
  cases x <;> simp [XState.replyPeriod]

theorem XState.active_of_replyPeriod {x : XState} (h : x.replyPeriod = true) : x.active = true := by
  rcases x.replyPeriod_iff.mp h with rfl | rfl <;> rfl

/-- A character goes to an exchange, or to the sweep, only in a reply period (R51). -/
theorem Engine.destination_exchange {e : Engine} {x : Exchange} (h : e.destination = .exchange x) :
    e.xstate.replyPeriod = true ∧ e.exchange = some x := by
  unfold Engine.destination at h
  split at h
  case h_4 =>
    split at h
    · next period =>
      split at h <;> cases h
      exact ⟨period, ‹_›⟩
    · cases h
  all_goals cases h

theorem Engine.destination_probe {e : Engine} {p : Probe} (h : e.destination = .probe p) :
    e.xstate.replyPeriod = true ∧ e.probe = some p := by
  unfold Engine.destination at h
  split at h
  case h_4 =>
    split at h
    · next period =>
      split at h <;> cases h
      exact ⟨period, ‹_›⟩
    · cases h
  all_goals cases h

theorem Engine.Busy.receiving {e : Engine} (busy : e.Busy) (period : e.xstate.replyPeriod = true) :
    Engine.Busy { e with xstate := .receiving } := by
  have low : e.driver = false := by
    cases driver : e.driver with
    | false => rfl
    | true =>
      rw [busy.driver.mp driver] at period
      cases period
  exact { busy with xstate := ⟨nofun, nofun⟩, driver := by simp [low] }

theorem XState.not_sending_of_replyPeriod {x : XState} (h : x.replyPeriod = true) : x ≠ .sending := by
  rintro rfl
  cases h

theorem State.replyChar_ok (busy : (s.engine l).Busy) {x : Exchange} (exchange : (s.engine l).exchange = some x)
    (period : (s.engine l).xstate.replyPeriod = true) (err : CharError) (value : Byte) :
    ((s.replyChar l x err value).engine l).Ok := by
  have ends := busy.mayEnd exchange (XState.not_sending_of_replyPeriod period)
  unfold State.replyChar
  dsimp only
  split
  · exact State.endExchange_ok ends x _
  · split
    · exact State.endExchange_ok ends x _
    · split
      · exact State.endExchange_ok ends x _
      · rw [State.engine_setEngine_same]
        exact (busy.receiving period).ok

theorem State.answerChar_ok (busy : (s.engine l).Busy) {p : Probe} (probe : (s.engine l).probe = some p)
    (period : (s.engine l).xstate.replyPeriod = true) (err : CharError) (value : Byte) :
    ((s.answerChar l p err value).engine l).Ok := by
  unfold State.answerChar
  dsimp only
  split
  · exact State.endProbe_ok busy probe (XState.not_sending_of_replyPeriod period) _
  · rw [State.engine_setEngine_same]
    exact (busy.receiving period).ok

theorem State.takeChar_engine (s : State) (l : Line) (err : CharError) (count : Bool) :
    (s.takeChar l err count).engine l =
      { s.engine l with
        rx := rxAfter err
        counters := if count then (s.engine l).counters.countError err else (s.engine l).counters } := by
  simp [State.takeChar]

theorem State.deliver_ok (ok : (s.engine l).Ok) (ch : Sampled) : ((s.deliver l ch).engine l).Ok := by
  have takes (err : CharError) (count : Bool) : ((s.takeChar l err count).engine l).Ok := by
    rw [State.takeChar_engine]
    exact ok
  unfold State.deliver
  dsimp only
  split
  · exact takes _ _
  · next x going =>
    obtain ⟨period, exchange⟩ := Engine.destination_exchange going
    have busy := (takes ((s.engine l).tuned.error ch) true).busy_of_active (by
      rw [State.takeChar_engine]
      exact XState.active_of_replyPeriod period)
    exact State.replyChar_ok busy (by rw [State.takeChar_engine]; exact exchange)
      (by rw [State.takeChar_engine]; exact period) _ _
  · next p going =>
    obtain ⟨period, probe⟩ := Engine.destination_probe going
    have busy := (takes ((s.engine l).tuned.error ch) true).busy_of_active (by
      rw [State.takeChar_engine]
      exact XState.active_of_replyPeriod period)
    exact State.answerChar_ok busy (by rw [State.takeChar_engine]; exact probe)
      (by rw [State.takeChar_engine]; exact period) _ _
  · rw [State.strayChar, State.engine_setEngine_same]
    exact takes _ _
  · split
    · exact ok
    · exact takes _ _

theorem State.refresh_ok {m : Line} (ok : (s.engine m).Ok) : ((s.refresh l).engine m).Ok := by
  by_cases same : m = l
  · subst same
    rw [State.refresh_eq, State.engine_setEngine_same]
    exact ok
  · rwa [State.refresh_other _ same]

theorem State.deliverRun_ok (ok : (s.engine l).Ok) (chars : List Sampled) : ((s.deliverRun l chars).engine l).Ok := by
  unfold State.deliverRun
  induction chars generalizing s with
  | nil => exact ok
  | cons ch rest ih => exact ih (State.refresh_ok (State.deliver_ok ok ch))

theorem State.startEdge_ok (ok : (s.engine l).Ok) (accepted : Bool) : ((s.startEdge l accepted).engine l).Ok := by
  unfold State.startEdge
  dsimp only
  split
  · rw [State.engine_setEngine_same]
    split
    · next awaits =>
      have busy := ok.busy_of_active (by rw [awaits.2]; rfl)
      exact (busy.receiving (by rw [awaits.2]; rfl)).ok
    · exact ok
  · split
    · exact ok
    · rw [State.engine_setEngine_same]
      exact ok

/-! ### Completed transmissions and conflicts (R47, R52, R53) -/

theorem State.sendingDone_ok (ok : (s.engine l).Ok) (sending : (s.engine l).xstate = .sending) :
    ((s.sendingDone l).engine l).Ok := by
  have busy := ok.busy_of_active (by rw [sending]; rfl)
  rw [State.sendingDone_engine]
  exact Engine.Busy.ok { busy with xstate := ⟨nofun, nofun⟩, driver := by simp }

theorem State.countConflict_engine (s : State) (l : Line) (readBack : Option Sampled) :
    (s.countConflict l readBack).engine l =
      { s.engine l with
        driver := false
        rx := rxAfterReadBack (s.engine l).tuned (s.engine l).rx readBack
        conflicts := (s.engine l).conflicts + 1
        xstate := .paused
        counters := { (s.engine l).counters with echoConflicts := bump (s.engine l).counters.echoConflicts } } := by
  simp [State.countConflict]

/-- The 4th conflict of a probe puts its range back on the stack. -/
theorem State.giveUpProbe_ok (exchange : (s.engine l).exchange = none) (low : (s.engine l).driver = false) {p : Probe}
    (search : SearchOk (p.range :: (s.engine l).stack)) : ((s.giveUpProbe l p).engine l).Ok := by
  unfold State.giveUpProbe
  refine State.beginPass_ok ?_
  rw [State.engine_setEngine_same]
  exact ⟨exchange, rfl, low, noConflicts, search⟩

/-- A conflict leads to a repeat, or to the end of the telegram or the probe at the 4th (R53). -/
theorem State.conflict_ok (ok : (s.engine l).Ok) (sending : (s.engine l).xstate = .sending) (readBack : Option Sampled) :
    (((s.countConflict l readBack).afterConflict l).engine l).Ok := by
  have busy := ok.busy_of_active (by rw [sending]; rfl)
  have engine := s.countConflict_engine l readBack
  unfold State.afterConflict
  split
  · next few =>
    rw [engine] at few ⊢
    exact Engine.Busy.ok { busy with xstate := ⟨nofun, nofun⟩, driver := by simp, conflicts := few }
  · split
    · next x exchange =>
      rw [engine] at exchange
      obtain ⟨probe, search⟩ := busy.with_exchange exchange
      have ends : ((s.countConflict l readBack).engine l).MayEnd := by
        rw [engine]
        exact ⟨probe, rfl, busy.due, busy.stage, search⟩
      obtain ⟨rest, inPass⟩ := State.endExchange_rests ends x .conflictLimit (.inl rfl)
      refine State.advance_ok rest fun tick => ?_
      rcases inPass with ring | sweep <;> simp_all
    · next p exchange probe =>
      rw [engine] at exchange probe
      refine State.giveUpProbe_ok ?_ ?_ ?_ <;> rw [engine]
      · exact exchange
      · exact (busy.with_probe probe).2
    · next exchange probe =>
      rw [engine] at exchange probe
      have begun := busy.begun
      simp_all

/-! ### The watchdog and a new ring (R57, R58, R90) -/

theorem Engine.lineReset_ok (e : Engine) : e.lineReset.Ok := by
  refine Engine.Resting.ok ⟨⟨rfl, rfl, rfl, noConflicts, searchOk_nil⟩, ?_, rfl, nofun, fun _ => rfl⟩
  unfold Engine.lineReset
  dsimp only
  split <;> simp

/-- A new ring lets the engine finish what it has begun, and takes what is due from the old one away (R90). -/
theorem State.ringLoaded_ok (ok : (s.engine l).Ok) : ((s.ringLoaded l).engine l).Ok := by
  unfold State.ringLoaded
  simp only [State.engine_setEngine_same, State.setEngine_setEngine]
  split
  · split
    · next due =>
      have waits := ok.waiting (by simp [due])
      refine State.endPass_ok ?_
      rw [State.engine_setEngine_same]
      exact ⟨waits.exchange, waits.probe, waits.driver, waits.conflicts, waits.search⟩
    · rw [State.engine_setEngine_same]
      exact ok
  · rw [State.engine_setEngine_same]
    exact ok
  · rw [State.engine_setEngine_same]
    exact ok
  · rw [State.engine_setEngine_same]
    exact ok

end

end Sys2Proof.Machine
end

section
/-! SUPPORT. Both engines in order after every command and every tick. -/

namespace Sys2Proof.Machine

/-- The engine of every line is in order. -/
def State.LinesOk (s : State) : Prop := ∀ l, (s.engine l).Ok

theorem State.enginesOk_iff (s : State) : s.EnginesOk ↔ s.LinesOk := by
  constructor
  · intro ok l
    exact ok l (by cases l <;> simp)
  · exact fun ok l _ => ok l

/-- What a drop line's acts may touch holds every lane and every slot. -/
theorem Reach.ofLine_wide (l : Line) : (Reach.ofLine l).Wide := ⟨fun _ => trivial, trivial⟩

namespace State.LinesOk

variable {s t : State} {l : Line}

theorem congr (ok : s.LinesOk) (engines : t.engines = s.engines) : t.LinesOk := by
  intro l
  rw [State.engine, engines]
  exact ok l

theorem setEngine (ok : s.LinesOk) {e : Engine} (own : e.Ok) : (s.setEngine l e).LinesOk := by
  intro m
  by_cases same : m = l
  · subst same
    rwa [State.engine_setEngine_same]
  · rw [State.engine_setEngine_other _ _ same]
    exact ok m

/-- Acts at one line keep both engines in order, where they keep that line's engine in order. -/
theorem atLine (ok : s.LinesOk) (acts : s.Acts (.ofLine l) t) (own : (t.engine l).Ok) : t.LinesOk := by
  intro m
  by_cases same : m = l
  · exact same ▸ own
  · rw [acts.engine_of_out same]
    exact ok m

/-- Acts at lanes and slots. -/
theorem offLines (ok : s.LinesOk) (acts : s.Acts .offLines t) : t.LinesOk := fun l => by
  rw [acts.offLines_engine]
  exact ok l

theorem selectNew (ok : s.LinesOk) : s.selectNew.LinesOk := ok.congr s.selectNew_frame.2.2

theorem atOnce (ok : t.LinesOk) (before : State) : (before.atOnce t).LinesOk := ok.congr (before.atOnce_frame t).2.2.1

theorem selectByRank (ok : s.LinesOk) : s.selectByRank.LinesOk := by
  have won : s.selectWinner.LinesOk := by
    unfold State.selectWinner
    split
    · exact ok
    · next src _ =>
      obtain ⟨_, _, _, _, engines, _⟩ := s.select_frame src
      exact ok.congr engines
  unfold State.selectByRank
  split
  · exact ok
  · exact won
  · exact won

theorem refresh (ok : s.LinesOk) (l : Line) : (s.refresh l).LinesOk := fun _ => State.refresh_ok (ok _)

/-! ### The counter link (R9, R16) -/

theorem goodFrame (ok : s.LinesOk) : s.goodFrame.LinesOk := by
  have counted : (s.setLink s.link.goodFrame).LinesOk := ok
  have resumes : (s.setLink s.link.goodFrame).Acts .offLines (s.setLink s.link.goodFrame).resume :=
    (State.Acts.foldl (fun _ _ h => h.sameLane trivial) allLanes .refl).raiseNotice trivial _ _ _
  unfold State.goodFrame
  dsimp only
  split
  · exact counted.offLines resumes
  · exact counted

theorem latchRequest (ok : s.LinesOk) (body : List Byte) : (s.latchRequest body).LinesOk := by
  unfold State.latchRequest
  split <;> exact ok

theorem parseBody (ok : s.LinesOk) (k : LaneNo) (fuel position : Nat) (lost : Bool) (body : List Byte) :
    (s.parseBody k fuel position lost body).LinesOk :=
  ok.offLines (State.Acts.refl.parseBody trivial trivial _ _ _ _)

theorem perform (ok : s.LinesOk) (k : LaneNo) (position : Nat) (lost : Bool) (cmd : LaneCmd) :
    (s.perform k position lost cmd).after.LinesOk :=
  ok.offLines (State.Acts.refl.perform trivial trivial _ _ _)

theorem dispatch (ok : s.LinesOk) (good : GoodFrame) : (s.dispatch good).LinesOk := by
  cases good with
  | laneCommands k body => exact ok.goodFrame.parseBody k _ _ _ body
  | request body => exact ok.goodFrame.latchRequest body

theorem linkChar (ok : s.LinesOk) (ch : Option Byte) : (s.linkChar ch).LinesOk := by
  unfold State.linkChar State.frameEnded
  dsimp only
  split
  · exact ok
  · exact ok
  · exact selectByRank (dispatch (by exact ok) _)

theorem goQuiet (ok : s.LinesOk) : s.goQuiet.LinesOk := by
  have quiet : (s.setLink { s.link with state := .quiet, silenceCount := 0 }).LinesOk := ok
  have standby : State.Acts .offLines (s.setLink { s.link with state := .quiet, silenceCount := 0 })
      (State.standbyAll (s.setLink { s.link with state := .quiet, silenceCount := 0 })) := by
    unfold State.standbyAll
    exact State.Acts.foldl (fun _ _ h => h.standbyLane trivial) allLanes .refl
  exact quiet.offLines standby

theorem decisionExpires (ok : s.LinesOk) (k : LaneNo) : (s.decisionExpires k).LinesOk :=
  ok.offLines (State.Acts.refl.decisionExpires trivial)

theorem softReset (s : State) : s.softReset.LinesOk := by
  rw [State.softReset_eq]
  intro l
  cases l <;> exact ⟨resetEngine_workOk _, searchOk_nil⟩

theorem frameSent (ok : s.LinesOk) (f : Frame) : (s.frameSent f).LinesOk := by
  refine selectByRank ?_
  cases f.brings with
  | nothing => exact ok
  | linkSettings new => exact ok
  | softReset => exact softReset _

/-! ### Requests (R22, R23) -/

theorem takeRequest (ok : s.LinesOk) (code : Byte) {execute : List Byte → State → State}
    (executed : ∀ args u, u.LinesOk → (execute args u).LinesOk) : (s.takeRequest code execute).LinesOk := by
  rcases s.takeRequest_cases code execute with same | ⟨args, _, _, same⟩ <;> rw [same]
  · exact ok
  · exact executed args _ ok

theorem takeUnknown (ok : s.LinesOk) : s.takeUnknown.LinesOk := by
  unfold State.takeUnknown
  split
  · exact ok
  · split <;> exact ok
  · split <;> exact ok

theorem indexed (ok : s.LinesOk) {code : Byte} {len bound : Nat} {args : List Byte} {execute : Fin bound → List Byte → State}
    (executed : ∀ i fields, (execute i fields).LinesOk) : (s.indexed code len bound args execute).LinesOk := by
  unfold State.indexed
  split
  · exact ok
  · split
    · exact ok
    · split
      · exact executed _ _
      · exact ok

theorem valued (ok : s.LinesOk) {α : Type} {code : Byte} {check : FieldCheck α} {execute : α → State}
    (executed : ∀ x, (execute x).LinesOk) : (s.valued code check execute).LinesOk := by
  unfold State.valued
  split
  · exact ok
  · exact executed _

theorem ofScope (ok : s.LinesOk) {code : Byte} {args : List Byte} {execute : Scope → State}
    (executed : ∀ scope, (execute scope).LinesOk) : (s.scoped code args execute).LinesOk := by
  unfold State.scoped
  split
  · split
    · exact ok
    · exact executed _
  · exact ok

theorem ringLoaded (ok : s.LinesOk) (l : Line) : (s.ringLoaded l).LinesOk :=
  ok.atLine (State.Acts.refl.ringLoaded (Reach.ofLine_wide l) rfl) (State.ringLoaded_ok (ok l))

theorem loadRingOn (args : List Byte) (s : State) (ok : s.LinesOk) : (loadRingOn args s).LinesOk := by
  unfold Machine.loadRingOn
  split
  · split
    · exact ok
    · split
      · exact ok
      · refine ok.valued fun ring => ?_
        split
        · exact ok
        · exact ringLoaded (s := s.setRing _ ring) ok _
  · exact ok

theorem loadUnitOn (args : List Byte) (s : State) (ok : s.LinesOk) : (loadUnitOn args s).LinesOk := by
  refine ok.indexed fun n fields => ok.valued fun r => ?_
  split
  · exact ok
  · split
    · exact ok
    · obtain ⟨units, entry, reply, same, _⟩ := s.acceptUnit_eq n r fields
      rw [same]
      exact ok

theorem loadLaneOn (args : List Byte) (s : State) (ok : s.LinesOk) : (loadLaneOn args s).LinesOk := by
  refine ok.indexed fun k fields => ok.valued fun r => ?_
  split <;> exact ok

theorem loadPartitionOn (args : List Byte) (s : State) (ok : s.LinesOk) : (loadPartitionOn args s).LinesOk := by
  unfold Machine.loadPartitionOn
  split
  · exact ok
  · refine ok.valued fun sizes => ?_
    split <;> exact ok

theorem setLinkOn (args : List Byte) (s : State) (ok : s.LinesOk) : (setLinkOn args s).LinesOk := by
  unfold Machine.setLinkOn
  split
  · exact ok
  · exact ok.valued fun _ => ok

theorem setLineOn (args : List Byte) (s : State) (ok : s.LinesOk) : (setLineOn args s).LinesOk := by
  unfold Machine.setLineOn
  split
  · exact ok
  · split
    · exact ok
    · split
      · exact ok
      · exact ok.valued fun _ => ok

theorem readStatusOn (args : List Byte) (s : State) (ok : s.LinesOk) : (readStatusOn args s).LinesOk := by
  unfold Machine.readStatusOn
  split <;> exact ok

theorem clearLineCounters (ok : s.LinesOk) (l : Line) : (s.clearLineCounters l).LinesOk := ok.setEngine (ok l)

theorem clearCountersOn (args : List Byte) (s : State) (ok : s.LinesOk) : (clearCountersOn args s).LinesOk := by
  refine ok.ofScope fun scope => ?_
  show (s.clearCounters scope).LinesOk
  cases scope with
  | link => exact ok
  | line l => exact ok.clearLineCounters l
  | slot n => exact ok
  | all =>
    have link : s.clearLinkCounters.LinesOk := ok
    refine ((link.clearLineCounters .a).clearLineCounters .b).offLines ?_
    exact State.Acts.foldl (fun _ n h => h.anyUnit Reach.offLines_wide n _) _ .refl

theorem softResetOn (args : List Byte) (s : State) (ok : s.LinesOk) : (softResetOn args s).LinesOk := by
  unfold Machine.softResetOn
  split <;> exact ok

/-! ### Ticks (R57, R89) -/

theorem countTick (ok : s.LinesOk) : s.countTick.LinesOk := by
  intro l
  rw [State.countTick_engine, Engine.countWatchdog]
  split <;> exact ok l

theorem countStuck (ok : s.LinesOk) (l : Line) : (s.countStuck l).LinesOk :=
  setEngine (s := s) (l := l) ok (e := { s.engine l with counters := _ }) (ok l)

theorem lineReset (ok : s.LinesOk) (l : Line) : (s.lineReset l).LinesOk := by
  have reset : (s.setEngine l (s.engine l).lineReset).LinesOk := ok.setEngine (s.engine l).lineReset_ok
  unfold State.lineReset
  dsimp only
  split
  · exact reset
  · exact reset.congr (State.giveOutcome_lines _ _ _).1

theorem recover (ok : s.LinesOk) (l : Line) : (s.recover l).LinesOk := by
  unfold State.recover
  dsimp only
  split
  · exact (ok.lineReset l).setEngine (ok.lineReset l l)
  · exact ok.setEngine (ok l)

theorem watchdogExpires (ok : s.LinesOk) (l : Line) : (s.watchdogExpires l).LinesOk :=
  ((ok.countStuck l).atOnce s).recover l

theorem watchdogTick (ok : s.LinesOk) (l : Line) : (s.watchdogTick l).LinesOk := by
  unfold State.watchdogTick
  split
  · have told := ((ok.countStuck l).countStuck (otherLine l)).atOnce s
    exact ((((told.recover l).atOnce _).recover _).refresh l).refresh _
  · exact (ok.watchdogExpires l).refresh l

/-- A pass begins for an engine at rest that waits for a tick, or that stands before its first pass. -/
theorem beginPass (ok : s.LinesOk) (stage : (s.engine l).stage = .tickWait ∨ (s.engine l).stage = .toBegin) :
    (s.beginPass l).LinesOk :=
  ok.atLine (State.Acts.refl.beginPass (Reach.ofLine_wide l) rfl)
    (State.beginPass_ok ((ok l).resting_of_stage stage).toFree)

theorem tickEvent (ok : s.LinesOk) (e : TickEvent) : (s.tickEvent e).LinesOk := by
  unfold State.tickEvent
  split
  · next comes =>
    refine selectNew ?_
    cases e with
    | silence => exact ok.goQuiet
    | decision k => exact ok.decisionExpires k
    | watchdog l => exact ok.watchdogTick l
    | pass l => exact (ok.beginPass (.inl (by simpa [State.comes] using comes))).refresh l
  · exact ok

theorem takeEvents (ok : s.LinesOk) (fuel : Nat) (events : List TickEvent) : (s.takeEvents fuel events).LinesOk := by
  induction fuel generalizing s events with
  | zero => exact ok
  | succ fuel ih =>
    rw [State.takeEvents]
    split
    · exact ok
    · refine ih (tickEvent ?_ _) _
      unfold State.countChoice
      split <;> exact ok

theorem tick (ok : s.LinesOk) : s.tick.LinesOk := (ok.countTick.takeEvents _ _).selectNew

end State.LinesOk

/-! ### Commands at a drop line -/

/-- `o` goes on in a state whose engine of line `l` is in order. -/
def GoesOnInOrder (l : Line) (o : Host.Outcome State Fault Refusal) : Prop := ∃ t, o = .next t ∧ (t.engine l).Ok

namespace GoesOnInOrder

variable {s t : State} {l : Line}

theorem finish (own : (t.engine l).Ok) : GoesOnInOrder l (finish t) := by
  refine ⟨_, rfl, ?_⟩
  rw [State.engine, t.selectNew_frame.2.2]
  exact own

theorem finishLine (own : (t.engine l).Ok) : GoesOnInOrder l (finishLine l t) := finish (State.refresh_ok own)

/-- A line command that acts only in its moment. -/
theorem lineIf (ok : (s.engine l).Ok) {p : Prop} [Decidable p] (own : p → (t.engine l).Ok) :
    GoesOnInOrder l (if p then Machine.finishLine l t else Machine.finish s) := by
  split
  · next now => exact finishLine (own now)
  · exact finish ok

end GoesOnInOrder

/-- Every command at a drop line leaves its engine in order. -/
theorem exec_atLine_ok {l : Line} {c : Instr} (at_line : c.atLine = some l) {s : State} (lines : s.LinesOk) :
    GoesOnInOrder l (exec c s) := by
  have ok := lines l
  cases c <;> try cases at_line
  case telegram => exact .lineIf ok fun _ => State.sendTelegram_ok (State.wakeEngine_ok ok)
  case sweep => exact .lineIf ok fun due => State.sendProbe_ok (State.wakeEngine_ok ok) due
  case transmissionComplete => exact .lineIf ok fun sending => State.sendingDone_ok ok sending
  case echoConflict index readBack =>
    refine .lineIf ok fun conflicts => State.conflict_ok ok ?_ readBack
    simp only [State.conflicts, Bool.and_eq_true, beq_iff_eq] at conflicts
    exact conflicts.1
  case replyCharacter ch => exact .lineIf ok fun _ => State.deliver_ok ok ch
  case sweepAnswerCharacter ch => exact .lineIf ok fun _ => State.deliver_ok ok ch
  case strayCharacter ch => exact .lineIf ok fun _ => State.deliver_ok ok ch
  case chatterIntervalEnds => exact .lineIf ok fun _ => by rw [State.engine_setEngine_same]; exact ok
  case breakEnds => exact .lineIf ok fun _ => by rw [State.engine_setEngine_same]; exact ok
  case startEdge accepted => exact .lineIf ok fun _ => State.startEdge_ok ok accepted
  case guardRunsOut =>
    refine .lineIf ok fun guarding => ?_
    obtain ⟨⟨exchange, probe, driver, conflicts, search⟩, _, due, tick, toBegin⟩ := ok.resting (.inr guarding)
    refine State.advance_ok ?_ ?_ <;> rw [State.engine_setEngine_same]
    · exact ⟨⟨exchange, probe, driver, conflicts, search⟩, .inl rfl, due, fun _ => rfl, toBegin⟩
    · exact fun waits => by simpa [guarding] using tick waits
  case lineWatchdog => exact .lineIf ok fun _ => lines.watchdogExpires l l
  case noReply =>
    show GoesOnInOrder l (execNoReply l s)
    unfold execNoReply
    split
    · next x awaits exchange =>
      have busy := ok.busy (by simp [exchange])
      exact .finishLine (State.endExchange_ok (busy.mayEnd exchange (by simp [awaits])) x _)
    · exact .finish ok
  case reply chars =>
    show GoesOnInOrder l (execReply l chars s)
    unfold execReply
    split
    · exact .finish (State.deliverRun_ok ok chars)
    · exact .finish ok
  case truncated =>
    show GoesOnInOrder l (execTruncated l s)
    unfold execTruncated
    split
    · next x receiving exchange =>
      have busy := ok.busy (by simp [exchange])
      split
      · exact .finish ok
      · exact .finishLine (State.endExchange_ok (busy.mayEnd exchange (by simp [receiving])) x _)
    · exact .finish ok
  case passBegins =>
    show GoesOnInOrder l (execPassBegins l s)
    unfold execPassBegins
    split
    · next waits => exact .finishLine (State.beginPass_ok (ok.resting_of_stage (.inl waits)).toFree)
    · exact .lineIf ok fun first => State.beginPass_ok (ok.resting_of_stage (.inr first.1)).toFree
  case sweepReplyWindow =>
    show GoesOnInOrder l (execSweepReplyWindow l s)
    unfold execSweepReplyWindow
    split
    · next p awaits _ probe =>
      exact .finishLine (State.endProbe_ok (ok.busy (by simp [probe])) probe (by simp [awaits]) _)
    · exact .finish ok
  case sweepGap =>
    show GoesOnInOrder l (execSweepGap l s)
    unfold execSweepGap
    split
    · next p receiving _ probe =>
      split
      · exact .finish ok
      · exact .finishLine (State.endProbe_ok (ok.busy (by simp [probe])) probe (by simp [receiving]) _)
    · exact .finish ok

/-- Every command at a drop line leaves both engines in order. -/
theorem exec_atLine_linesOk {l : Line} {c : Instr} (at_line : c.atLine = some l) {s : State} (ok : s.LinesOk) :
    ∃ t, exec c s = .next t ∧ t.LinesOk := by
  obtain ⟨t, next, own⟩ := exec_atLine_ok at_line ok
  obtain ⟨t', next', acts⟩ := exec_atLine (Reach.ofLine_wide l) rfl at_line s
  rw [next] at next'
  cases next'
  exact ⟨t, next, ok.atLine acts own⟩

/-- Every command leaves both engines in order. -/
theorem exec_linesOk (c : Instr) {s : State} (ok : s.LinesOk) : ∃ t, exec c s = .next t ∧ t.LinesOk := by
  have done {t : State} (h : t.LinesOk) : ∃ u, finish t = .next u ∧ u.LinesOk := ⟨_, rfl, h.selectNew⟩
  have framed {t : State} (h : t.LinesOk) : ∃ u, finishFrame t = .next u ∧ u.LinesOk := ⟨_, rfl, h.selectByRank⟩
  have good : s.frameClosed.goodFrame.LinesOk := State.LinesOk.goodFrame (s := s.frameClosed) ok
  have row (k : LaneNo) (cmd : LaneCmd) (rest : List Byte) : ∃ u, laneCommand k cmd rest s = .next u ∧ u.LinesOk :=
    framed ((good.perform k _ _ cmd).parseBody k _ _ _ rest)
  have atLine (l : Line) (h : c.atLine = some l) : ∃ t, exec c s = .next t ∧ t.LinesOk := exec_atLine_linesOk h ok
  have reset : State.reset.LinesOk := fun l => by
    rw [State.reset_engine]
    exact ⟨resetEngine_workOk _, searchOk_nil⟩
  cases c with
  | hardwareReset => exact framed (t := s.hardwareReset) reset
  | linkCharacter data stop => exact done (by split; exacts [ok, ok.linkChar _])
  | request body => exact framed (good.latchRequest body)
  | laneCommands k body => exact framed (good.parseBody k _ _ _ body)
  | openLane k tag rest => exact row k (.openLane tag) rest
  | closeLane k rest => exact row k .close rest
  | clearLane k rest => exact row k .clear rest
  | showText k place report text rest => exact row k (.showText place report text) rest
  | tone k pattern report rest => exact row k (.tone pattern report) rest
  | reader k onOff report rest => exact row k (.reader onOff report) rest
  | entry k count dot echo chain report rest => exact row k (.entry count dot echo chain report) rest
  | pin k min max chain report rest => exact row k (.pin min max chain report) rest
  | unlock k report rest => exact row k (.unlock report) rest
  | decideCard k choice rest => exact row k (.decideCard choice) rest
  | loadUnit => exact done (ok.takeRequest 1 State.LinesOk.loadUnitOn)
  | readUnit => exact done (ok.takeRequest 2 fun _ _ ok => ok.indexed fun _ _ => ok)
  | loadLane => exact done (ok.takeRequest 3 State.LinesOk.loadLaneOn)
  | readLane => exact done (ok.takeRequest 4 fun _ _ ok => ok.indexed fun _ _ => ok)
  | loadKeymap => exact done (ok.takeRequest 5 fun _ _ ok => ok.indexed fun _ _ => ok)
  | loadPolicy => exact done (ok.takeRequest 6 fun _ _ ok => ok.indexed fun _ _ => ok.valued fun _ => ok)
  | loadRing => exact done (ok.takeRequest 7 State.LinesOk.loadRingOn)
  | loadPrompt => exact done (ok.takeRequest 8 fun _ _ ok => ok.indexed fun _ _ => ok)
  | loadPartition => exact done (ok.takeRequest 9 State.LinesOk.loadPartitionOn)
  | setLink => exact done (ok.takeRequest 10 State.LinesOk.setLinkOn)
  | setLine => exact done (ok.takeRequest 11 State.LinesOk.setLineOn)
  | readStatus => exact done (ok.takeRequest 12 State.LinesOk.readStatusOn)
  | readCounters => exact done (ok.takeRequest 13 fun _ _ ok => ok.ofScope fun _ => ok)
  | clearCounters => exact done (ok.takeRequest 14 State.LinesOk.clearCountersOn)
  | softReset => exact done (ok.takeRequest 15 State.LinesOk.softResetOn)
  | unknownRequest => exact done ok.takeUnknown
  | closingDelimiter =>
    show ∃ t, execClosingDelimiter s = .next t ∧ _
    unfold execClosingDelimiter
    split
    · exact done ok
    · exact done ok
    · exact done (ok.frameSent _)
  | silenceTimerExpiry => exact done (by split; exacts [ok.goQuiet, ok])
  | decisionTimerExpiry k => exact done (ok.decisionExpires k)
  | linkStartEdge accepted =>
    refine done ?_
    split
    · split <;> exact ok
    · exact ok
  | lrxdAtMark => exact done (by split <;> exact ok)
  | telegram l | sweep l | transmissionComplete l | echoConflict l _ _ | noReply l | replyCharacter l _ | reply l _
  | truncated l | guardRunsOut l | passBegins l | sweepReplyWindow l | sweepAnswerCharacter l _ | sweepGap l
  | strayCharacter l _ | chatterIntervalEnds l | breakEnds l | lineWatchdog l | startEdge l _ => exact atLine l rfl

end Sys2Proof.Machine

namespace Sys2Proof.Proofs

open Sys2Proof.Machine

/-- Settles O9: an engine in order is at rest, waits with something due, or is busy, and every command and every tick leads
from these to these; a search grows by halving only. -/
theorem enginesStayInOrder : Obligations.EnginesStayInOrder := by
  refine ⟨fun s t ok next => ?_, fun rs search => search.bounds⟩
  rw [State.enginesOk_iff] at ok ⊢
  cases waiting : s.pending with
  | nil =>
    rw [step, waiting] at next
    cases next
    exact ok.tick
  | cons c rest =>
    rw [step, waiting] at next
    obtain ⟨u, ends, inOrder⟩ := exec_linesOk c (s := { s with pending := rest }) ok
    have same : Host.Outcome.next u = .next t := ends.symm.trans next
    cases same
    exact inOrder

end Sys2Proof.Proofs
end

section
/-! SUPPORT. The receiver of a drop line: where a delivered character goes, and what that leaves at the line (R48 to R51,
R54, R56). -/

namespace Sys2Proof.Machine

/-! ### Destinations (R51) -/

theorem XState.active_iff (x : XState) : x.active = true ↔ x = .sending ∨ x = .await ∨ x = .receiving := by
  cases x <;> simp [XState.active]

namespace Engine

variable {e : Engine}

/-- The next character delivered is one whose start bit was accepted with the driver high. -/
def EchoNext (e : Engine) : Prop := e.rx = .inCharacter .echo ∨ (e.rx = .atRest ∧ e.driver = true)

/-- The next character delivered is one of a reply period. -/
def ReplyNext (e : Engine) : Prop :=
  e.rx = .inCharacter .reply ∨ (e.rx = .atRest ∧ e.driver = false ∧ e.xstate.replyPeriod = true)

/-- The next character delivered is one that nothing asked for. -/
def StrayNext (e : Engine) : Prop :=
  e.rx = .inCharacter .stray ∨ (e.rx = .atRest ∧ e.driver = false ∧ e.xstate.replyPeriod = false)

theorem EchoNext.destination (h : e.EchoNext) : e.destination = .echo := by
  rcases h with rx | ⟨rx, driver⟩ <;> simp [Engine.destination, Engine.origin, *]

theorem StrayNext.destination (h : e.StrayNext) : e.destination = .stray := by
  rcases h with rx | ⟨rx, driver, period⟩ <;> simp [Engine.destination, Engine.origin, *]

theorem ReplyNext.origin (h : e.ReplyNext) : e.origin = some .reply := by
  rcases h with rx | ⟨rx, driver, period⟩ <;> simp [Engine.origin, *]

theorem ReplyNext.not_inBreak (h : e.ReplyNext) : e.rx ≠ .inBreak := by
  rcases h with rx | ⟨rx, _⟩ <;> simp [rx]

theorem ReplyNext.destination_exchange (h : e.ReplyNext) (period : e.xstate.replyPeriod = true) {x : Exchange}
    (exchange : e.exchange = some x) : e.destination = .exchange x := by
  simp [Engine.destination, h.origin, period, exchange]

theorem ReplyNext.destination_probe (h : e.ReplyNext) (period : e.xstate.replyPeriod = true) {p : Probe}
    (exchange : e.exchange = none) (probe : e.probe = some p) : e.destination = .probe p := by
  simp [Engine.destination, h.origin, period, exchange, probe]

/-- A character of a reply period that is over, or of no exchange and no probe, goes nowhere (log entry 6). -/
theorem ReplyNext.destination_nowhere (h : e.ReplyNext)
    (ended : ¬(e.xstate.replyPeriod = true ∧ (e.exchange ≠ none ∨ e.probe ≠ none))) : e.destination = .nowhere := by
  simp only [Engine.destination, h.origin]
  split
  · next period =>
    have exchange : e.exchange = none := by
      by_contra some
      exact ended ⟨period, .inl some⟩
    have probe : e.probe = none := by
      by_contra some
      exact ended ⟨period, .inr some⟩
    simp [exchange, probe]
  · rfl

theorem destination_inBreak (rx : e.rx = .inBreak) : e.destination = .nowhere := by
  simp [Engine.destination, Engine.origin, rx]

theorem delivers_echo (going : e.destination = .echo) : e.delivers = true := by simp [Engine.delivers, going]

theorem delivers_stray (going : e.destination = .stray) : e.delivers = true := by simp [Engine.delivers, going]

theorem delivers_nowhere (going : e.destination = .nowhere) (listens : e.rx ≠ .inBreak) : e.delivers = true := by
  simp [Engine.delivers, going, listens]

theorem not_delivers_inBreak (rx : e.rx = .inBreak) : e.delivers = false := by
  simp [Engine.delivers, destination_inBreak rx, rx]

/-- A character that an exchange or a probe awaits is no stray one. -/
theorem ReplyNext.not_delivers (h : e.ReplyNext)
    (awaited : e.xstate.replyPeriod = true ∧ (e.exchange ≠ none ∨ e.probe ≠ none)) : e.delivers = false := by
  obtain ⟨period, begun⟩ := awaited
  unfold Engine.delivers
  cases exchange : e.exchange with
  | some x => rw [h.destination_exchange period exchange]
  | none =>
    cases probe : e.probe with
    | some p => rw [h.destination_probe period exchange probe]
    | none => simp [exchange, probe] at begun

end Engine

/-! ### Characters delivered (R49, R51) -/

theorem rxAfter_eq (err : CharError) : rxAfter err = if err = .framing then .inBreak else .atRest := by
  cases err <;> rfl

theorem LineCounters.countError_eq (c : LineCounters) (err : CharError) :
    c.countError err = { c with charErrors := if err = .none then c.charErrors else bump c.charErrors } := by
  unfold LineCounters.countError
  split <;> rfl

section

variable {s : State} {l : Line} (ch : Sampled)

theorem State.deliver_echo (going : (s.engine l).destination = .echo) :
    s.deliver l ch =
      s.setEngine l
        { s.engine l with rx := if (s.engine l).tuned.error ch = .framing then .inBreak else .atRest } := by
  simp only [State.deliver, going, State.takeChar, rxAfter_eq]
  rfl

theorem State.deliver_stray (going : (s.engine l).destination = .stray) :
    s.deliver l ch =
      s.setEngine l
        { s.engine l with
          rx := if (s.engine l).tuned.error ch = .framing then .inBreak else .atRest
          chatter := true
          counters := { (s.engine l).counters with
            strayChars := bump (s.engine l).counters.strayChars
            charErrors :=
              if (s.engine l).tuned.error ch = .none then (s.engine l).counters.charErrors
              else bump (s.engine l).counters.charErrors } } := by
  simp [State.deliver, going, State.takeChar, State.strayChar, rxAfter_eq, LineCounters.countError_eq]

theorem State.deliver_nowhere (going : (s.engine l).destination = .nowhere) (listens : (s.engine l).rx ≠ .inBreak) :
    s.deliver l ch =
      s.setEngine l
        { s.engine l with
          rx := if (s.engine l).tuned.error ch = .framing then .inBreak else .atRest
          counters :=
            if (s.engine l).tuned.error ch = .none then (s.engine l).counters
            else { (s.engine l).counters with charErrors := bump (s.engine l).counters.charErrors } } := by
  simp [State.deliver, going, listens, State.takeChar, rxAfter_eq, LineCounters.countError]

end

/-! ### The commands (R48, R49, R54) -/

/-- A line command in its moment. -/
theorem lineIf_true {l : Line} {s t : State} {p : Prop} [Decidable p] (now : p) :
    (if p then finishLine l t else finish s) = .next (State.selectNew (State.refresh t l)) := if_pos now

/-- A line command out of its moment (log entry 4). -/
theorem lineIf_false {l : Line} {s t : State} {p : Prop} [Decidable p] (other : ¬p) :
    (if p then finishLine l t else finish s) = .next s.selectNew := if_neg other

/-- A glitch is counted while the driver is low, and changes nothing while it is high (R48). -/
theorem State.startEdge_glitch (s : State) (l : Line) :
    s.startEdge l false =
      s.setEngine l
        (if (s.engine l).driver then s.engine l
        else { s.engine l with
          counters := { (s.engine l).counters with glitches := bump (s.engine l).counters.glitches } }) := by
  unfold State.startEdge
  dsimp only
  rw [if_neg Bool.false_ne_true]
  split
  · exact (s.setEngine_self l).symm
  · rfl

theorem exec_strayCharacter {s : State} {l : Line} {ch : Sampled} (delivers : (s.engine l).delivers = true) :
    exec (.strayCharacter l ch) s = .next (State.selectNew (State.refresh (s.deliver l ch) l)) := lineIf_true delivers

theorem exec_strayCharacter_other {s : State} {l : Line} {ch : Sampled} (awaited : (s.engine l).delivers = false) :
    exec (.strayCharacter l ch) s = .next s.selectNew := lineIf_false (by simp [awaited])

end Sys2Proof.Machine

namespace Sys2Proof.Proofs

open Sys2Proof.Machine

/-- Settles O40, command by command, with a delivered character followed to its destination. -/
theorem lineReceiverFollowsTheLine : Obligations.LineReceiverFollowsTheLine := by
  unfold Obligations.LineReceiverFollowsTheLine
  intro s l ch accepted e now inReply error base
  have period : e.xstate.replyPeriod = true ↔ inReply := XState.replyPeriod_iff _
  have awaitsReply : (e.rx = .inCharacter .reply ∨ (e.rx = .atRest ∧ e.driver = false ∧ inReply)) ↔ e.ReplyNext := by
    rw [Engine.ReplyNext, period]
  refine ⟨?_, fun rest => ⟨?_, ?_⟩, fun busy => lineIf_false busy, fun broken => lineIf_true broken,
    fun listens => lineIf_false listens, fun chatters => lineIf_true chatters,
    fun quiet => lineIf_false (Bool.eq_false_iff.mp quiet), fun stray => ?_, fun echo => ?_, ?_⟩
  · have tuned : (if e.rx.inside then e.tuned else s.wantedTune l) =
        match e.rx, e.exchange with
        | .inCharacter _, _ => e.tuned
        | _, none => base
        | _, some x => if e.xstate = .sending ∨ inReply then x.tune else base := by
      have wanted (x : Exchange) (exchange : e.exchange = some x) :
          s.wantedTune l = if e.xstate = .sending ∨ inReply then x.tune else base := by
        simp only [State.wantedTune, show (s.engine l).exchange = some x from exchange, XState.active_iff]
        rfl
      cases rx : e.rx with
      | inCharacter o => rfl
      | atRest | inBreak =>
        cases exchange : e.exchange with
        | none => exact s.wantedTune_base l exchange
        | some x => exact wanted x exchange
    have watchdog : (if e.unsettled then e.watchdog else 0) =
        if (e.rx = .inBreak ∧ e.driver = false) ∨ e.chatter = true then e.watchdog else 0 := by
      simp only [Engine.unsettled_iff]
    rw [State.refresh_eq]
    show s.setEngine l { e with
      tuned := if e.rx.inside then e.tuned else s.wantedTune l, watchdog := if e.unsettled then e.watchdog else 0 } = _
    rw [tuned, watchdog]
    rfl
  · refine (lineIf_true rest).trans ?_
    simp only [State.startEdge, if_true, XState.replyPeriod_iff]
    rfl
  · refine (lineIf_true rest).trans ?_
    rw [State.startEdge_glitch]
    rfl
  · have going : e.destination = .stray := Engine.StrayNext.destination (stray.imp_right fun ⟨rest, low, out⟩ =>
      ⟨rest, low, by simpa [← period] using out⟩)
    rw [exec_strayCharacter (Engine.delivers_stray going), State.deliver_stray ch going]
    rfl
  · have going : e.destination = .echo := Engine.EchoNext.destination echo
    rw [exec_strayCharacter (Engine.delivers_echo going), State.deliver_echo ch going]
    rfl
  · intro awaited reply
    refine ⟨fun skips => exec_strayCharacter_other ?_, fun next ended => ?_⟩
    · rcases skips with broken | ⟨next, awaits, begun⟩
      · exact Engine.not_delivers_inBreak broken
      · exact (awaitsReply.mp next).not_delivers ⟨period.mpr awaits, begun⟩
    · have next := awaitsReply.mp next
      have going := next.destination_nowhere (by rw [period]; exact ended)
      have listens := next.not_inBreak
      rw [exec_strayCharacter (Engine.delivers_nowhere going listens), State.deliver_nowhere ch going listens]
      rfl

end Sys2Proof.Proofs
end

section
/-! SUPPORT. Drop line characters: the bits sent, their parity, and what the receiver of the same format makes of them (R44,
R46, R49). -/

namespace Sys2Proof.Machine

/-! ### Bits sent (R46) -/

@[simp] theorem DataBits.length_sent (d : DataBits) (b : Byte) : (d.sent b).length = d.count := by cases d <;> rfl

/-- The data bits go out least significant first. -/
theorem DataBits.getElem?_sent {d : DataBits} {i : Nat} (inside : i < d.count) (b : Byte) :
    (d.sent b)[i]? = some (b.getLsbD i) := by
  cases d with
  | seven =>
    change i < 7 at inside
    interval_cases i <;> rfl
  | eight =>
    change i < 8 at inside
    interval_cases i <;> rfl

@[simp] theorem Tune.length_parityBit (t : Tune) (b : Byte) : (t.parityBit b).toList.length = t.parity.count := by
  unfold Tune.parityBit
  cases t.parity <;> rfl

theorem Tune.length_sentBits (t : Tune) (b : Byte) : (t.sentBits b).length = t.charBits := by
  simp [Tune.sentBits, Tune.charBits]
  omega

/-- A character is 9 to 12 bit periods long (R44). -/
theorem Tune.charBits_bounds (t : Tune) : 9 ≤ t.charBits ∧ t.charBits ≤ 12 := by
  unfold Tune.charBits
  cases t.data <;> cases t.parity <;> cases t.stop <;> decide

theorem Tune.getElem?_data {t : Tune} {i : Nat} (inside : i < t.data.count) (b : Byte) :
    (t.sentBits b)[1 + i]? = some (b.getLsbD i) := by
  rw [Tune.sentBits, Nat.add_comm, List.getElem?_cons_succ, List.append_assoc,
    List.getElem?_append_left (by simpa using inside), DataBits.getElem?_sent inside]

/-- The parity bit follows the data bits. -/
theorem Tune.getElem?_parity {t : Tune} {b : Byte} {p : Bool} (parity : t.parityBit b = some p) :
    (t.sentBits b)[1 + t.data.count]? = some p := by
  simp [Tune.sentBits, Nat.add_comm 1, parity]

/-- The stop bits end the character at mark. -/
theorem Tune.getElem?_stop {t : Tune} {j : Nat} (inside : j < t.stop.count) (b : Byte) :
    (t.sentBits b)[t.charBits - 1 - j]? = some true := by
  have place : t.charBits - 1 - j = (t.data.count + t.parity.count + (t.stop.count - 1 - j)) + 1 := by
    unfold Tune.charBits
    omega
  rw [Tune.sentBits, place, List.getElem?_cons_succ, List.getElem?_append_right (by simp),
    List.getElem?_replicate_of_lt (by simp; omega)]

/-! ### Parity (R46, R49) -/

/-- A list of bits holds an odd number of ones exactly where their exclusive or is 1. -/
theorem count_true_mod_two (bits : List Bool) : bits.count true % 2 = (bits.foldr xor false).toNat := by
  induction bits with
  | nil => rfl
  | cons b rest ih =>
    cases b <;> cases odd : rest.foldr xor false <;> simp [odd] at ih ⊢ <;> omega

/-- The ones sent as data bits are those of the value the character carries. -/
theorem DataBits.foldr_sent (d : DataBits) (b : Byte) : (d.sent b).foldr xor false = oddOnes (d.value b) := by
  cases d with
  | seven => simp [DataBits.sent, DataBits.value, oddOnes]
  | eight => simp [DataBits.sent, DataBits.value, oddOnes]

/-- The data bits and the parity bit behind them hold an odd number of ones exactly where their parities differ. -/
theorem Tune.ones_mod_two {t : Tune} {b : Byte} {p : Bool} (parity : t.parityBit b = some p) :
    (((t.sentBits b).drop 1).take (t.data.count + 1)).count true % 2 = (oddOnes (t.data.value b) ^^ p).toNat := by
  have bits : ((t.sentBits b).drop 1).take (t.data.count + 1) = t.data.sent b ++ [p] := by
    simp [Tune.sentBits, parity, List.take_append]
  have data := count_true_mod_two (t.data.sent b)
  rw [DataBits.foldr_sent] at data
  rw [bits, List.count_append]
  cases p <;> cases odd : oddOnes (t.data.value b) <;> simp [odd] at data ⊢ <;> omega

@[simp] theorem DataBits.value_value (d : DataBits) (b : Byte) : d.value (d.value b) = d.value b := by
  cases d with
  | seven => simp [DataBits.value, BitVec.and_assoc]
  | eight => rfl

/-- The value of a character is its low bits (R46, R49). -/
theorem DataBits.toNat_value (d : DataBits) (b : Byte) : (d.value b).toNat = b.toNat % 2 ^ d.count := by
  cases d with
  | seven => exact Nat.and_two_pow_sub_one_eq_mod b.toNat 7
  | eight => exact (Nat.mod_eq_of_lt b.isLt).symm

theorem DataBits.value_xor (d : DataBits) (a b : Byte) : d.value (a ^^^ b) = d.value a ^^^ d.value b := by
  cases d with
  | seven =>
    ext i
    simp [DataBits.value, Bool.and_xor_distrib_right]
  | eight => rfl

theorem oddOnes_xor (a b : Byte) : oddOnes (a ^^^ b) = (oddOnes a ^^ oddOnes b) := by
  have swap (p q r t : Bool) : ((p ^^ q) ^^ (r ^^ t)) = ((p ^^ r) ^^ (q ^^ t)) := by
    revert p q r t
    decide
  simp only [oddOnes, BitVec.getLsbD_xor]
  rw [swap _ _ (a.getLsbD 1), swap _ _ (a.getLsbD 2), swap _ _ (a.getLsbD 3), swap _ _ (a.getLsbD 4),
    swap _ _ (a.getLsbD 5), swap _ _ (a.getLsbD 6), swap _ _ (a.getLsbD 7)]

/-- One data bit is a one. -/
theorem DataBits.oddOnes_bit {d : DataBits} {i : Nat} (inside : i < d.count) : oddOnes (d.value ((1 <<< i : Nat) : Byte)) = true := by
  cases d with
  | seven =>
    change i < 7 at inside
    interval_cases i <;> rfl
  | eight =>
    change i < 8 at inside
    interval_cases i <;> rfl

/-! ### Reception (R49) -/

/-- A character sent without disturbance arrives without error. -/
theorem Tune.error_undisturbed (t : Tune) (b : Byte) : t.error (t.undisturbed b) = .none := by
  have sound : t.parityBroken (t.undisturbed b) = false := by
    unfold Tune.parityBroken Tune.undisturbed Tune.parityBit
    cases t.parity <;> simp
  unfold Tune.error
  rw [sound]
  rfl

/-- One data bit sampled wrong breaks an EVEN or ODD parity. -/
theorem Tune.error_flipped {t : Tune} (checked : t.parity = .even ∨ t.parity = .odd) {i : Nat} (inside : i < t.data.count)
    (b : Byte) : t.error { t.undisturbed b with data := (t.undisturbed b).data ^^^ (1 <<< i) } = .parity := by
  have broken : t.parityBroken { t.undisturbed b with data := (t.undisturbed b).data ^^^ (1 <<< i) } = true := by
    have odd := DataBits.oddOnes_bit inside
    rcases checked with parity | parity <;>
      simp only [Tune.parityBroken, Tune.undisturbed, Tune.parityBit, parity, DataBits.value_xor, DataBits.value_value,
        oddOnes_xor, odd] <;> simp
  unfold Tune.error
  rw [broken]
  rfl

end Sys2Proof.Machine
end

section
/-! SUPPORT. Telegrams and replies: their check byte, and how a reply is judged (R61 to R63, R69). -/

namespace Sys2Proof.Machine

/-! ### The check byte (R63) -/

theorem DataBits.modulus_bounds (d : DataBits) : 0 < d.modulus ∧ d.modulus ≤ 256 := by cases d <;> decide

/-- The bytes with their check byte sum to 0 modulo M. -/
theorem sum_checkByte (d : DataBits) (bytes : List Byte) :
    ((bytes ++ [checkByte d bytes]).map BitVec.toNat).sum % d.modulus = 0 := by
  obtain ⟨pos, small⟩ := d.modulus_bounds
  have below := Nat.mod_lt (d.modulus - (bytes.map BitVec.toNat).sum % d.modulus) pos
  have check : (checkByte d bytes).toNat = (d.modulus - (bytes.map BitVec.toNat).sum % d.modulus) % d.modulus :=
    toNat_byteOf (by omega)
  have part := Nat.mod_lt (bytes.map BitVec.toNat).sum pos
  simp only [List.map_append, List.map_cons, List.map_nil, List.sum_append, List.sum_cons, List.sum_nil, check,
    Nat.add_zero, Nat.add_mod_mod]
  rw [Nat.add_mod]
  rcases Nat.eq_zero_or_pos ((bytes.map BitVec.toNat).sum % d.modulus) with none | some
  · simp [none]
  · rw [Nat.mod_eq_of_lt (a := d.modulus - _) (by omega), Nat.add_sub_of_le part.le, Nat.mod_self]

theorem sum_telegramBytes (d : DataBits) (address control : Byte) (payload : List Byte) :
    ((telegramBytes d address control payload).map BitVec.toNat).sum % d.modulus = 0 := sum_checkByte d _

@[simp] theorem length_telegramBytes (d : DataBits) (address control : Byte) (payload : List Byte) :
    (telegramBytes d address control payload).length = 4 + payload.length := by
  simp [telegramBytes]
  omega

/-! ### Replies judged (R62, R69, R186) -/

/-- The code of a reply kind in CONTROL (R186). -/
def ReplyKind.code : ReplyKind → Nat
  | .idle => 0
  | .keys => 1
  | .card => 2
  | .status => 3
  | .pinBlock => 4

/-- The CONTROL byte of a reply (R186). -/
def replyControl (kind : ReplyKind) (seq taken busy : Bool) : Byte :=
  byteOf (kind.code + (if seq then 8 else 0) + (if taken then 16 else 0) + (if busy then 32 else 0))

/-- The CONTROL byte of a reply is read back. -/
theorem replyControl_reads (kind : ReplyKind) (seq taken busy : Bool) :
    ReplyKind.ofControl (replyControl kind seq taken busy) = some kind ∧
      replyControl kind seq taken busy &&& 0xC0 = 0 ∧ (replyControl kind seq taken busy).getLsbD 3 = seq ∧
      (replyControl kind seq taken busy).getLsbD 4 = taken ∧ (replyControl kind seq taken busy).getLsbD 5 = busy := by
  cases kind <;> revert seq taken busy <;> decide

theorem replyFormat_replyControl (kind : ReplyKind) (seq taken busy : Bool) (length : Nat) :
    replyFormat (replyControl kind seq taken busy) length =
      if (taken = false ∨ busy = false) ∧ kind.admits length = true then some kind else none := by
  obtain ⟨named, spare, _, tookBit, busyBit⟩ := replyControl_reads kind seq taken busy
  have either : ¬(taken = true ∧ busy = true) ↔ taken = false ∨ busy = false := by
    cases taken <;> cases busy <;> simp
  simp only [replyFormat, named, spare, tookBit, busyBit, either, true_and]

/-- A reply with its CHECK is judged by its address first, then by its CONTROL and LENGTH (R69). -/
theorem judgeReply_telegramBytes (d : DataBits) (expected address control : Byte) {payload : List Byte}
    (short : payload.length < 256) :
    judgeReply d expected (telegramBytes d address control payload) =
      if address ≠ expected then .wrongAddress
      else
        match replyFormat control payload.length with
        | none => .badFormat
        | some kind => .valid ⟨kind, control.getLsbD 3, control.getLsbD 4, control.getLsbD 5, payload⟩ := by
  have sums : sumsToZero d (telegramBytes d address control payload) = true := by
    simp [sumsToZero, sum_telegramBytes]
  have len : (byteOf payload.length).toNat = payload.length := toNat_byteOf short
  unfold judgeReply
  rw [if_neg (by simp [sums])]
  simp only [telegramBytes, List.cons_append, len, List.take_left] <;> rfl

/-- The check of the sum is the first one (R69). -/
theorem judgeReply_badCheck {d : DataBits} {bytes : List Byte} (broken : (bytes.map BitVec.toNat).sum % d.modulus ≠ 0)
    (address : Byte) : judgeReply d address bytes = .badCheck := by
  unfold judgeReply
  exact if_pos (by simpa [sumsToZero] using broken)

end Sys2Proof.Machine

namespace Sys2Proof.Proofs

open Sys2Proof.Machine

/-- Settles O54: characters bit by bit, telegrams by their sum, replies check by check. -/
theorem charactersAndRepliesReadBack : Obligations.CharactersAndRepliesReadBack := by
  refine ⟨fun t b parity i => ?_, fun d address control other payload kind seq taken busy bytes => ?_⟩
  · intro d bits ones
    have even_or_odd (p : Bool) (sent : t.parityBit b = some p) : ones % 2 = (oddOnes (t.data.value b) ^^ p).toNat :=
      Tune.ones_mod_two sent
    refine ⟨t.length_sentBits b, rfl, t.charBits_bounds.1, t.charBits_bounds.2, fun inside => t.getElem?_data inside b,
      fun even => ?_, fun odd => ?_, fun zero => ?_, fun j inside => t.getElem?_stop inside b, t.error_undisturbed b, ?_,
      fun checked inside => t.error_flipped checked inside b, rfl⟩
    · rw [even_or_odd (oddOnes (t.data.value b)) (by simp only [Tune.parityBit, even])]
      simp
    · rw [even_or_odd (!oddOnes (t.data.value b)) (by simp only [Tune.parityBit, odd])]
      simp
    · exact t.getElem?_parity (by simp only [Tune.parityBit, zero])
    · exact (congrArg BitVec.toNat (t.data.value_value b)).trans (t.data.toNat_value b)
  · intro code control' short
    have judged (expected control : Byte) := judgeReply_telegramBytes d expected address control (by omega : payload.length < 256)
    have same : control' = replyControl kind seq taken busy := by cases kind <;> rfl
    obtain ⟨_, _, seqBit, tookBit, busyBit⟩ := replyControl_reads kind seq taken busy
    refine ⟨sum_telegramBytes d address control payload, length_telegramBytes d address control payload,
      fun admits free => ?_, fun refused => ?_, fun differs => ?_, fun broken => judgeReply_badCheck broken address⟩
    · rw [judged, same, replyFormat_replyControl, if_neg (by simp), if_pos ⟨free, admits⟩]
      simp only [seqBit, tookBit, busyBit]
    · rw [judged, same, replyFormat_replyControl, if_neg (by simp), if_neg]
      rintro ⟨free, admits⟩
      rcases refused with ⟨took, isBusy⟩ | refused
      · simp [took, isBusy] at free
      · simp [admits] at refused
    · rw [judged, if_pos (Ne.symm differs)]

end Sys2Proof.Proofs
end

section
/-! SUPPORT. The characters of a reply, and every way in which a reply goes bad (R51, R67, R69, R71). -/

namespace Sys2Proof.Machine

/-! ### Bad replies (R71) -/

/-- The outcomes of a bad reply: failures that are counted as TRUNCATED is (R71). -/
structure ExchangeOutcome.Bad (o : ExchangeOutcome) : Prop where
  fails : o.isValid = false
  counts : ∀ c : SlotCounters, c.count o = c.count .truncated

theorem ExchangeOutcome.badChar_bad : Bad .badChar := ⟨rfl, fun _ => rfl⟩

theorem ExchangeOutcome.badFormat_bad : Bad .badFormat := ⟨rfl, fun _ => rfl⟩

/-- A complete reply that is not VALID is a bad one (R69). -/
theorem judgeReply_bad {d : DataBits} {address : Byte} {bytes : List Byte}
    (invalid : (judgeReply d address bytes).isValid = false) : (judgeReply d address bytes).Bad := by
  refine ⟨invalid, fun c => ?_⟩
  cases judged : judgeReply d address bytes with
  | badChar | badCheck | wrongAddress | badFormat | truncated => rfl
  | valid r => simp [judged, ExchangeOutcome.isValid] at invalid
  | noReply | conflictLimit | aborted =>
    exfalso
    unfold judgeReply at judged
    split at judged
    · cases judged
    · split at judged
      · split at judged
        · cases judged
        · split at judged <;> cases judged
      · cases judged

/-- Of a failure, what becomes of the item carried does not say which it was (R81, R82). -/
theorem State.settleItems_fails (s : State) (x : Exchange) {o p : ExchangeOutcome} (fails : o.isValid = false)
    (fails' : p.isValid = false) (wasTrusted : Bool) : s.settleItems x o wasTrusted = s.settleItems x p wasTrusted := by
  by_cases command : x.kind = .command
  · cases item : x.item with
    | none => simp only [State.settleItems, command, item]
    | some it =>
      simp only [State.settleItems, command, item, State.commandEnds_failed fails, State.commandEnds_failed fails']
  · rw [State.settleItems_uncommanded fails command, State.settleItems_uncommanded fails' command]

/-- A bad reply is handled as a truncated one is. -/
theorem State.handleOutcome_bad (s : State) (x : Exchange) {o : ExchangeOutcome} (bad : o.Bad) :
    s.handleOutcome x o = s.handleOutcome x .truncated := by
  have fails : ExchangeOutcome.truncated.isValid = false := rfl
  have presence : s.outcomePresence x.slot x.kind o = s.outcomePresence x.slot x.kind .truncated := by
    simp only [State.outcomePresence, bad.fails, fails, State.countOutcome, bad.counts]
  simp only [State.handleOutcome, State.outcomeReply_failed _ bad.fails, State.outcomeReply_failed _ fails,
    State.outcomeSettled, presence, State.settleItems_fails _ x bad.fails fails]

/-- An exchange ends the same whatever its bad reply was, and whatever was received and however far it had come. -/
theorem State.endExchange_bad {s t : State} {l : Line} {x : Exchange} {o : ExchangeOutcome} (bad : o.Bad)
    {after : XState} (freed : ∃ e, t = s.setEngine l e ∧ e.freed after = (s.engine l).freed after) :
    s.endExchange l x o after = t.endExchange l x .truncated after := by
  obtain ⟨e, rfl, freed⟩ := freed
  have same : (s.setEngine l e).setEngine l (((s.setEngine l e).engine l).freed after) =
      s.setEngine l ((s.engine l).freed after) := by
    rw [State.setEngine_setEngine, State.engine_setEngine_same, freed]
  have outcome : (s.setEngine l ((s.engine l).freed after)).giveOutcome x o =
      (s.setEngine l ((s.engine l).freed after)).giveOutcome x .truncated := by
    simp only [State.giveOutcome, State.handleOutcome_bad _ x bad]
  show ((s.setEngine l ((s.engine l).freed after)).giveOutcome x o).settleRun l x.slot
      ((s.unit x.slot).superseded || !o.isValid) =
    (((s.setEngine l e).setEngine l (((s.setEngine l e).engine l).freed after)).giveOutcome x .truncated).settleRun l
      x.slot ((s.unit x.slot).superseded || !ExchangeOutcome.truncated.isValid)
  rw [same, outcome, bad.fails]
  rfl

/-! ### A reply's next character (R51, R67) -/

/-- What a reply character is while its reply is not complete: stored. -/
theorem State.replyChar_stored {s : State} {l : Line} {value : Byte} (x : Exchange)
    (short : ¬(((s.engine l).received ++ [value]).length = 3 ∧ 48 < value.toNat))
    (incomplete : ¬4 + (((s.engine l).received ++ [value]).getD 2 0).toNat ≤ ((s.engine l).received ++ [value]).length) :
    s.replyChar l x .none value =
      s.setEngine l { s.engine l with received := (s.engine l).received ++ [value], xstate := .receiving } := by
  unfold State.replyChar
  dsimp only
  rw [if_neg (by simp), if_neg short, if_neg incomplete]

/-- A character that ends its exchange badly: received with an error, a LENGTH above 48, or the last one of a reply that
fails a check. -/
theorem State.replyChar_bad {s : State} {l : Line} {x : Exchange} {err : CharError} {value : Byte}
    (bad : err ≠ .none ∨ (((s.engine l).received ++ [value]).length = 3 ∧ 48 < value.toNat) ∨
      (4 + (((s.engine l).received ++ [value]).getD 2 0).toNat ≤ ((s.engine l).received ++ [value]).length ∧
        (judgeReply x.tune.data (x.bytes.headD 0) ((s.engine l).received ++ [value])).isValid = false)) :
    ∃ o : ExchangeOutcome, o.Bad ∧ s.replyChar l x err value = s.endExchange l x o .guarding := by
  unfold State.replyChar
  dsimp only
  by_cases error : err ≠ .none
  · exact ⟨_, ExchangeOutcome.badChar_bad, if_pos error⟩
  · rw [if_neg error]
    by_cases long : ((s.engine l).received ++ [value]).length = 3 ∧ 48 < value.toNat
    · exact ⟨_, ExchangeOutcome.badFormat_bad, if_pos long⟩
    · rw [if_neg long]
      obtain ⟨complete, invalid⟩ := (bad.resolve_left error).resolve_left long
      exact ⟨_, judgeReply_bad invalid, if_pos complete⟩

theorem exec_replyCharacter {s : State} {l : Line} {ch : Sampled} {x : Exchange}
    (going : (s.engine l).destination = .exchange x) :
    exec (.replyCharacter l ch) s =
      .next (State.selectNew (State.refresh ((s.takeChar l ((s.engine l).tuned.error ch) true).replyChar l x
        ((s.engine l).tuned.error ch) ((s.engine l).tuned.delivered ch)) l)) := by
  refine (lineIf_true (by rw [going]; rfl)).trans ?_
  simp only [State.deliver, going]
  rfl

end Sys2Proof.Machine

namespace Sys2Proof.Proofs

open Sys2Proof.Machine

/-- Settles O45: a character that fails ends the exchange with a bad outcome, and all of these end it alike. -/
theorem replyCharactersAreStoredOrFail : Obligations.ReplyCharactersAreStoredOrFail := by
  unfold Obligations.ReplyCharactersAreStoredOrFail
  intro s l x ch e error value bytes taken complete exchange awaits listens
  have period : e.xstate.replyPeriod = true := e.xstate.replyPeriod_iff.mpr awaits
  have next : e.ReplyNext := listens.imp_right fun ⟨rest, low⟩ => ⟨rest, low, period⟩
  have going : e.destination = .exchange x := next.destination_exchange period exchange
  have heard : (s.takeChar l error true).engine l =
      { e with rx := rxAfter error, counters := e.counters.countError error } := s.takeChar_engine l error true
  have received : ((s.takeChar l error true).engine l).received = e.received := by rw [heard]
  refine ⟨fun good short incomplete => ?_, fun bad => ?_, ?_⟩
  · have stored : (s.takeChar l error true).replyChar l x error value =
        s.setEngine l { taken with received := bytes } := by
      rw [good, State.replyChar_stored x (by rw [← good, received]; exact short)
        (by rw [← good, received]; exact incomplete), ← good, heard, State.takeChar, State.setEngine_setEngine, rxAfter_eq]
      rfl
    rw [exec_replyCharacter going]
    exact congrArg (fun t => Host.Outcome.next (State.selectNew (State.refresh t l))) stored
  · obtain ⟨o, isBad, ends⟩ := State.replyChar_bad (s := s.takeChar l error true) (l := l) (x := x) (err := error)
      (value := value) (by rw [received]; exact bad)
    have rx : taken.rx = rxAfter error := (rxAfter_eq error).symm
    have outside (o : Origin) : rxAfter error ≠ .inCharacter o := by cases error <;> simp [rxAfter]
    have gone := State.endExchange_bad (s := s.takeChar l error true) (t := s.setEngine l taken) (x := x) isBad
      (after := .guarding) ⟨taken, by rw [State.takeChar, State.setEngine_setEngine], by rw [heard, ← rx]; rfl⟩
    rw [exec_replyCharacter going]
    refine (congrArg (fun t => Host.Outcome.next (State.selectNew (State.refresh t l))) (ends.trans gone)).trans ?_
    have engine := s.engine_setEngine_same l taken
    exact (exec_truncated (by rw [engine]; exact exchange) (by rw [engine]) (by rw [engine, rx]; exact outside)).symm
  · show (if e.destination.isExchange then finish (s.deliverRun l [ch]) else finish s) =
      if e.destination.isExchange then finishLine l (s.deliver l ch) else finish s
    rw [going]
    rfl

end Sys2Proof.Proofs
end

section
/-! SUPPORT. Transmissions that begin, and the lines they begin on (R45, R53, R55, R64, R91, R92). -/

namespace Sys2Proof.Machine

/-- An engine past its first pass's beginning is not woken (log entry 13). -/
theorem State.wakeEngine_begun {s : State} {l : Line} (begun : (s.engine l).stage ≠ .toBegin) : s.wakeEngine l = s :=
  if_neg fun h => begun h.1

/-- The line is ready for a PAUSED engine (R55). -/
theorem Engine.ready_of_paused {e : Engine} (rest : e.rx = .atRest) (calm : e.chatter = false) (low : e.driver = false)
    (paused : e.xstate = .paused) : e.ready = true :=
  e.ready_iff.mpr ⟨rest, calm, by simp [paused], low⟩

/-! ### Ready lines -/

section

variable {s : State} {l : Line}

theorem State.telegramDue_iff :
    s.telegramDue l = true ↔
      (s.engine l).ready = true ∧ (s.engine l).xstate = .paused ∧
        ((s.engine l).exchange ≠ none ∨
          ((s.engine l).probe = none ∧ ((s.engine l).due = some .entry ∨ (s.engine l).due = some .run))) := by
  simp [State.telegramDue, Option.isSome_iff_ne_none, and_assoc]

theorem State.probeDue_iff :
    s.probeDue l = true ↔
      (s.engine l).ready = true ∧ (s.engine l).xstate = .paused ∧ (s.engine l).exchange = none ∧
        ((s.engine l).probe ≠ none ∨ (s.engine l).due = some .probe) := by
  simp [State.probeDue, Option.isSome_iff_ne_none, and_assoc]

theorem exec_telegram (begun : (s.engine l).stage ≠ .toBegin) (due : s.telegramDue l = true) :
    exec (.telegram l) s = .next (State.selectNew (State.refresh (s.sendTelegram l) l)) := by
  have woken := State.wakeEngine_begun begun
  refine (lineIf_true (by rwa [woken])).trans ?_
  rw [woken]

theorem exec_telegram_other (begun : (s.engine l).stage ≠ .toBegin) (not : ¬s.telegramDue l = true) :
    exec (.telegram l) s = .next s.selectNew :=
  lineIf_false (by rwa [State.wakeEngine_begun begun])

theorem exec_sweep (begun : (s.engine l).stage ≠ .toBegin) (due : s.probeDue l = true) :
    exec (.sweep l) s = .next (State.selectNew (State.refresh (s.sendProbe l) l)) := by
  have woken := State.wakeEngine_begun begun
  refine (lineIf_true (by rwa [woken])).trans ?_
  rw [woken]

theorem exec_sweep_other (begun : (s.engine l).stage ≠ .toBegin) (not : ¬s.probeDue l = true) :
    exec (.sweep l) s = .next s.selectNew :=
  lineIf_false (by rwa [State.wakeEngine_begun begun])

/-! ### What is due is begun (R45, R64, R87, R96) -/

/-- Waiting settings are adopted, and nothing else changes (R45). -/
theorem State.adopt_eq (s : State) (l : Line) :
    s.adopt l =
      { s with
        tables := { s.tables with
          lines :=
            match (s.tables.lines.get l).waiting with
            | none => s.tables.lines
            | some w => s.tables.lines.set l ⟨w, none⟩ } } := by
  unfold State.adopt
  split <;> simp [*]

theorem State.onLine_iff {n : SlotNo} : s.onLine l n = true ↔ (s.record n).enabled = true ∧ (s.record n).line = l := by
  simp [State.onLine]

/-- A ring entry is served where its slot is trusted (R87). -/
theorem State.entryAction_served {n : SlotNo} :
    s.entryAction l n = .served ↔
      ((s.record n).enabled = true ∧ (s.record n).line = l) ∧
        ((s.unit n).presence = .locked ∨ (s.unit n).presence = .faltering) := by
  rw [← State.onLine_iff]
  unfold State.entryAction
  by_cases onLine : s.onLine l n = true
  · cases presence : (s.unit n).presence <;> simp [onLine]
    all_goals split <;> simp
  · simp [onLine]

/-- A run serves a SEEKING slot, and at a ring entry a LOST one too (R96, R99). -/
theorem State.runServes_iff {r : ConfirmRun} :
    s.runServes l r = true ↔
      ((s.record r.slot).enabled = true ∧ (s.record r.slot).line = l) ∧
        ((s.unit r.slot).presence = .seeking ∨ (r.atEntry = true ∧ (s.unit r.slot).presence = .lost)) := by
  rw [← State.onLine_iff]
  unfold State.runServes
  cases presence : (s.unit r.slot).presence <;> simp

/-- What is due still stands when it is looked at again: its entry is served, or its run serves its slot. -/
def State.DueStands (s : State) (l : Line) (n : SlotNo) : Prop :=
  ((s.engine l).due = some .entry ∧ (s.ring l)[(s.engine l).ringPtr]? = some n ∧ s.entryAction l n = .served) ∨
    ∃ r, (s.engine l).due = some .run ∧ (s.engine l).run = some r ∧ r.slot = n ∧ s.runServes l r = true

/-- The telegram is built from what the adoption of settings leaves alone. -/
theorem State.buildExchange_adopt (s : State) (l : Line) (n : SlotNo) :
    (s.adopt l).buildExchange n = s.buildExchange n := by
  rw [State.adopt_eq]
  rfl

theorem State.beginTelegram_stands {n : SlotNo} (stands : s.DueStands l n) : s.beginTelegram l = s.beginExchange l n := by
  rcases stands with ⟨due, entry, served⟩ | ⟨r, due, run, slot, serves⟩
  · simp [State.beginTelegram, State.recheck, State.dueSlot, due, entry, served]
  · simp [State.beginTelegram, State.recheck, State.dueSlot, due, run, serves, slot]

theorem State.telegramDue_of_stands {n : SlotNo} (ready : (s.engine l).ready = true)
    (paused : (s.engine l).xstate = .paused) (probe : (s.engine l).probe = none) (stands : s.DueStands l n) :
    s.telegramDue l = true := by
  refine State.telegramDue_iff.mpr ⟨ready, paused, .inr ⟨probe, ?_⟩⟩
  rcases stands with ⟨due, _⟩ | ⟨_, due, _⟩
  · exact .inl due
  · exact .inr due

/-- The first transmission of what is due and stands. -/
theorem exec_telegram_begins {n : SlotNo} (begun : (s.engine l).stage ≠ .toBegin) (ready : (s.engine l).ready = true)
    (paused : (s.engine l).xstate = .paused) (exchange : (s.engine l).exchange = none)
    (probe : (s.engine l).probe = none) (stands : s.DueStands l n) :
    exec (.telegram l) s = .next (State.selectNew (State.refresh (s.beginExchange l n) l)) := by
  rw [exec_telegram begun (State.telegramDue_of_stands ready paused probe stands), State.sendTelegram, exchange,
    if_neg (by simp), State.beginTelegram_stands stands]

/-- A range comes from the top of the stack, and from [1,31] where the stack is empty (R91). -/
theorem takeRange_eq (stack : List AddrRange) : takeRange stack = (stack.headD ⟨1, 31⟩, stack.tail) := by
  cases stack <;> rfl

end

end Sys2Proof.Machine

namespace Sys2Proof.Proofs

open Sys2Proof.Machine

/-- Settles O41: what is due stands or is sent again, and nothing else begins. -/
theorem transmissionsBeginOnAReadyLine : Obligations.TransmissionsBeginOnAReadyLine := by
  unfold Obligations.TransmissionsBeginOnAReadyLine
  intro s l n e slot ready adopted begun range header past
  have isReady (h : ready) (paused : e.xstate = .paused) : e.ready = true :=
    Engine.ready_of_paused h.1 h.2.1 h.2.2 paused
  have notReady (h : ¬ready ∨ e.xstate ≠ .paused) : ¬(e.ready = true ∧ e.xstate = .paused) := by
    rintro ⟨isReady, paused⟩
    obtain ⟨rest, calm, _, low⟩ := e.ready_iff.mp isReady
    exact h.elim (fun not => not ⟨rest, calm, low⟩) fun not => not paused
  have starts : .next (State.selectNew (State.refresh (s.beginExchange l n) l)) = begun := by
    rw [State.beginExchange, State.adopt_engine, State.buildExchange_adopt, State.adopt_eq]
    rfl
  refine ⟨fun h paused exchange probe enabled line => ⟨fun due entry trusted => ?_, fun r run due same serves => ?_⟩,
    fun h paused exchange => ?_, fun h => ?_, fun h paused exchange probe due => ?_, fun h paused exchange probe => ?_,
    fun h => ?_⟩
  · rw [← starts]
    refine exec_telegram_begins past (isReady h paused) paused exchange probe (.inl ⟨due, entry, ?_⟩)
    exact State.entryAction_served.mpr ⟨⟨enabled, line⟩, trusted⟩
  · rw [← starts]
    subst same
    refine exec_telegram_begins past (isReady h paused) paused exchange probe (.inr ⟨r, due, run, rfl, ?_⟩)
    exact State.runServes_iff.mpr ⟨⟨enabled, line⟩, serves⟩
  · rw [exec_telegram past (State.telegramDue_iff.mpr ⟨isReady h paused, paused, .inl exchange⟩), State.sendTelegram,
      if_pos (Option.isSome_iff_ne_none.mpr exchange)]
    rfl
  · exact exec_telegram_other past fun due =>
      notReady h ⟨(State.telegramDue_iff.mp due).1, (State.telegramDue_iff.mp due).2.1⟩
  · rw [exec_sweep past (State.probeDue_iff.mpr ⟨isReady h paused, paused, exchange, .inr due⟩), State.sendProbe, probe,
      if_neg (by simp), State.beginProbe, State.adopt_engine, takeRange_eq, State.adopt_eq]
    rfl
  · rw [exec_sweep past (State.probeDue_iff.mpr ⟨isReady h paused, paused, exchange, .inl probe⟩), State.sendProbe,
      if_pos (Option.isSome_iff_ne_none.mpr probe)]
    rfl
  · exact exec_sweep_other past fun due =>
      notReady h ⟨(State.probeDue_iff.mp due).1, (State.probeDue_iff.mp due).2.1⟩

end Sys2Proof.Proofs
end

section
/-! SUPPORT. Transmissions that complete or conflict, and what a pass that follows the 4th conflict leaves as it is (R46, R47,
R52, R53). -/

namespace Sys2Proof.Machine

/-! ### What passes leave as it is (R86 to R90, R96) -/

/-- `f` comes of `e` by what passes and runs do to an engine: what is in progress, the driver, the conflicts, the counters
and the sweep's stack stay, and nothing begins to be sent. -/
structure Engine.PassesTo (e f : Engine) : Prop where
  exchange : f.exchange = e.exchange
  probe : f.probe = e.probe
  driver : f.driver = e.driver
  conflicts : f.conflicts = e.conflicts
  counters : f.counters = e.counters
  stack : f.stack = e.stack
  sends : f.xstate = .sending → e.xstate = .sending

theorem Engine.PassesTo.trans {e f g : Engine} (h : e.PassesTo f) (h' : f.PassesTo g) : e.PassesTo g :=
  ⟨h'.exchange.trans h.exchange, h'.probe.trans h.probe, h'.driver.trans h.driver, h'.conflicts.trans h.conflicts,
    h'.counters.trans h.counters, h'.stack.trans h.stack, h.sends ∘ h'.sends⟩

/-- `t` comes of `s` by passes and runs of line `l`; no slot's counters change. -/
structure State.PassesTo (l : Line) (s t : State) : Prop where
  engine : (s.engine l).PassesTo (t.engine l)
  counters : ∀ n, (t.unit n).counters = (s.unit n).counters

namespace State.PassesTo

variable {l : Line} {s t : State}

theorem refl : s.PassesTo l s := ⟨⟨rfl, rfl, rfl, rfl, rfl, rfl, id⟩, fun _ => rfl⟩

theorem setEngine (h : PassesTo l s t) {e : Engine} (step : (t.engine l).PassesTo e) : PassesTo l s (t.setEngine l e) :=
  ⟨by rw [State.engine_setEngine_same]; exact h.engine.trans step, h.counters⟩

theorem refresh (h : PassesTo l s t) : PassesTo l s (t.refresh l) := by
  rw [State.refresh_eq]
  exact h.setEngine ⟨rfl, rfl, rfl, rfl, rfl, rfl, id⟩

theorem startUnit (h : PassesTo l s t) (n : SlotNo) :
    PassesTo l s (t.setUnit n { t.unit n with confirm := 0, syncRequest := true }) := by
  refine ⟨h.engine, fun m => ?_⟩
  rw [State.unit_setUnit]
  split
  · next same => exact same ▸ h.counters n
  · exact h.counters m

theorem entryDue (h : PassesTo l s t) (p : Nat) (n : SlotNo) (a : EntryAction) : PassesTo l s (t.entryDue l p n a) := by
  by_cases confirmed : a = .confirmed
  · rw [confirmed, State.entryDue_confirmed]
    exact (h.startUnit n).setEngine ⟨rfl, rfl, rfl, rfl, rfl, rfl, nofun⟩
  · rw [State.entryDue_served _ _ _ _ confirmed]
    exact h.setEngine ⟨rfl, rfl, rfl, rfl, rfl, rfl, nofun⟩

theorem sweepDue (h : PassesTo l s t) : PassesTo l s (t.sweepDue l) :=
  h.setEngine ⟨rfl, rfl, rfl, rfl, rfl, rfl, nofun⟩

theorem waitTick (h : PassesTo l s t) : PassesTo l s (t.waitTick l) :=
  h.setEngine ⟨rfl, rfl, rfl, rfl, rfl, rfl, nofun⟩

theorem beginPass (h : PassesTo l s t) : PassesTo l s (t.beginPass l) := by
  have begun := h.setEngine (e := { t.engine l with
    ringPtr := 0, passActive := false, cut := false, due := none, xstate := .idle }) ⟨rfl, rfl, rfl, rfl, rfl, rfl, nofun⟩
  unfold State.beginPass
  dsimp only
  split
  · exact begun.entryDue _ _ _
  · split
    · exact begun.sweepDue
    · exact begun.waitTick

theorem endPass (h : PassesTo l s t) : PassesTo l s (t.endPass l) := by
  unfold State.endPass
  split
  · exact h.sweepDue
  · split
    · exact h.beginPass
    · exact h.waitTick

theorem reachNext (h : PassesTo l s t) : PassesTo l s (t.reachNext l) := by
  unfold State.reachNext
  split
  · exact h.endPass
  · split
    · exact h.entryDue _ _ _
    · exact h.endPass

theorem nextDue (h : PassesTo l s t) : PassesTo l s (t.nextDue l) := by
  unfold State.nextDue
  split
  · exact h.reachNext
  · exact h.beginPass
  · exact h
  · exact h

theorem endRun (h : PassesTo l s t) (r : ConfirmRun) : PassesTo l s (t.endRun l r) := by
  rw [State.endRun_eq]
  exact h.setEngine ⟨rfl, rfl, rfl, rfl, rfl, rfl, id⟩

theorem advance (h : PassesTo l s t) : PassesTo l s (t.advance l) := by
  unfold State.advance
  split
  · exact h.nextDue
  · split
    · exact h.setEngine ⟨rfl, rfl, rfl, rfl, rfl, rfl, nofun⟩
    · exact (h.endRun _).nextDue

theorem settleRun (h : PassesTo l s t) (n : SlotNo) (failed : Bool) : PassesTo l s (t.settleRun l n failed) := by
  unfold State.settleRun
  split
  · split
    · exact h.setEngine ⟨rfl, rfl, rfl, rfl, rfl, rfl, id⟩
    · exact h
  · split
    · exact h.endRun _
    · exact h

end State.PassesTo

/-! ### An exchange that fails -/

theorem UnitRun.failedOnce_counters (u : UnitRun) (counters : SlotCounters) : (u.failedOnce counters).counters = counters := by
  unfold UnitRun.failedOnce
  split
  · rfl
  · cases presence : u.presence <;> simp [UnitRun.missed, presence]

/-- A failure is counted once, and nothing that follows it counts again while the slot's record stays (R27, R71). -/
theorem State.handleOutcome_counters {s : State} {x : Exchange} {o : ExchangeOutcome} (fails : o.isValid = false)
    (stays : s.RecordStays x.slot) :
    ((s.handleOutcome x o).unit x.slot).counters = (s.unit x.slot).counters.count o := by
  rw [((State.handleOutcome_aftermath fails).stays stays).2.counters, State.unit_setUnit_same,
    UnitRun.failedOnce_counters]

section

variable {s : State} {l : Line}

/-- The state in which an exchange has ended, before its run is settled. -/
def State.exchangeOver (s : State) (l : Line) (x : Exchange) (o : ExchangeOutcome) (after : XState) : State :=
  (s.setEngine l ((s.engine l).freed after)).giveOutcome x o

theorem State.endExchange_passes (s : State) (l : Line) (x : Exchange) (o : ExchangeOutcome) (after : XState) :
    (s.exchangeOver l x o after).PassesTo l (s.endExchange l x o after) := State.PassesTo.refl.settleRun _ _

theorem State.exchangeOver_engine (s : State) (l : Line) (x : Exchange) (o : ExchangeOutcome) (after : XState) :
    (s.exchangeOver l x o after).engine l = (s.engine l).freed after := by
  rw [State.exchangeOver, State.giveOutcome_engine, State.engine_setEngine_same]

theorem State.exchangeOver_counters {x : Exchange} {o : ExchangeOutcome} (after : XState) (fails : o.isValid = false)
    (new : (s.unit x.slot).superseded = false) (stays : s.RecordStays x.slot) :
    ((s.exchangeOver l x o after).unit x.slot).counters = (s.unit x.slot).counters.count o := by
  rw [State.exchangeOver, State.giveOutcome, if_neg (by simp [new])]
  exact State.handleOutcome_counters fails stays

/-! ### Transmissions (R46, R47) -/

theorem State.lineOutput_high (high : (s.engine l).driver = true) :
    s.lineOutput l = .carries ((s.engine l).sent.flatMap (s.wantedTune l).sentBits) := if_pos high

/-- A telegram is sent at its slot's rate and format (R45). -/
theorem State.wantedTune_sending {x : Exchange} (exchange : (s.engine l).exchange = some x)
    (sending : (s.engine l).xstate = .sending) : s.wantedTune l = x.tune := by
  simp [State.wantedTune, exchange, sending, XState.active]

theorem Engine.sent_exchange {e : Engine} {x : Exchange} (exchange : e.exchange = some x) : e.sent = x.bytes := by
  simp [Engine.sent, exchange]

theorem Engine.sent_probe {e : Engine} {p : Probe} (exchange : e.exchange = none) (probe : e.probe = some p) :
    e.sent = p.bytes := by
  simp [Engine.sent, exchange, probe]

theorem Engine.countSent_exchange {e : Engine} {x : Exchange} (exchange : e.exchange = some x) :
    e.countSent = { e.counters with telegrams := bump e.counters.telegrams } := by
  simp [Engine.countSent, exchange]

theorem Engine.countSent_probe {e : Engine} {p : Probe} (exchange : e.exchange = none) (probe : e.probe = some p) :
    e.countSent = { e.counters with probes := bump e.counters.probes } := by
  simp [Engine.countSent, exchange, probe]

theorem exec_transmissionComplete {counters : LineCounters} (sending : (s.engine l).xstate = .sending)
    (counted : (s.engine l).countSent = counters) :
    exec (.transmissionComplete l) s =
      .next (State.selectNew (State.refresh
        (s.setEngine l
          { s.engine l with driver := false, xstate := .await, received := [], answers := [], counters := counters }) l)) := by
  rw [← counted]
  exact lineIf_true sending

/-! ### Conflicts (R52, R53) -/

/-- A conflict is met only while sending, at a character whose read-back does not pass. -/
theorem State.conflicts_iff {index : Nat} {readBack : Option Sampled} {sent : Byte}
    (sending : (s.engine l).xstate = .sending) (character : (s.engine l).sent[index]? = some sent) :
    s.conflicts l index readBack = true ↔ (s.engine l).tuned.readBackPasses sent readBack = false := by
  simp [State.conflicts, sending, character]

theorem State.conflicts_other {index : Nat} {readBack : Option Sampled} (out : (s.engine l).xstate ≠ .sending) :
    ¬s.conflicts l index readBack = true := by
  simp [State.conflicts, out]

/-- Below the 4th conflict the transmission only waits (R53). -/
theorem State.afterConflict_few (few : (s.engine l).conflicts < 4) : s.afterConflict l = s := if_pos few

theorem State.afterConflict_exchange {x : Exchange} (last : 4 ≤ (s.engine l).conflicts)
    (exchange : (s.engine l).exchange = some x) :
    s.afterConflict l = (s.endExchange l x .conflictLimit .idle).advance l := by
  refine (if_neg (Nat.not_lt.mpr last)).trans ?_
  rw [exchange]

theorem State.afterConflict_probe {p : Probe} (last : 4 ≤ (s.engine l).conflicts)
    (exchange : (s.engine l).exchange = none) (probe : (s.engine l).probe = some p) :
    s.afterConflict l = s.giveUpProbe l p := by
  refine (if_neg (Nat.not_lt.mpr last)).trans ?_
  rw [exchange, probe]

/-- The 4th conflict of a telegram ends its exchange, and the engine goes on (R53). -/
theorem State.afterConflict_exchange_passes {x : Exchange} (last : 4 ≤ (s.engine l).conflicts)
    (exchange : (s.engine l).exchange = some x) :
    (s.exchangeOver l x .conflictLimit .idle).PassesTo l (State.refresh (s.afterConflict l) l) := by
  rw [State.afterConflict_exchange last exchange]
  exact (s.endExchange_passes l x .conflictLimit .idle).advance.refresh

/-- The 4th conflict of a probe pushes its range back, and the next pass begins (R53). -/
theorem State.afterConflict_probe_passes {p : Probe} (last : 4 ≤ (s.engine l).conflicts)
    (exchange : (s.engine l).exchange = none) (probe : (s.engine l).probe = some p) :
    State.PassesTo l
      (s.setEngine l
        { s.engine l with probe := none, conflicts := 0, xstate := .idle, stack := p.range :: (s.engine l).stack })
      (State.refresh (s.afterConflict l) l) := by
  rw [State.afterConflict_probe last exchange probe]
  exact State.PassesTo.refl.beginPass.refresh

end

end Sys2Proof.Machine

namespace Sys2Proof.Proofs

open Sys2Proof.Machine

/-- Settles O43: a completion by what is being sent, a conflict by how many there have been and by what is being sent. -/
theorem transmissionsCompleteOrConflict : Obligations.TransmissionsCompleteOrConflict := by
  unfold Obligations.TransmissionsCompleteOrConflict
  intro s l index readBack sent e now counted passes rx
  have received : rxAfterReadBack e.tuned e.rx readBack = rx := by
    cases readBack with
    | none => rfl
    | some ch => exact rxAfter_eq _
  have judged : e.tuned.readBackPasses sent readBack = true ↔ passes := by
    cases readBack with
    | none => exact ⟨nofun, nofun⟩
    | some ch =>
      show (e.tuned.error ch == .none && e.tuned.data.value ch.data == e.tuned.data.value sent) = true ↔
        e.tuned.error ch = .none ∧ e.tuned.data.value ch.data = e.tuned.data.value sent
      simp
  have conflicted : (s.countConflict l readBack).engine l =
      { e with driver := false, rx := rx, conflicts := e.conflicts + 1, xstate := .paused, counters := counted } := by
    rw [State.countConflict_engine, ← received]
  refine ⟨State.lineOutput_low, fun high => ⟨fun x exchange sending => ?_, fun exchange p probe => ?_⟩,
    fun out => ⟨lineIf_false out, lineIf_false (State.conflicts_other out)⟩,
    fun sending => ⟨fun x exchange => ?_, fun exchange p probe => ?_, fun character => ?_⟩⟩
  · rw [State.lineOutput_high high, Engine.sent_exchange exchange, State.wantedTune_sending exchange sending]
  · rw [State.lineOutput_high high, Engine.sent_probe exchange probe, State.wantedTune_base s l exchange]
  · exact exec_transmissionComplete sending (Engine.countSent_exchange exchange)
  · exact exec_transmissionComplete sending (Engine.countSent_probe exchange probe)
  have met : s.conflicts l index readBack = true ↔ ¬passes := by
    rw [State.conflicts_iff sending character, ← judged]
    exact Bool.eq_false_iff
  refine ⟨fun passed => lineIf_false fun conflict => met.mp conflict passed, fun failed few => ?_,
    fun failed last one => ⟨_, lineIf_true (met.mpr failed), ?_⟩⟩
  · refine (lineIf_true (met.mpr failed)).trans ?_
    rw [State.afterConflict_few (by rw [conflicted]; exact few), State.countConflict]
    show Host.Outcome.next (State.selectNew (State.refresh (s.setEngine l
      { e with
        driver := false, rx := rxAfterReadBack e.tuned e.rx readBack, conflicts := e.conflicts + 1, xstate := .paused
        counters := counted }) l)) = _
    rw [received]
    rfl
  · have last : 4 ≤ ((s.countConflict l readBack).engine l).conflicts := by rw [conflicted]; exact last
    cases exchange : e.exchange with
    | some x =>
      have probe : e.probe = none := one.resolve_left (by simp [exchange])
      have passed := State.afterConflict_exchange_passes (x := x) last (by rw [conflicted]; exact exchange)
      have line := passed.engine
      rw [State.exchangeOver_engine, conflicted] at line
      refine ⟨line.driver, line.exchange, line.probe.trans probe, line.conflicts, line.counters, mt line.sends nofun,
        fun _ _ => line.stack, fun y same new stays => ?_, nofun⟩
      obtain rfl := Option.some.inj same
      rw [passed.counters]
      exact State.exchangeOver_counters (s := s.countConflict l readBack) .idle rfl new stays
    | none =>
      cases probe : e.probe with
      | some p =>
        have passed := State.afterConflict_probe_passes (p := p) last (by rw [conflicted]; exact exchange)
          (by rw [conflicted]; exact probe)
        have line := passed.engine
        rw [State.engine_setEngine_same, conflicted] at line
        refine ⟨line.driver, line.exchange.trans exchange, line.probe, line.conflicts, line.counters, mt line.sends nofun,
          nofun, nofun, fun _ q same => ?_⟩
        obtain rfl := Option.some.inj same
        exact line.stack
      | none =>
        have nothing : (s.engine l).sent = [] := by
          simp only [Engine.sent, show (s.engine l).exchange = none from exchange,
            show (s.engine l).probe = none from probe]
        simp [e, nothing] at character

end Sys2Proof.Proofs
end

section
/-! SUPPORT. The ring's entries in order, the ends of passes and of runs, and the first pass (R70, R86, R87, R89, R90, R96,
R101). -/

namespace Sys2Proof.Machine

/-! ### What a ring entry gets (R87) -/

/-- A ring entry is confirmed where its slot is not trusted yet, and no sweep looks for it (R87). -/
theorem State.entryAction_confirmed {s : State} {l : Line} {n : SlotNo} :
    s.entryAction l n = .confirmed ↔
      ((s.record n).enabled = true ∧ (s.record n).line = l) ∧
        ¬(s.lineInForce l).sweep = true ∧ ((s.unit n).presence = .seeking ∨ (s.unit n).presence = .lost) := by
  rw [← State.onLine_iff]
  unfold State.entryAction
  by_cases onLine : s.onLine l n = true
  · cases presence : (s.unit n).presence <;> simp [onLine]
  · simp [onLine]

theorem EntryAction.skipped_iff (a : EntryAction) : a = .skipped ↔ a ≠ .served ∧ a ≠ .confirmed := by
  cases a <;> simp

/-- A probe becomes due, whatever the engine was. -/
theorem State.sweepDue_setEngine (s : State) (l : Line) (e : Engine) :
    (s.setEngine l e).sweepDue l =
      s.setEngine l
        { e with ringPtr := (s.ring l).length, stage := .sweepStep, xstate := .paused, due := some .probe } := by
  rw [State.sweepDue, State.engine_setEngine_same, State.setEngine_setEngine, State.ring_setEngine]

/-- The engine waits for the tick, whatever it was. -/
theorem State.waitTick_setEngine (s : State) (l : Line) (e : Engine) :
    (s.setEngine l e).waitTick l =
      s.setEngine l { e with ringPtr := (s.ring l).length, stage := .tickWait, xstate := .idle, due := none } := by
  rw [State.waitTick, State.engine_setEngine_same, State.setEngine_setEngine, State.ring_setEngine]

/-- What the engines do has no part in what an entry gets. -/
theorem State.scan_setEngine (s : State) (l : Line) (e : Engine) (p : Nat) (entries : List SlotNo) :
    (s.setEngine l e).scan l p entries = s.scan l p entries := 
  State.scan_congr (s := s) (t := s.setEngine l e) (fun _ => rfl) p entries

/-- An entry that is served becomes due, whatever the engine was. -/
theorem State.entryDue_setEngine_served (s : State) (l : Line) (e : Engine) (p : Nat) (n : SlotNo) :
    (s.setEngine l e).entryDue l p n .served =
      s.setEngine l { e with ringPtr := p, stage := .ring, xstate := .paused, due := some .entry } := by
  rw [State.entryDue_served _ _ _ _ (show EntryAction.served ≠ .confirmed from nofun), State.engine_setEngine_same,
    State.setEngine_setEngine]

/-- An entry that is confirmed begins a run, whatever the engine was. -/
theorem State.entryDue_setEngine_confirmed (s : State) (l : Line) (e : Engine) (p : Nat) (n : SlotNo) :
    (s.setEngine l e).entryDue l p n .confirmed =
      (s.setUnit n { s.unit n with confirm := 0, syncRequest := true }).setEngine l
        { e with ringPtr := p, stage := .ring, xstate := .paused, due := some .run, run := some ⟨n, true⟩ } := by
  rw [State.entryDue_confirmed, State.engine_setEngine_same]
  exact State.setEngine_setEngine (s.setUnit n _) l e _

section

variable {s : State} {l : Line}

/-! ### The first entry that is not skipped (R86) -/

theorem State.scan_skipped {entries : List SlotNo} (skipped : ∀ m ∈ entries, s.entryAction l m = .skipped) (p : Nat) :
    s.scan l p entries = none := by
  induction entries generalizing p with
  | nil => rfl
  | cons m rest ih =>
    obtain ⟨first, others⟩ := List.forall_mem_cons.mp skipped
    rw [State.scan, first]
    exact ih others _

theorem State.scan_first {n : SlotNo} {i : Nat} {entries : List SlotNo} (entry : entries[i]? = some n)
    (taken : s.entryAction l n ≠ .skipped) (before : ∀ m ∈ entries.take i, s.entryAction l m = .skipped) (p : Nat) :
    s.scan l p entries = some (p + i, n, s.entryAction l n) := by
  induction entries generalizing i p with
  | nil => simp at entry
  | cons m rest ih =>
    cases i with
    | zero =>
      obtain rfl : m = n := by simpa using entry
      rw [State.scan]
      split
      · next skipped => exact absurd skipped taken
      · rfl
    | succ j =>
      obtain ⟨first, others⟩ := List.forall_mem_cons.mp (by simpa only [List.take_succ_cons] using before)
      rw [State.scan, first]
      have rest := ih (by simpa using entry) others (p + 1)
      rw [show p + (j + 1) = p + 1 + j by omega]
      exact rest

/-! ### The pointer moves on (R86, R89, R90) -/

theorem State.reachNext_first {n : SlotNo} {place : Nat} (uncut : (s.engine l).cut = false)
    (ahead : (s.engine l).ringPtr ≤ place) (entry : (s.ring l)[place]? = some n) (taken : s.entryAction l n ≠ .skipped)
    (before : ∀ m ∈ ((s.ring l).take place).drop (s.engine l).ringPtr, s.entryAction l m = .skipped) :
    s.reachNext l = s.entryDue l place n (s.entryAction l n) := by
  have found := State.scan_first (entries := (s.ring l).drop (s.engine l).ringPtr) (i := place - (s.engine l).ringPtr)
    (by rw [List.getElem?_drop, Nat.add_sub_cancel' ahead]; exact entry) taken (by rw [← List.drop_take]; exact before)
    (s.engine l).ringPtr
  rw [State.reachNext, uncut, found, Nat.add_sub_cancel' ahead]
  rfl

theorem State.reachNext_skipped
    (skipped : ∀ m ∈ (s.ring l).drop (s.engine l).ringPtr, s.entryAction l m = .skipped) :
    s.reachNext l = s.endPass l := by
  rw [State.reachNext, State.scan_skipped skipped]
  exact ite_self _

theorem State.reachNext_cut (cut : (s.engine l).cut = true) : s.reachNext l = s.endPass l := if_pos cut

theorem State.endPass_sweep (sweep : (s.lineInForce l).sweep = true) : s.endPass l = s.sweepDue l := if_pos sweep

theorem State.endPass_active (still : ¬(s.lineInForce l).sweep = true) (active : (s.engine l).passActive = true) :
    s.endPass l = s.beginPass l := (if_neg still).trans (if_pos active)

theorem State.endPass_idle (still : ¬(s.lineInForce l).sweep = true) (idle : (s.engine l).passActive = false) :
    s.endPass l = s.waitTick l := (if_neg still).trans (if_neg (by simp [idle]))

/-! ### A pass begins (R86, R89) -/

/-- The engine at the beginning of a pass, before any entry is looked at. -/
def Engine.atStart (e : Engine) : Engine :=
  { e with ringPtr := 0, passActive := false, cut := false, due := none, xstate := .idle }

theorem State.beginPass_first {n : SlotNo} {place : Nat} (entry : (s.ring l)[place]? = some n)
    (taken : s.entryAction l n ≠ .skipped) (before : ∀ m ∈ (s.ring l).take place, s.entryAction l m = .skipped) :
    s.beginPass l = (s.setEngine l (s.engine l).atStart).entryDue l place n (s.entryAction l n) := by
  have found := State.scan_first entry taken before 0
  rw [Nat.zero_add, ← s.scan_setEngine l (s.engine l).atStart] at found
  simp only [State.beginPass]
  rw [show { s.engine l with ringPtr := 0, passActive := false, cut := false, due := none, xstate := .idle } =
    (s.engine l).atStart from rfl, State.ring_setEngine, found]

theorem State.beginPass_skipped (skipped : ∀ m ∈ s.ring l, s.entryAction l m = .skipped) :
    s.beginPass l =
      if (s.lineInForce l).sweep then (s.setEngine l (s.engine l).atStart).sweepDue l
      else (s.setEngine l (s.engine l).atStart).waitTick l := by
  have none := State.scan_skipped skipped 0
  rw [← s.scan_setEngine l (s.engine l).atStart] at none
  simp only [State.beginPass]
  rw [show { s.engine l with ringPtr := 0, passActive := false, cut := false, due := Option.none, xstate := .idle } =
    (s.engine l).atStart from rfl, State.ring_setEngine, none]
  rfl

/-- A pass begins in the same way whatever the engine's stage and state were. -/
theorem State.beginPass_stage (s : State) (l : Line) (stage : Stage) (xstate : XState) :
    (s.setEngine l { s.engine l with stage := stage, xstate := xstate }).beginPass l = s.beginPass l := by
  simp only [State.beginPass, State.setEngine_setEngine, State.engine_setEngine_same, State.scan_setEngine,
    State.ring_setEngine, State.lineInForce_setEngine]
  cases s.scan l 0 (s.ring l) with
  | some found =>
    obtain ⟨p, n, a⟩ := found
    cases a with
    | served => simp only [State.entryDue_setEngine_served]
    | confirmed => simp only [State.entryDue_setEngine_confirmed]
    | skipped => simp only [State.entryDue_served _ _ _ _ (show EntryAction.skipped ≠ .confirmed from nofun),
        State.engine_setEngine_same, State.setEngine_setEngine]
  | none => simp only [State.sweepDue_setEngine, State.waitTick_setEngine]

/-! ### The commands (R70, R89) -/

/-- The guard has run out, and the engine goes on from IDLE. -/
def State.guardOver (s : State) (l : Line) : State := s.setEngine l { s.engine l with xstate := .idle }

theorem State.guardOver_engine (s : State) (l : Line) :
    (s.guardOver l).engine l = { s.engine l with xstate := .idle } := State.engine_setEngine_same _ _ _

theorem exec_guardRunsOut (guarding : (s.engine l).xstate = .guarding) :
    exec (.guardRunsOut l) s = .next (State.selectNew (State.refresh ((s.guardOver l).advance l) l)) :=
  lineIf_true guarding

theorem State.advance_run {r : ConfirmRun} (run : (s.engine l).run = some r) :
    s.advance l =
      if s.runServes l r then s.setEngine l { s.engine l with xstate := .paused, due := some .run }
      else (s.endRun l r).nextDue l := by
  rw [State.advance, run]

theorem State.advance_free (run : (s.engine l).run = none) : s.advance l = s.nextDue l := by rw [State.advance, run]

/-- The guard has run out with a run that serves its slot no more: it has run out where the run has ended (R96). -/
theorem exec_guardRunsOut_ended {r : ConfirmRun} (guarding : (s.engine l).xstate = .guarding)
    (run : (s.engine l).run = some r) (ended : ¬s.runServes l r = true) :
    exec (.guardRunsOut l) s = exec (.guardRunsOut l) (s.endRun l r) := by
  have commute : (s.guardOver l).endRun l r = (s.endRun l r).guardOver l := by
    simp only [State.endRun_eq, State.guardOver, State.engine_setEngine_same, State.setEngine_setEngine,
      State.ring_setEngine]
  have goes : (s.guardOver l).advance l = ((s.endRun l r).guardOver l).nextDue l := by
    rw [State.advance_run (by rw [State.guardOver_engine]; exact run), 
      if_neg (show ¬(s.guardOver l).runServes l r = true from ended), commute]
  have engine := State.guardOver_engine (s.endRun l r) l
  rw [State.endRun_eq, State.engine_setEngine_same] at engine
  rw [exec_guardRunsOut guarding, goes,
    exec_guardRunsOut (by rw [State.endRun_eq, State.engine_setEngine_same]; exact guarding),
    State.advance_free (s := (s.endRun l r).guardOver l) (by rw [State.endRun_eq, engine])]

/-- The guard has run out in the ring, with no run in progress. -/
theorem State.guardOver_ring (stage : (s.engine l).stage = .ring) (run : (s.engine l).run = none) :
    (s.guardOver l).advance l = (s.guardOver l).reachNext l := by
  rw [State.advance_free (by rw [State.guardOver_engine]; exact run), State.nextDue, State.guardOver_engine, stage]

/-- The guard has run out in the sweep step: the next pass begins (R89). -/
theorem State.guardOver_sweep (stage : (s.engine l).stage = .sweepStep) (run : (s.engine l).run = none) :
    (s.guardOver l).advance l = (s.guardOver l).beginPass l := by
  rw [State.advance_free (by rw [State.guardOver_engine]; exact run), State.nextDue, State.guardOver_engine, stage]

/-- The guard has run out before the first pass, which waits for its line (log entry 27). -/
theorem State.guardOver_toBegin (stage : (s.engine l).stage = .toBegin) (run : (s.engine l).run = none) :
    (s.guardOver l).advance l = s.guardOver l := by
  rw [State.advance_free (by rw [State.guardOver_engine]; exact run), State.nextDue, State.guardOver_engine, stage]

/-- The part with an engine that waits for the tick. -/
def State.awaitTick (s : State) (l : Line) : State := s.setEngine l { s.engine l with stage := .tickWait }

theorem exec_passBegins (tick : (s.engine l).stage = .tickWait) :
    exec (.passBegins l) s = .next (State.selectNew (State.refresh (s.beginPass l) l)) := if_pos tick

/-- PASS_BEGINS at an engine that waits for the tick begins the pass that would begin where it stands. -/
theorem exec_passBegins_awaitTick (s : State) (l : Line) :
    exec (.passBegins l) (s.awaitTick l) = .next (State.selectNew (State.refresh (s.beginPass l) l)) := by
  rw [exec_passBegins (by rw [State.awaitTick, State.engine_setEngine_same]), State.awaitTick,
    State.beginPass_stage s l .tickWait (s.engine l).xstate]

theorem exec_passBegins_ready (stage : (s.engine l).stage = .toBegin) (ready : (s.engine l).ready = true) :
    exec (.passBegins l) s = .next (State.selectNew (State.refresh (s.beginPass l) l)) :=
  (if_neg (by simp [stage])).trans (if_pos ⟨stage, ready⟩)

theorem exec_passBegins_other (noTick : (s.engine l).stage ≠ .tickWait)
    (waits : ¬((s.engine l).stage = .toBegin ∧ (s.engine l).ready = true)) :
    exec (.passBegins l) s = .next s.selectNew := (if_neg noTick).trans (if_neg waits)

/-- A pass that begins when the guard has run out is the one that a tick would begin. -/
theorem State.beginPass_guardOver (s : State) (l : Line) : (s.guardOver l).beginPass l = s.beginPass l :=
  s.beginPass_stage l (s.engine l).stage .idle

end

end Sys2Proof.Machine

namespace Sys2Proof.Proofs

open Sys2Proof.Machine

/-- Settles O50: by the stage for the guard's end and for PASS_BEGINS, then by the first entry that is not skipped. -/
theorem entriesAreReachedInRingOrder : Obligations.EntriesAreReachedInRingOrder := by
  unfold Obligations.EntriesAreReachedInRingOrder
  intro s l place n e sweep here served confirmed skipped now running ring nextPass passEnds
  have isServed (m : SlotNo) : s.entryAction l m = .served ↔ served m := State.entryAction_served
  have isConfirmed (m : SlotNo) : s.entryAction l m = .confirmed ↔ confirmed m := State.entryAction_confirmed
  have passes {start : Nat} {entries : List SlotNo} (all : skipped start entries) :
      ∀ m ∈ entries.drop start, s.entryAction l m = .skipped := fun m mem => by
    rw [EntryAction.skipped_iff, Ne, Ne, isServed, isConfirmed]
    exact all m mem
  have begins (guarding : e.xstate = .guarding) (begun : (s.guardOver l).advance l = (s.guardOver l).beginPass l) :
      nextPass := by
    show _ = exec (.passBegins l) (s.awaitTick l)
    rw [exec_guardRunsOut guarding, begun, State.beginPass_guardOver, exec_passBegins_awaitTick]
  have ends (guarding : e.xstate = .guarding) (ended : (s.guardOver l).advance l = (s.guardOver l).endPass l) :
      passEnds := by
    refine ⟨fun sweeps => ?_, fun still active => begins guarding (ended.trans ?_), fun still idle => ?_⟩
    · rw [exec_guardRunsOut guarding, ended, State.endPass_sweep (s := s.guardOver l) sweeps, State.guardOver,
        State.sweepDue_setEngine]
      rfl
    · exact State.endPass_active still (by rw [State.guardOver_engine]; exact active)
    · rw [exec_guardRunsOut guarding, ended,
        State.endPass_idle (s := s.guardOver l) still (by rw [State.guardOver_engine]; exact idle), State.guardOver,
        State.waitTick_setEngine]
      rfl
  refine ⟨fun out => lineIf_false out,
    fun guarding stage run uncut => ⟨fun ahead entry before => ?_, fun all => ends guarding ?_⟩,
    fun guarding stage run cut => ends guarding ?_,
    fun guarding stage run => begins guarding (State.guardOver_sweep stage run),
    fun guarding stage run => ?_, fun guarding r run => ?_, fun tick => ⟨fun entry before => ?_, fun all => ?_⟩,
    fun stage => ⟨fun ready => ?_, fun unready => ?_⟩,
    fun noTick begun => exec_passBegins_other noTick fun waits => begun waits.1⟩
  · have reached (taken : s.entryAction l n ≠ .skipped) :
        (s.guardOver l).advance l = (s.guardOver l).entryDue l place n (s.entryAction l n) := by
      rw [State.guardOver_ring stage run]
      exact State.reachNext_first (by rw [State.guardOver_engine]; exact uncut)
        (by rw [State.guardOver_engine]; exact ahead) entry taken (by rw [State.guardOver_engine]; exact passes before)
    refine ⟨fun serves => ?_, fun confirms => ?_⟩
    · have action := (isServed n).mpr serves
      rw [exec_guardRunsOut guarding, reached (by simp [action]), action, State.guardOver,
        State.entryDue_setEngine_served, ← stage]
      rfl
    · have action := (isConfirmed n).mpr confirms
      rw [exec_guardRunsOut guarding, reached (by simp [action]), action, State.guardOver,
        State.entryDue_setEngine_confirmed, ← stage]
      rfl
  · rw [State.guardOver_ring stage run]
    exact State.reachNext_skipped (by rw [State.guardOver_engine]; exact passes all)
  · rw [State.guardOver_ring stage run]
    exact State.reachNext_cut (by rw [State.guardOver_engine]; exact cut)
  · rw [exec_guardRunsOut guarding, State.guardOver_toBegin stage run]
    rfl
  · refine ⟨fun goes => ?_, fun stops => ?_⟩
    · have goesOn := State.advance_run (s := s.guardOver l) (by rw [State.guardOver_engine]; exact run)
      have serves : (s.guardOver l).runServes l r = true := State.runServes_iff.mpr goes
      rw [exec_guardRunsOut guarding, goesOn, if_pos serves, State.guardOver_engine, State.guardOver,
        State.setEngine_setEngine]
      rfl
    · rw [exec_guardRunsOut_ended guarding run fun serves => stops (State.runServes_iff.mp serves), State.endRun_eq]
      rfl
  · have begun (taken : s.entryAction l n ≠ .skipped) :=
      State.beginPass_first entry taken (passes (start := 0) before)
    refine ⟨fun serves => ?_, fun confirms => ?_⟩
    · have action := (isServed n).mpr serves
      rw [exec_passBegins tick, begun (by simp [action]), action, State.entryDue_setEngine_served]
      rfl
    · have action := (isConfirmed n).mpr confirms
      rw [exec_passBegins tick, begun (by simp [action]), action, State.entryDue_setEngine_confirmed]
      rfl
  · rw [exec_passBegins tick, State.beginPass_skipped (passes (start := 0) all), State.sweepDue_setEngine,
      State.waitTick_setEngine]
    by_cases sweeps : sweep
    · rw [if_pos sweeps, if_pos sweeps]
      rfl
    · rw [if_neg sweeps, if_neg sweeps, ← tick]
      rfl
  · rw [exec_passBegins_ready stage (e.ready_iff.mpr ⟨ready.1, ready.2.1, ready.2.2.2, ready.2.2.1⟩)]
    exact (exec_passBegins_awaitTick s l).symm
  · refine exec_passBegins_other (fun tick => nomatch stage.symm.trans tick) fun ⟨_, ready⟩ => unready ?_
    obtain ⟨rest, calm, free, low⟩ := e.ready_iff.mp ready
    exact ⟨rest, calm, low, free⟩

end Sys2Proof.Proofs
end

section
/-! SUPPORT. The telegram that is chosen for a slot and built for it (R61, R63, R79, R114, R154, R183). -/

namespace Sys2Proof.Machine

/-! ### The command item (R79, R114, R183) -/

/-- A directive with nothing before it in the order of R114 is the first one. -/
theorem Directives.first_of {ds : Directives} {d : Directive} {p : Pending} (present : ds.get d = some p)
    (before : ∀ b ∈ directiveOrder.takeWhile (· ≠ d), ds.get b = none) : ds.first = some (d, p) := by
  cases d <;> simp_all [Directives.first, directiveOrder]

theorem Directives.first_none {ds : Directives} (empty : ∀ b ∈ directiveOrder, ds.get b = none) : ds.first = none := by
  simp_all [Directives.first, directiveOrder]

/-- A record's role matches a unit's kind (R79): 1 for a keypad, 2 for a reader. -/
theorem roleMatches_iff (r : List Byte) (kind : UnitKind) :
    roleMatches r kind = true ↔
      ((r.getD 2 0).toNat % 4 = 1 ∧ kind ≠ .reader) ∨ ((r.getD 2 0).toNat % 4 = 2 ∧ kind ≠ .pinpad) := by
  have role : (recordRole r).toNat = (r.getD 2 0).toNat % 4 := by
    rw [recordRole, recordFlagByte, BitVec.toNat_and]
    exact Nat.and_two_pow_sub_one_eq_mod _ 2
  have is (code : Byte) : recordRole r = code ↔ (r.getD 2 0).toNat % 4 = code.toNat := by
    rw [← BitVec.toNat_inj, role]
  simp only [roleMatches, Bool.or_eq_true, Bool.and_eq_true, beq_iff_eq, is]
  cases kind <;> simp [UnitKind.keypad, UnitKind.cardReader]

section

variable {s : State} {n : SlotNo}

theorem State.currentLane_enabled (enabled : (s.record n).enabled = true) :
    s.currentLane n = some (s.record n).lane := if_pos enabled

theorem State.trusted_iff : s.trusted n = true ↔ (s.unit n).presence = .locked ∨ (s.unit n).presence = .faltering := by
  rw [State.trusted]
  cases (s.unit n).presence <;> simp [Presence.trusted]

theorem UnitKind.keypad_iff (kind : UnitKind) : kind.keypad = true ↔ kind ≠ .reader := by cases kind <;> simp [UnitKind.keypad]

/-- SHUT is for the keypad of a lane whose window is SHUTTING (R79). -/
theorem State.shutApplies_iff (enabled : (s.record n).enabled = true) :
    s.shutApplies n = true ↔
      (s.record n).kind ≠ .reader ∧ ∃ w, (s.lane (s.record n).lane).window = some w ∧ w.phase = .shutting := by
  simp only [State.shutApplies, State.currentLane_enabled enabled, LaneRecord.shutting, Bool.and_eq_true,
    UnitKind.keypad_iff]
  cases (s.lane (s.record n).lane).window <;> simp

/-- The head record is carried to a slot of its role while its lane is neither FAULTED nor CLOSING (R79). -/
theorem State.headFor_carried (enabled : (s.record n).enabled = true) {r : OutRecord}
    (head : (s.outQueue (s.record n).lane).head? = some r) (fit : (s.lane (s.record n).lane).phase ≠ .faulted)
    (stays : (s.lane (s.record n).lane).phase ≠ .closing) (role : roleMatches r.bytes (s.record n).kind = true) :
    s.headFor n = some ((s.record n).lane, r) := by
  simp only [State.headFor, State.currentLane_enabled enabled, head]
  cases phase : (s.lane (s.record n).lane).phase <;> simp_all

theorem State.headFor_withheld (enabled : (s.record n).enabled = true)
    (withheld : ∀ r, (s.outQueue (s.record n).lane).head? = some r →
      (s.lane (s.record n).lane).phase = .faulted ∨ (s.lane (s.record n).lane).phase = .closing ∨
        roleMatches r.bytes (s.record n).kind = false) : s.headFor n = none := by
  simp only [State.headFor, State.currentLane_enabled enabled]
  cases head : (s.outQueue (s.record n).lane).head? with
  | none => rfl
  | some r =>
    have held := withheld r head
    cases phase : (s.lane (s.record n).lane).phase <;> simp_all

/-- The unit command of a directive, with its prompt cut to what the display takes (R114, R154). -/
theorem State.directivePayload_eq (enabled : (s.record n).enabled = true) (d : Directive) :
    s.directivePayload n d =
      d.code :: (s.promptOf (s.record n).lane d).take (s.record n).kind.promptRoom := by
  rw [State.directivePayload, State.currentLane_enabled enabled]

/-! ### The choice (R79) -/

theorem State.choose_sync (asked : (s.unit n).syncRequest = true) : s.choose n = ⟨.sync, none, []⟩ := if_pos asked

section

variable (synced : (s.unit n).syncRequest = false)
include synced

theorem State.choose_untrusted (untrusted : ¬s.trusted n = true) : s.choose n = ⟨.poll, none, []⟩ := by
  rw [State.choose, if_neg (by simp [synced]), if_neg untrusted]

variable (trusted : s.trusted n = true)
include trusted

theorem State.choose_shut (shutting : s.shutApplies n = true) : s.choose n = ⟨.shut, none, []⟩ := by
  rw [State.choose, if_neg (by simp [synced]), if_pos trusted, if_pos shutting]

variable (unshut : ¬s.shutApplies n = true)
include unshut

theorem State.choose_doubt (doubt : (s.unit n).doubt ≠ none) : s.choose n = ⟨.poll, none, []⟩ := by
  rw [State.choose, if_neg (by simp [synced]), if_pos trusted, if_neg unshut, State.chooseItem,
    if_pos (Option.isSome_iff_ne_none.mpr doubt)]

variable (sure : (s.unit n).doubt = none)
include sure

theorem State.choose_directive {d : Directive} {p : Pending} (first : (s.unit n).directives.first = some (d, p)) :
    s.choose n = ⟨.command, some (.directive d p.serial), s.directivePayload n d⟩ := by
  rw [State.choose, if_neg (by simp [synced]), if_pos trusted, if_neg unshut, State.chooseItem, sure, first]
  rfl

variable (empty : (s.unit n).directives.first = none)
include empty

theorem State.choose_record {k : LaneNo} {r : OutRecord} (head : s.headFor n = some (k, r)) :
    s.choose n = ⟨.command, some (.record k r.serial), recordPayload r.bytes⟩ := by
  rw [State.choose, if_neg (by simp [synced]), if_pos trusted, if_neg unshut, State.chooseItem, sure, empty, head]
  rfl

theorem State.choose_poll (head : s.headFor n = none) : s.choose n = ⟨.poll, none, []⟩ := by
  rw [State.choose, if_neg (by simp [synced]), if_pos trusted, if_neg unshut, State.chooseItem, sure, empty, head]
  rfl

end

end

end Sys2Proof.Machine

namespace Sys2Proof.Proofs

open Sys2Proof.Machine

/-- Settles O42: what is chosen, by the list of R79, is what the exchange carries. -/
theorem telegramsAreChosenInOrder : Obligations.TelegramsAreChosenInOrder := by
  unfold Obligations.TelegramsAreChosenInOrder
  intro s n d p r more u slot k x ack control sends trusted shutting room command before role carried enabled
  have isTrusted : s.trusted n = true ↔ trusted := State.trusted_iff
  have isShutting : s.shutApplies n = true ↔ shutting := State.shutApplies_iff enabled
  have sent {kind : TelegramKind} {item : Option Item} {payload : List Byte} (chosen : s.choose n = ⟨kind, item, payload⟩) :
      sends kind item (s.controlFor n kind) payload := by
    simp only [sends, x, State.buildExchange, chosen]
    exact ⟨trivial, trivial, rfl⟩
  have acked (kind : TelegramKind) (unsynced : kind ≠ .sync) : s.controlFor n kind = control kind.code := by
    have coded : (u.pendingAck.code, u.pendingAck.seqBit) = (ack.1, ack.2.toNat) := by
      simp only [ack]
      cases u.pendingAck with
      | none => rfl
      | given v seq => cases v <;> cases seq <;> rfl
    obtain ⟨code, bit⟩ := Prod.mk.inj coded
    rw [State.controlFor, if_neg unsynced, telegramControl]
    show byteOf (kind.code + 8 * u.pendingAck.code + (if u.c then 32 else 0) + 64 * u.pendingAck.seqBit) = _
    rw [code, bit]
    simp only [control]
    cases ack.2 <;> rfl
  have polled (chosen : s.choose n = ⟨.poll, none, []⟩) : sends .poll none (control 0) [] := acked .poll nofun ▸ sent chosen
  refine ⟨rfl, rfl, rfl, fun asked => sent (State.choose_sync asked), fun synced => ⟨fun untrusted => ?_,
    fun trusts shuts => ?_, fun trusts unshut => ⟨fun doubt => ?_, fun sure => ⟨fun present first => ?_, fun empty => ?_⟩⟩⟩⟩
  · exact polled (State.choose_untrusted synced (mt isTrusted.mp untrusted))
  · exact acked .shut nofun ▸ sent (State.choose_shut synced (isTrusted.mpr trusts) (isShutting.mpr shuts))
  · exact polled (State.choose_doubt synced (isTrusted.mpr trusts) (mt isShutting.mp unshut) doubt)
  · have payload : s.directivePayload n d = command := by
      rw [State.directivePayload_eq enabled]
      cases d with
      | eject | keep | wake => exact congrArg _ List.take_nil
      | rest | standby => rfl
    exact payload ▸ acked .command nofun ▸ sent (State.choose_directive synced (isTrusted.mpr trusts)
      (mt isShutting.mp unshut) sure (Directives.first_of present first))
  · have none := Directives.first_none empty
    have carries := roleMatches_iff r.bytes slot.kind
    refine ⟨fun ⟨queue, fit, stays, role⟩ => ?_, fun uncarried => polled ?_⟩
    · exact acked .command nofun ▸ sent (State.choose_record synced (isTrusted.mpr trusts) (mt isShutting.mp unshut) sure none
        (State.headFor_carried enabled (r := r) (by simp [queue, k, slot]) fit stays (carries.mpr role)))
    · refine State.choose_poll synced (isTrusted.mpr trusts) (mt isShutting.mp unshut) sure none
        (State.headFor_withheld enabled fun first is => ?_)
      rcases uncarried with nothing | ⟨queue, uncarried⟩
      · rw [show s.outQueue (s.record n).lane = [] from nothing] at is
        cases is
      · rw [show s.outQueue (s.record n).lane = r :: more from queue] at is
        obtain rfl := Option.some.inj is
        by_contra carrying
        simp only [not_or, Bool.not_eq_false] at carrying
        exact uncarried ⟨queue, carrying.1, carrying.2.1, carries.mp carrying.2.2⟩

end Sys2Proof.Proofs
end

section
/-! SUPPORT. How a lane takes a data reply: the carry-over mark, and a reply that is taken whole or not at all (R76, R124,
R148, R159, R167). -/

namespace Sys2Proof.Machine

@[simp] theorem length_eventRecord (kind : EventKind) (tag : Word16) (content : List Byte) :
    (eventRecord kind tag content).length = 4 + content.length := by
  simp [eventRecord]
  omega

/-! ### The carry-over mark (R159) -/

/-- A lane record once a new data reply from a unit of a kind is taken: the keypad's reply leaves its window no carry-over
mark. -/
def LaneRecord.unmarked (r : LaneRecord) (kind : UnitKind) : LaneRecord :=
  { r with window := r.window.map fun w => if kind = .reader then w else { w with carryOver := none } }

/-- The part in which a lane takes a new data reply from a slot. -/
def State.unmarked (s : State) (k : LaneNo) (n : SlotNo) : State :=
  if (s.markMet k n).isSome then s.dropMark k else s

@[simp] theorem State.setLane_self (s : State) (k : LaneNo) : s.setLane k (s.lane k) = s := by
  simp [State.setLane, State.lane]

@[simp] theorem State.setLane_setLane (s : State) (k : LaneNo) (q r : LaneRecord) :
    (s.setLane k q).setLane k r = s.setLane k r := by
  simp [State.setLane]

/-- A lane without a window, or with an unmarked one, stays as it is. -/
theorem LaneRecord.unmarked_of {r : LaneRecord} (mark : ∀ w, r.window = some w → w.carryOver = none) (kind : UnitKind) :
    r.unmarked kind = r := by
  have same : (r.window.map fun w => if kind = .reader then w else { w with carryOver := none }) = r.window := by
    cases window : r.window with
    | none => rfl
    | some w => simp [← mark w window]
  rw [LaneRecord.unmarked, same]

theorem State.unmarked_eq (s : State) (k : LaneNo) (n : SlotNo) :
    s.unmarked k n = s.setLane k ((s.lane k).unmarked (s.record n).kind) := by
  cases window : (s.lane k).window with
  | none =>
    rw [LaneRecord.unmarked_of (by simp [window]), State.setLane_self]
    simp [State.unmarked, State.markMet, window]
  | some w =>
    by_cases reader : (s.record n).kind = .reader
    · have same : (s.lane k).unmarked (s.record n).kind = s.lane k := by
        simp [LaneRecord.unmarked, reader]
      rw [same, State.setLane_self]
      simp [State.unmarked, State.markMet, window, reader, UnitKind.keypad]
    · have keypad := (UnitKind.keypad_iff _).mpr reader
      cases mark : w.carryOver with
      | none =>
        rw [LaneRecord.unmarked_of (by simp [window, mark]), State.setLane_self]
        simp [State.unmarked, State.markMet, window, keypad, mark]
      | some seq =>
        simp [State.unmarked, State.markMet, State.dropMark, State.setWindow, LaneRecord.unmarked, window, keypad, mark,
          reader]

theorem State.unmarked_lane (s : State) (k : LaneNo) (n : SlotNo) :
    (s.unmarked k n).lane k = (s.lane k).unmarked (s.record n).kind := by
  rw [State.unmarked_eq, State.lane_setLane_same]

/-- Where the lane's window has no carry-over mark, the lane takes the reply as it stands. -/
theorem State.unmarked_of {s : State} {k : LaneNo} (mark : ∀ w, (s.lane k).window = some w → w.carryOver = none)
    (n : SlotNo) : s.unmarked k n = s ∧ s.markMet k n = none := by
  refine ⟨by rw [State.unmarked_eq, LaneRecord.unmarked_of mark, State.setLane_self], ?_⟩
  cases window : (s.lane k).window with
  | none => simp [State.markMet, window]
  | some w => simp [State.markMet, window, mark w window]

section

variable (s : State) (k : LaneNo) (n : SlotNo) (seq taken busy : Bool) (payload : List Byte)

theorem State.takeData_keys :
    s.takeData k n ⟨.keys, seq, taken, busy, payload⟩ =
      (s.unmarked k n).takeKeys k n (s.markMet k n = some seq) payload := rfl

theorem State.takeData_card :
    s.takeData k n ⟨.card, seq, taken, busy, payload⟩ = (s.unmarked k n).takeCard k n payload := rfl

theorem State.takeData_pinBlock :
    s.takeData k n ⟨.pinBlock, seq, taken, busy, payload⟩ = (s.unmarked k n).takeBlock k n payload := rfl

end

/-! ### Taken whole or not at all (R76, R124, R167) -/

/-- `t` comes of `s` by changes that a reply taken by lane `k` makes beside its record: to that lane but for its alerts, and
to slots. -/
structure State.WithinLane (s t : State) (k : LaneNo) : Prop where
  outbound : t.outbound = s.outbound
  engines : t.engines = s.engines
  tables : t.tables = s.tables
  link : t.link = s.link
  inbound : t.inbound = s.inbound
  lanes : ∀ j, j ≠ k → t.lane j = s.lane j
  alerts : (t.lane k).alerts = (s.lane k).alerts
  phase : (t.lane k).phase = (s.lane k).phase
  bits : ∀ m, (t.unit m).e = (s.unit m).e

/-- Lane `k` takes a reply whole or not at all: held or refused, it leaves the lane and its queue; accepted, it gives at most
one record, which fits. -/
structure State.TakesWhole (s : State) (k : LaneNo) (t : Taking) : Prop where
  outbound : t.after.outbound = s.outbound
  engines : t.after.engines = s.engines
  tables : t.after.tables = s.tables
  link : t.after.link = s.link
  others : ∀ j, j ≠ k → t.after.lane j = s.lane j ∧ t.after.inQueue j = s.inQueue j
  alerts : (t.after.lane k).alerts = (s.lane k).alerts
  phase : (t.after.lane k).phase = (s.lane k).phase
  untaken : t.verdict ≠ .accept → t.after.inQueue k = s.inQueue k ∧ t.after.lane k = s.lane k
  taken : t.verdict = .accept → t.after.inQueue k = s.inQueue k ∨
    ((t.after.inQueue k).dropLast = s.inQueue k ∧ s.inFits k ((t.after.inQueue k).getLastD []).length = true)
  bits : ∀ m, (t.after.unit m).e = (s.unit m).e

/-- An item counted as ignored leaves the sequence bits. -/
theorem State.countIgnored_bits (s : State) (n : SlotNo) (count : Nat) (m : SlotNo) :
    ((s.countIgnored n count).unit m).e = (s.unit m).e := by
  rw [State.countIgnored, State.unit_setUnit]
  split
  · next same => rw [same]
  · rfl

namespace State.WithinLane

variable {s t : State} {k : LaneNo}

theorem refl : s.WithinLane s k := ⟨rfl, rfl, rfl, rfl, rfl, fun _ _ => rfl, rfl, rfl, fun _ => rfl⟩

theorem setLane {r : LaneRecord} (alerts : r.alerts = (s.lane k).alerts) (phase : r.phase = (s.lane k).phase) :
    WithinLane s (s.setLane k r) k :=
  ⟨rfl, rfl, rfl, rfl, rfl, fun _ other => State.lane_setLane_other s r other, by rw [State.lane_setLane_same, alerts],
    by rw [State.lane_setLane_same, phase], fun _ => rfl⟩

theorem counted {r : LaneRecord} {n : SlotNo} {count : Nat} (alerts : r.alerts = (s.lane k).alerts)
    (phase : r.phase = (s.lane k).phase) : WithinLane s ((s.setLane k r).countIgnored n count) k :=
  { setLane alerts phase with bits := (s.setLane k r).countIgnored_bits n count }

theorem accepted (h : WithinLane s t k) : s.TakesWhole k ⟨.accept, t⟩ where
  outbound := h.outbound
  engines := h.engines
  tables := h.tables
  link := h.link
  others j other := ⟨h.lanes j other, by rw [State.inQueue, State.inQueue, h.inbound]⟩
  alerts := h.alerts
  phase := h.phase
  untaken refused := absurd rfl refused
  taken _ := .inl (by rw [State.inQueue, State.inQueue, h.inbound])
  bits := h.bits

end State.WithinLane

namespace State.TakesWhole

variable {s t : State} {k : LaneNo}

/-- Whatever its verdict, a reply that changes nothing, or is only counted as ignored. -/
theorem withheld (s : State) (k : LaneNo) (v : Verdict) : s.TakesWhole k ⟨v, s⟩ :=
  ⟨rfl, rfl, rfl, rfl, fun _ _ => ⟨rfl, rfl⟩, rfl, rfl, fun _ => ⟨rfl, rfl⟩, fun _ => .inl rfl, fun _ => rfl⟩

theorem refused (s : State) (k : LaneNo) (n : SlotNo) (v : Verdict) (count : Nat) :
    s.TakesWhole k ⟨v, s.countIgnored n count⟩ :=
  { withheld s k v with bits := s.countIgnored_bits n count }

/-- A record is stored together with the reply's changes, or neither is made (R124). -/
theorem acceptWith (record : Option (List Byte)) {changed : State → State} (h : s.WithinLane (changed s) k) :
    s.TakesWhole k (s.acceptWith k record changed) := by
  rcases s.acceptWith_cases k record changed with ⟨_, same⟩ | ⟨r, _, fits, same⟩ | ⟨r, _, _, same⟩ <;> rw [same]
  · exact h.accepted
  · have queue : (changed s).inQueue k = s.inQueue k := by rw [State.inQueue, State.inQueue, h.inbound]
    exact
      { h.accepted with
        others := fun j other => ⟨h.lanes j other, by
          rw [State.inQueue_storeIn_other _ _ other, State.inQueue, State.inQueue, h.inbound]⟩
        untaken := fun refused => absurd rfl refused
        taken := fun _ => .inr (by
          rw [State.inQueue_storeIn_same, queue]
          exact ⟨List.dropLast_concat, by simpa using fits⟩) }
  · exact withheld s k .hold

theorem collectKeys (s : State) (k : LaneNo) (n : SlotNo) (w : Window) (keys : List LogicalKey) :
    s.TakesWhole k (s.collectKeys k n w keys) := by
  unfold State.collectKeys
  split
  · exact acceptWith _ (State.WithinLane.counted rfl rfl)
  · exact acceptWith _ (State.WithinLane.counted rfl rfl)

theorem openKeys (s : State) (k : LaneNo) (n : SlotNo) (keys : List LogicalKey) : s.TakesWhole k (s.openKeys k n keys) := by
  unfold State.openKeys
  split
  · exact withheld s k .accept
  · split
    · split
      · exact refused s k n .accept _
      · exact acceptWith _ .refl
    · split
      · exact collectKeys s k n _ _
      all_goals exact refused s k n .accept _

theorem laneCall (s : State) (k : LaneNo) (cause : Byte) : s.TakesWhole k (s.laneCall k cause) := by
  unfold State.laneCall
  split
  · exact withheld s k .accept
  · exact acceptWith _ (State.WithinLane.setLane rfl rfl)

theorem takeKeys (s : State) (k : LaneNo) (n : SlotNo) (marked : Bool) (raws : List Byte) :
    s.TakesWhole k (s.takeKeys k n marked raws) := by
  unfold State.takeKeys
  split
  · exact laneCall s k 1
  · exact refused s k n .accept _
  · split
    · split
      · exact refused s k n .accept _
      · exact openKeys s k n _
    · exact refused s k n .accept _
  · exact withheld s k .accept
  · exact withheld s k .refuse

theorem takeFragment (s : State) (k : LaneNo) (n : SlotNo) (flags : Byte) (chars : List Byte) :
    s.TakesWhole k (s.takeFragment k n flags chars) := by
  unfold State.takeFragment
  split
  · exact refused s k n .accept 1
  · exact State.WithinLane.accepted (.counted rfl rfl)
  · exact acceptWith _ (State.WithinLane.counted rfl rfl)

theorem takeCard (s : State) (k : LaneNo) (n : SlotNo) (payload : List Byte) :
    s.TakesWhole k (s.takeCard k n payload) := by
  unfold State.takeCard
  split
  · exact laneCall s k 2
  · split
    · exact withheld s k .hold
    · exact refused s k n .accept 1
  · split
    · exact withheld s k .hold
    · split
      · exact withheld s k .hold
      · split
        · exact takeFragment s k n _ _
        · exact refused s k n .accept 1
  · exact withheld s k .accept
  · exact withheld s k .refuse

theorem openBlock (s : State) (k : LaneNo) (n : SlotNo) (block : List Byte) : s.TakesWhole k (s.openBlock k n block) := by
  unfold State.openBlock
  split
  · exact refused s k n .refuse 1
  · split
    · split
      · exact acceptWith _ (State.WithinLane.setLane rfl rfl)
      · exact refused s k n .refuse 1
    · exact refused s k n .refuse 1

theorem takeBlock (s : State) (k : LaneNo) (n : SlotNo) (block : List Byte) : s.TakesWhole k (s.takeBlock k n block) := by
  unfold State.takeBlock
  split
  · exact refused s k n .refuse 1
  · exact refused s k n .refuse 1
  · exact openBlock s k n block
  · exact withheld s k .accept
  · exact withheld s k .refuse

/-- The lane takes KEYS, CARD and PINBLOCK whole or not at all, once the carry-over mark is gone. -/
theorem takeData (s : State) (k : LaneNo) (n : SlotNo) {r : Reply} (data : r.kind ≠ .idle) (other : r.kind ≠ .status) :
    (s.unmarked k n).TakesWhole k (s.takeData k n r) := by
  obtain ⟨kind, seq, taken, busy, payload⟩ := r
  cases kind with
  | keys => exact takeKeys _ k n _ payload
  | card => exact takeCard _ k n payload
  | pinBlock => exact takeBlock _ k n payload
  | idle => exact absurd rfl data
  | status => exact absurd rfl other

end State.TakesWhole

/-- A FAULTED lane refuses every data reply, and a CLOSING lane accepts it (R76, R148). -/
theorem State.takeData_verdict {s : State} {k : LaneNo} {n : SlotNo} {r : Reply} (data : r.kind ≠ .idle)
    (other : r.kind ≠ .status) :
    ((s.lane k).phase = .faulted → (s.takeData k n r).verdict = .refuse) ∧
      ((s.lane k).phase = .closing → (s.takeData k n r).verdict = .accept) := by
  obtain ⟨kind, seq, taken, busy, payload⟩ := r
  have phase : ((s.unmarked k n).lane k).phase = (s.lane k).phase := by rw [State.unmarked_lane]; rfl
  cases kind with
  | keys =>
    rw [State.takeData_keys, State.takeKeys, phase]
    exact ⟨fun faulted => by rw [faulted], fun closing => by rw [closing]⟩
  | card =>
    rw [State.takeData_card, State.takeCard, phase]
    exact ⟨fun faulted => by rw [faulted], fun closing => by rw [closing]⟩
  | pinBlock =>
    rw [State.takeData_pinBlock, State.takeBlock, phase]
    exact ⟨fun faulted => by rw [faulted], fun closing => by rw [closing]⟩
  | idle => exact absurd rfl data
  | status => exact absurd rfl other

end Sys2Proof.Machine

namespace Sys2Proof.Proofs

open Sys2Proof.Machine

/-- Settles O60: the lane takes the reply whole or not at all once the carry-over mark is gone. -/
theorem repliesAreTakenWholeOrNotAtAll : Obligations.RepliesAreTakenWholeOrNotAtAll := by
  unfold Obligations.RepliesAreTakenWholeOrNotAtAll
  intro s k n r data other t
  have h := State.TakesWhole.takeData s k n data other
  obtain ⟨faulted, closing⟩ := State.takeData_verdict (s := s) (k := k) (n := n) data other
  rw [State.unmarked_eq] at h
  refine ⟨h.outbound, h.engines, h.tables, h.link, fun j off => ?_, ?_, fun untaken => ?_, h.taken, faulted, closing⟩
  · obtain ⟨lane, queue⟩ := h.others j off
    exact ⟨by rw [lane, State.lane_setLane_other s _ off], queue⟩
  · rw [h.alerts, State.lane_setLane_same]
    rfl
  · obtain ⟨queue, lane⟩ := h.untaken untaken
    exact ⟨queue, by rw [lane, State.lane_setLane_same]; rfl⟩

end Sys2Proof.Proofs
end

section
/-! SUPPORT. A whole reply received without disturbance, and where the engine goes on behind it (R51, R67, R71, R86). -/

namespace Sys2Proof.Machine

/-! ### A reply's characters (R63, R67) -/

theorem DataBits.value_of_lt {d : DataBits} {b : Byte} (small : b.toNat < d.modulus) : d.value b = b := by
  rw [← BitVec.toNat_inj, DataBits.toNat_value]
  exact Nat.mod_eq_of_lt (by cases d <;> exact small)

/-- An undisturbed character that the format can carry is delivered as it was sent. -/
theorem Tune.delivered_undisturbed {t : Tune} {b : Byte} (small : b.toNat < t.data.modulus) :
    t.delivered (t.undisturbed b) = b := by
  rw [Tune.delivered, Tune.undisturbed, DataBits.value_value, DataBits.value_of_lt small]

/-- Every byte of a reply is one that the format can carry where its parts are. -/
theorem telegramBytes_small {d : DataBits} {address control : Byte} {payload : List Byte}
    (addressed : address.toNat < 32) (controls : control.toNat < 64) (short : payload.length ≤ 48)
    (small : ∀ b ∈ payload, b.toNat < d.modulus) :
    ∀ b ∈ telegramBytes d address control payload, b.toNat < d.modulus := by
  obtain ⟨pos, most⟩ := d.modulus_bounds
  have wide : 128 ≤ d.modulus := by cases d <;> decide
  have length : (byteOf payload.length).toNat = payload.length := toNat_byteOf (by omega)
  have check : (checkByte d (address :: control :: byteOf payload.length :: payload)).toNat < d.modulus := by
    have below := Nat.mod_lt (d.modulus -
      ((address :: control :: byteOf payload.length :: payload).map BitVec.toNat).sum % d.modulus) pos
    rw [checkByte, toNat_byteOf (by omega)]
    exact below
  simp only [telegramBytes, List.cons_append, List.mem_cons, List.mem_append, List.not_mem_nil, or_false]
  rintro b (rfl | rfl | rfl | inside | rfl)
  · omega
  · omega
  · omega
  · exact small b inside
  · exact check

/-- Before its last byte a reply is not complete, and its LENGTH is no more than 48. -/
theorem telegramBytes_incomplete {d : DataBits} {address control : Byte} {payload : List Byte} (short : payload.length ≤ 48)
    {i : Nat} (inside : i < 3 + payload.length) {b : Byte}
    (next : (telegramBytes d address control payload)[i]? = some b) :
    ¬(((telegramBytes d address control payload).take i ++ [b]).length = 3 ∧ 48 < b.toNat) ∧
      ¬4 + (((telegramBytes d address control payload).take i ++ [b]).getD 2 0).toNat ≤
        ((telegramBytes d address control payload).take i ++ [b]).length := by
  have length : (byteOf payload.length).toNat = payload.length := toNat_byteOf (by omega)
  have taken : ((telegramBytes d address control payload).take i ++ [b]).length = i + 1 := by
    rw [List.length_append, List.length_take_of_le (by rw [length_telegramBytes]; omega)]
    rfl
  have whole : (telegramBytes d address control payload).take i ++ [b] =
      (telegramBytes d address control payload).take (i + 1) := by
    rw [List.take_add_one, next]
    rfl
  have third : (telegramBytes d address control payload)[2]? = some (byteOf payload.length) := rfl
  rw [taken]
  refine ⟨fun ⟨three, long⟩ => ?_, ?_⟩
  · obtain rfl : i = 2 := by omega
    obtain rfl := Option.some.inj (third.symm.trans next)
    omega
  · rw [whole, List.getD_eq_getElem?_getD, List.getElem?_take]
    split
    · rw [third, Option.getD_some, length]
      omega
    · exact Nat.not_le.mpr (by simp; omega)

/-! ### A reply received (R51, R67) -/

/-- The engine awaits a reply to the exchange, of which nothing has come yet. -/
structure Engine.Awaits (e : Engine) (x : Exchange) : Prop where
  exchange : e.exchange = some x
  awaits : e.xstate = .await
  rest : e.rx = .atRest
  low : e.driver = false
  empty : e.received = []
  tuned : e.tuned = x.tune

/-- The engine once some bytes of a reply are received: the line is settled but for chatter (R54, R56). -/
def Engine.heard (e : Engine) (bytes : List Byte) : Engine :=
  { e with received := bytes, xstate := .receiving, watchdog := if e.chatter then e.watchdog else 0 }

theorem Engine.heard_heard (e : Engine) (first second : List Byte) : (e.heard first).heard second = e.heard second := by
  cases chatter : e.chatter <;> simp [Engine.heard, chatter]

/-- An engine that takes a reply's next character: none has come yet, or some have. -/
structure Engine.Hears (e : Engine) (x : Exchange) : Prop where
  exchange : e.exchange = some x
  period : e.xstate.replyPeriod = true
  rest : e.rx = .atRest
  low : e.driver = false
  tuned : e.tuned = x.tune

theorem Engine.Awaits.hears {e : Engine} {x : Exchange} (h : e.Awaits x) : e.Hears x :=
  ⟨h.exchange, by rw [h.awaits]; rfl, h.rest, h.low, h.tuned⟩

theorem Engine.Awaits.hears_heard {e : Engine} {x : Exchange} (h : e.Awaits x) (bytes : List Byte) :
    (e.heard bytes).Hears x := ⟨h.exchange, rfl, h.rest, h.low, h.tuned⟩

theorem Engine.Hears.destination {e : Engine} {x : Exchange} (h : e.Hears x) : e.destination = .exchange x :=
  Engine.ReplyNext.destination_exchange (.inr ⟨h.rest, h.low, h.period⟩) h.period h.exchange

theorem Engine.unsettled_atRest {e : Engine} (rest : e.rx = .atRest) : e.unsettled = e.chatter := by
  simp [Engine.unsettled, rest]

section

variable {s : State} {l : Line} {x : Exchange}

/-- An undisturbed character is taken into the reply as it was sent, and nothing else follows from its delivery. -/
theorem State.deliver_undisturbed (hears : (s.engine l).Hears x) {b : Byte} (small : b.toNat < x.tune.data.modulus) :
    s.deliver l (x.tune.undisturbed b) = s.replyChar l x .none b := by
  have error : (s.engine l).tuned.error (x.tune.undisturbed b) = .none := by
    rw [hears.tuned]
    exact x.tune.error_undisturbed b
  have value : (s.engine l).tuned.data.value (x.tune.undisturbed b).data = b := by
    rw [hears.tuned]
    exact Tune.delivered_undisturbed small
  have taken : s.takeChar l .none true = s := by
    have same : { s.engine l with rx := .atRest } = s.engine l := by rw [← hears.rest]
    show s.setEngine l { s.engine l with rx := .atRest } = s
    rw [same, State.setEngine_self]
  simp only [State.deliver, hears.destination, error, value, taken]

/-- A character that does not complete the reply is stored. -/
theorem State.deliver_stored (hears : (s.engine l).Hears x) {b : Byte} (small : b.toNat < x.tune.data.modulus)
    (short : ¬(((s.engine l).received ++ [b]).length = 3 ∧ 48 < b.toNat))
    (incomplete : ¬4 + (((s.engine l).received ++ [b]).getD 2 0).toNat ≤ ((s.engine l).received ++ [b]).length) :
    (s.deliver l (x.tune.undisturbed b)).refresh l = s.setEngine l ((s.engine l).heard ((s.engine l).received ++ [b])) := by
  rw [State.deliver_undisturbed hears small, State.replyChar_stored x short incomplete, State.refresh_eq,
    State.engine_setEngine_same, State.setEngine_setEngine]
  have wanted : (s.setEngine l { s.engine l with received := (s.engine l).received ++ [b], xstate := .receiving }).wantedTune
      l = (s.engine l).tuned := by
    simp [State.wantedTune, hears.exchange, hears.tuned, XState.active]
  simp only [wanted, ite_self, Engine.unsettled_atRest (e := { s.engine l with
    received := (s.engine l).received ++ [b], xstate := .receiving }) hears.rest, Engine.heard]

theorem State.deliverRun_append (s : State) (l : Line) (first second : List Sampled) :
    s.deliverRun l (first ++ second) = (s.deliverRun l first).deliverRun l second := List.foldl_append

/-- All of a reply but its last byte is stored. -/
theorem State.deliverRun_stored (awaits : (s.engine l).Awaits x) {address control : Byte} {payload : List Byte}
    (short : payload.length ≤ 48)
    (small : ∀ b ∈ telegramBytes x.tune.data address control payload, b.toNat < x.tune.data.modulus)
    {i : Nat} (inside : i < 3 + payload.length) :
    s.deliverRun l (((telegramBytes x.tune.data address control payload).take (i + 1)).map x.tune.undisturbed) =
      s.setEngine l ((s.engine l).heard ((telegramBytes x.tune.data address control payload).take (i + 1))) := by
  obtain ⟨b, next⟩ : ∃ b, (telegramBytes x.tune.data address control payload)[i]? = some b :=
    ⟨_, List.getElem?_eq_getElem (by rw [length_telegramBytes]; omega)⟩
  have whole : (telegramBytes x.tune.data address control payload).take (i + 1) =
      (telegramBytes x.tune.data address control payload).take i ++ [b] := by
    rw [List.take_add_one, next]
    rfl
  have sent := small b (List.mem_of_getElem? next)
  obtain ⟨long, incomplete⟩ := telegramBytes_incomplete short inside next
  rw [whole, List.map_append, State.deliverRun_append]
  cases i with
  | zero =>
    simp only [List.take_zero, List.nil_append] at long incomplete
    have stored := State.deliver_stored awaits.hears sent (by rw [awaits.empty]; exact long)
      (by rw [awaits.empty]; exact incomplete)
    rw [awaits.empty] at stored
    exact stored
  | succ j =>
    rw [State.deliverRun_stored awaits short small (i := j) (by omega)]
    have engine := s.engine_setEngine_same l
      ((s.engine l).heard ((telegramBytes x.tune.data address control payload).take (j + 1)))
    have stored := State.deliver_stored (by rw [engine]; exact awaits.hears_heard _) sent (by rw [engine]; exact long)
      (by rw [engine]; exact incomplete)
    rw [engine, State.setEngine_setEngine, Engine.heard_heard] at stored
    exact stored

/-- The last byte of a reply completes it, and the exchange ends as the reply is judged (R67, R69). -/
theorem State.deliver_complete {address control : Byte} {payload : List Byte} (short : payload.length ≤ 48) {b : Byte}
    (whole : (s.engine l).received ++ [b] = telegramBytes x.tune.data address control payload)
    (hears : (s.engine l).Hears x) (small : b.toNat < x.tune.data.modulus) :
    s.deliver l (x.tune.undisturbed b) =
      s.endExchange l x
        (judgeReply x.tune.data (x.bytes.headD 0) (telegramBytes x.tune.data address control payload)) .guarding := by
  have length : (byteOf payload.length).toNat = payload.length := toNat_byteOf (by omega)
  have third : (telegramBytes x.tune.data address control payload).getD 2 0 = byteOf payload.length := rfl
  rw [State.deliver_undisturbed hears small, State.replyChar, whole]
  dsimp only
  rw [if_neg (by simp), if_neg (by rw [length_telegramBytes]; omega),
    if_pos (by rw [third, length, length_telegramBytes])]

/-! ### The engine behind an exchange (R65, R86) -/

/-- The engine with the watchdog counter that a receiver at rest leaves it (R54, R56). -/
def Engine.calmed (e : Engine) : Engine := { e with watchdog := if e.chatter then e.watchdog else 0 }

theorem State.refresh_calmed (s : State) (l : Line) {e : Engine} (rest : e.rx = .atRest) :
    (s.setEngine l e.calmed).refresh l = (s.setEngine l e).refresh l := by
  have calm : e.calmed.unsettled = e.chatter := Engine.unsettled_atRest rest
  have wanted : (s.setEngine l e.calmed).wantedTune l = (s.setEngine l e).wantedTune l := by
    simp only [State.wantedTune, State.engine_setEngine_same, Engine.calmed]
    rfl
  simp only [State.refresh_eq, State.engine_setEngine_same, State.setEngine_setEngine, wanted, calm,
    Engine.unsettled_atRest rest]
  cases chatter : e.chatter <;> simp [Engine.calmed, chatter]

/-- The engine in the guard behind a whole reply, before its run and its pointer are settled. -/
def Engine.answered (e : Engine) : Engine := { e.freed .guarding with rx := .atRest }

/-- The engine in the guard behind a whole reply, which is past the entry it served (R86), or at the end of a new ring
(R90). -/
def Engine.passed (e : Engine) (ringLength : Nat) : Engine :=
  { e with
    exchange := none, received := [], conflicts := 0, xstate := .guarding, rx := .atRest
    ringPtr := if e.stage = .ring then (if e.cut then ringLength else e.ringPtr + 1) else e.ringPtr }

/-- REPLY with the characters of a whole reply: the exchange ends as the reply is judged, and its run is settled. -/
theorem exec_reply_whole (awaits : (s.engine l).Awaits x) {address control : Byte} {payload : List Byte}
    (short : payload.length ≤ 48)
    (small : ∀ b ∈ telegramBytes x.tune.data address control payload, b.toNat < x.tune.data.modulus) {o : ExchangeOutcome}
    (judged : judgeReply x.tune.data (x.bytes.headD 0) (telegramBytes x.tune.data address control payload) = o) :
    exec (.reply l ((telegramBytes x.tune.data address control payload).map x.tune.undisturbed)) s =
      .next (State.selectNew (State.refresh
        (((s.setEngine l (s.engine l).answered.calmed).giveOutcome x o).settleRun l x.slot
          ((s.unit x.slot).superseded || !o.isValid)) l)) := by
  obtain ⟨b, last⟩ : ∃ b, (telegramBytes x.tune.data address control payload)[3 + payload.length]? = some b :=
    ⟨_, List.getElem?_eq_getElem (by rw [length_telegramBytes]; omega)⟩
  have split : telegramBytes x.tune.data address control payload =
      (telegramBytes x.tune.data address control payload).take (3 + payload.length) ++ [b] := by
    have all := List.take_add_one (l := telegramBytes x.tune.data address control payload) (i := 3 + payload.length)
    rw [last, List.take_of_length_le (by rw [length_telegramBytes]; omega)] at all
    exact all
  have stored := State.deliverRun_stored awaits short small (i := 2 + payload.length) (by omega)
  rw [show 2 + payload.length + 1 = 3 + payload.length by omega] at stored
  have engine := s.engine_setEngine_same l
    ((s.engine l).heard ((telegramBytes x.tune.data address control payload).take (3 + payload.length)))
  have run : s.deliverRun l ((telegramBytes x.tune.data address control payload).map x.tune.undisturbed) =
      (State.endExchange (s.setEngine l ((s.engine l).heard
        ((telegramBytes x.tune.data address control payload).take (3 + payload.length)))) l x o .guarding).refresh l := by
    rw [split, List.map_append, State.deliverRun_append, ← split, stored, ← judged]
    refine congrArg (State.refresh · l) (State.deliver_complete short ?_ ?_ (small b (List.mem_of_getElem? last)))
    · rw [engine]
      exact split.symm
    · rw [engine]
      exact awaits.hears_heard _
  show (if (s.engine l).destination.isExchange then finish (s.deliverRun l _) else finish s) = _
  rw [awaits.hears.destination, if_pos (by rfl), run, State.endExchange]
  dsimp only
  rw [engine, State.setEngine_setEngine]
  have answered : ((s.engine l).heard
      ((telegramBytes x.tune.data address control payload).take (3 + payload.length))).freed .guarding =
        (s.engine l).answered.calmed := by
    rw [Engine.answered, ← awaits.rest]
    rfl
  rw [← answered]
  rfl

/-! ### The run and the pointer (R86, R96) -/

theorem State.Acts.rings {rc : Reach} {s t : State} (closed : ¬rc.port) (h : s.Acts rc t) :
    t.tables.rings = s.tables.rings := by
  induction h with
  | refl => rfl
  | @close t _ k hk r _ ih =>
    obtain ⟨units, same, _⟩ := (t.setLane k r).applyAllStaged_eq
    rw [same]
    exact ih
  | setPort _ hp => exact absurd hp closed
  | @select t _ _ src ih =>
    rw [(t.select_frame src).1]
    exact ih
  | setLane | setUnits | setEngine | setLine | setNotices | storeIn | storeOut | emptyIn | dropOut | clearPenalty | choose =>
    assumption

theorem State.giveOutcome_ring (s : State) (x : Exchange) (o : ExchangeOutcome) (l : Line) :
    (s.giveOutcome x o).ring l = s.ring l := by
  have acts : s.Acts .offLines (s.giveOutcome x o) := State.Acts.refl.giveOutcome Reach.offLines_wide x o
  rw [State.ring, State.ring, acts.rings id]

/-- REPLY with a VALID reply that is handled: the run and the pointer follow the slot's presence (R86, R96). -/
theorem exec_reply_valid (awaits : (s.engine l).Awaits x) {address control : Byte} {payload : List Byte}
    (short : payload.length ≤ 48)
    (small : ∀ b ∈ telegramBytes x.tune.data address control payload, b.toNat < x.tune.data.modulus) {r : Reply}
    (judged : judgeReply x.tune.data (x.bytes.headD 0) (telegramBytes x.tune.data address control payload) = .valid r)
    (new : (s.unit x.slot).superseded = false) {t : State}
    (handled : (s.setEngine l (s.engine l).answered.calmed).handleOutcome x (.valid r) = t) :
    t.engine l = (s.engine l).answered.calmed ∧ t.ring l = s.ring l ∧
      exec (.reply l ((telegramBytes x.tune.data address control payload).map x.tune.undisturbed)) s =
        .next (State.selectNew (State.refresh (t.settleRun l x.slot false) l)) := by
  have given : (s.setEngine l (s.engine l).answered.calmed).giveOutcome x (.valid r) = t := by
    rw [State.giveOutcome, if_neg (by simp [new]), handled]
  refine ⟨?_, ?_, ?_⟩
  · rw [← given, State.giveOutcome_engine, State.engine_setEngine_same]
  · rw [← given, State.giveOutcome_ring]
    rfl
  · rw [exec_reply_whole awaits short small judged, given, new]
    rfl

theorem State.settleRun_alone (run : (s.engine l).run = none) (n : SlotNo) (failed : Bool) :
    s.settleRun l n failed = if (s.engine l).stage = .ring then s.passEntry l else s := by
  simp only [State.settleRun, run]

/-- Without a run, the pointer of an engine in the ring moves past its entry (R86). -/
theorem State.passEntry_passed {t : State} (engine : t.engine l = (s.engine l).answered.calmed)
    (ring : t.ring l = s.ring l) :
    (if (t.engine l).stage = .ring then t.passEntry l else t) =
      t.setEngine l ((s.engine l).passed (s.ring l).length).calmed := by
  rw [State.passEntry, engine, ring]
  by_cases stage : (s.engine l).stage = .ring
  · have inRing : (s.engine l).answered.calmed.stage = .ring := stage
    rw [if_pos inRing, Engine.passed, if_pos stage]
    rfl
  · have elsewhere : ¬(s.engine l).answered.calmed.stage = .ring := stage
    rw [if_neg elsewhere, Engine.passed, if_neg stage]
    conv_lhs => rw [← t.setEngine_self l, engine]
    rfl

/-- Without a run, the pointer moves past the ring's entry (R86). -/
theorem exec_reply_alone (awaits : (s.engine l).Awaits x) {address control : Byte} {payload : List Byte}
    (short : payload.length ≤ 48)
    (small : ∀ b ∈ telegramBytes x.tune.data address control payload, b.toNat < x.tune.data.modulus) {r : Reply}
    (judged : judgeReply x.tune.data (x.bytes.headD 0) (telegramBytes x.tune.data address control payload) = .valid r)
    (new : (s.unit x.slot).superseded = false) (run : (s.engine l).run = none) {t : State}
    (handled : (s.setEngine l (s.engine l).answered.calmed).handleOutcome x (.valid r) = t) :
    exec (.reply l ((telegramBytes x.tune.data address control payload).map x.tune.undisturbed)) s =
      .next (State.selectNew (State.refresh (t.setEngine l ((s.engine l).passed (s.ring l).length)) l)) := by
  obtain ⟨engine, ring, ends⟩ := exec_reply_valid awaits short small judged new handled
  have settles : t.settleRun l x.slot false = t.setEngine l ((s.engine l).passed (s.ring l).length).calmed := by
    rw [State.settleRun_alone (by rw [engine]; exact run)]
    exact State.passEntry_passed engine ring
  rw [ends, settles, State.refresh_calmed _ _ rfl]

end

end Sys2Proof.Machine
end

section
/-! SUPPORT. The three steps of a VALID outcome at a trusted slot, and what is selected between them (R13, R71, R74, R77). -/

namespace Sys2Proof.Machine

/-! ### Selections and what they have nothing to do with (R13) -/

/-- A lane record changed. -/
def State.mapLane (s : State) (k : LaneNo) (f : LaneRecord → LaneRecord) : State := s.setLane k (f (s.lane k))

@[simp] theorem State.lane_mapLane (s : State) (k : LaneNo) (f : LaneRecord → LaneRecord) :
    (s.mapLane k f).lane k = f (s.lane k) := s.lane_setLane_same k _

theorem State.mapLane_mapLane (s : State) (k : LaneNo) (f g : LaneRecord → LaneRecord) :
    (s.mapLane k f).mapLane k g = s.mapLane k fun r => g (f r) := by
  rw [State.mapLane, State.lane_mapLane, State.mapLane, State.setLane_setLane]
  rfl

/-- A change of a lane record that neither reads nor writes its alert set. -/
def SparesAlerts (f : LaneRecord → LaneRecord) : Prop :=
  ∀ (r : LaneRecord) (alerts : AlertSet), f { r with alerts := alerts } = { f r with alerts := alerts }

theorem SparesAlerts.alerts {f : LaneRecord → LaneRecord} (spares : SparesAlerts f) (r : LaneRecord) :
    (f r).alerts = r.alerts := by
  have same := spares r r.alerts
  rw [same]

section

variable (s : State) (k : LaneNo) {f : LaneRecord → LaneRecord}

theorem State.candidates_mapLane (spares : SparesAlerts f) : (s.mapLane k f).candidates = s.candidates := by
  have alerts (j : LaneNo) : ((s.mapLane k f).lane j).alerts = (s.lane j).alerts := by
    rw [State.mapLane, State.lane_setLane]
    split
    · next same => rw [spares.alerts, same]
    · rfl
  have same : (s.mapLane k f).isCandidate = s.isCandidate := by
    funext src
    cases src with
    | alerts j => rw [State.isCandidate, alerts]; rfl
    | reply | notices | events => rfl
  rw [State.candidates, same]
  rfl

theorem State.select_mapLane (spares : SparesAlerts f) (src : Source) :
    (s.mapLane k f).select src = (s.select src).mapLane k f := by
  cases src with
  | reply | notices | events => rfl
  | alerts j =>
    by_cases same : j = k
    · subst same
      have lane : (s.mapLane j f).lane j = f (s.lane j) := State.lane_setLane_same s j _
      have emptied : (s.select (.alerts j)).lane j = { s.lane j with alerts := noAlerts } := State.lane_setLane_same s j _
      have given : (s.mapLane j f).giveUpItem (.alerts j) =
          (s.giveUpItem (.alerts j)).setLane j { f (s.lane j) with alerts := noAlerts } := by
        rw [State.giveUpItem, State.giveUpItem, lane, State.mapLane, State.setLane_setLane, State.setLane_setLane]
      have moved : (s.select (.alerts j)).mapLane j f =
          (s.select (.alerts j)).setLane j { f (s.lane j) with alerts := noAlerts } := by
        rw [State.mapLane, emptied, spares]
      rw [moved, State.select, given]
      simp only [State.select, State.frameFrom, lane, spares.alerts]
      rfl
    · have lane : (s.mapLane k f).lane j = s.lane j := State.lane_setLane_other s _ same
      have other : (s.select (.alerts j)).lane k = s.lane k := State.lane_setLane_other s _ (Ne.symm same)
      have given : (s.mapLane k f).giveUpItem (.alerts j) =
          (s.giveUpItem (.alerts j)).setLane k (f (s.lane k)) := by
        rw [State.giveUpItem, State.giveUpItem, lane, State.mapLane]
        simp only [State.setLane, Vector.set_comm _ _ (Fin.val_ne_of_ne same)]
      have moved : (s.select (.alerts j)).mapLane k f = (s.select (.alerts j)).setLane k (f (s.lane k)) := by
        rw [State.mapLane, other]
      rw [moved, State.select, given]
      simp only [State.select, State.frameFrom, lane]
      rfl

/-- What is selected has nothing to do with what is in a lane record but for its alert set. -/
theorem State.selectNew_mapLane (spares : SparesAlerts f) :
    (s.mapLane k f).selectNew = s.selectNew.mapLane k f := by
  have select := s.select_mapLane k spares
  have tx : (s.mapLane k f).link.tx = s.link.tx := rfl
  have anyOf (cs : List Source) : (s.mapLane k f).anyOf cs = s.anyOf cs := rfl
  unfold State.selectNew
  rw [tx, s.candidates_mapLane k spares]
  split
  · rfl
  · rfl
  · rfl
  · exact select _
  · simp only [anyOf, select]
    rfl

theorem State.atOnce_mapLane (before : State) (spares : SparesAlerts f) :
    before.atOnce (s.mapLane k f) = (before.atOnce s).mapLane k f := by
  unfold State.atOnce
  rw [s.selectNew_mapLane k spares]
  split <;> rfl

end

/-- Whether something is selected at once depends on what were candidates before, and on nothing else. -/
theorem State.atOnce_before {before other : State} (same : before.candidates = other.candidates) (s : State) :
    before.atOnce s = other.atOnce s := by
  rw [State.atOnce, State.atOnce, same]

/-- A selection leaves a lane record as it is, but for its alert set. -/
theorem State.atOnce_lane (before s : State) (k : LaneNo) :
    ∃ alerts, (before.atOnce s).lane k = { s.lane k with alerts := alerts } := by
  have select (src : Source) : ∃ alerts, (s.select src).lane k = { s.lane k with alerts := alerts } := by
    cases src with
    | alerts j =>
      by_cases same : k = j
      · subst same
        exact ⟨_, State.lane_setLane_same s k _⟩
      · exact ⟨_, State.lane_setLane_other s _ same⟩
    | reply | notices | events => exact ⟨_, rfl⟩
  unfold State.atOnce
  split
  · rcases s.selectNew_cases with ⟨_, same⟩ | ⟨_, src, _, same⟩ | ⟨_, _, same⟩ <;> rw [same]
    · exact ⟨_, rfl⟩
    · exact select src
    · exact select _
  · exact ⟨_, rfl⟩

@[simp] theorem State.atOnce_self (s : State) : s.atOnce s = s := State.atOnce_same rfl

theorem State.atOnce_unit (before s : State) (n : SlotNo) : (before.atOnce s).unit n = s.unit n := by
  rw [State.unit, (before.atOnce_frame s).2.1]
  rfl

theorem State.setUnit_atOnce (before s : State) (n : SlotNo) (u : UnitRun) :
    (before.atOnce s).setUnit n u = before.atOnce (s.setUnit n u) := by
  obtain ⟨_, units, engines, _⟩ := before.atOnce_frame s
  have ran := before.atOnce_running s before.units (s.units.set n u) before.engines s.engines
  calc (before.atOnce s).setUnit n u
      = (before.atOnce s).running (s.units.set n u) s.engines := by
        rw [← units, ← engines]
        rfl
    _ = before.atOnce (s.setUnit n u) := ran.symm

/-- What is selected at once, before a slot's runtime record and an engine are replaced at the end of a command, is selected
all the same after it. -/
theorem State.selectNew_over (before s : State) (n : SlotNo) (u : UnitRun) (l : Line) (e : Engine) :
    ((((before.atOnce s).setUnit n u).setEngine l e).refresh l).selectNew =
      (((s.setUnit n u).setEngine l e).refresh l).selectNew := by
  rw [State.setUnit_atOnce, State.selectNew_atOnce]

theorem State.record_of {s t : State} (tables : t.tables = s.tables) (n : SlotNo) : t.record n = s.record n := by
  rw [State.record, tables]
  rfl

/-! ### Step 1 (R71, R107) -/

/-- The runtime record of a trusted slot after a VALID reply, before the reply is handled (R107, R118). -/
def UnitRun.validated (u : UnitRun) : UnitRun :=
  { u with presence := .locked, fail := 0, counters := { u.counters with valid := bump u.counters.valid } }

section

variable {s : State} {x : Exchange} {r : Reply}

theorem State.outcomePresence_validated {n : SlotNo} {kind : TelegramKind} (trusted : s.trusted n = true)
    (asks : kind ≠ .sync) : s.outcomePresence n kind (.valid r) = s.setUnit n (s.unit n).validated := by
  have valid : (ExchangeOutcome.valid r).isValid = true := rfl
  simp only [State.outcomePresence, valid, if_true, State.presenceValid, State.countOutcome, State.unit_setUnit_same,
    UnitRun.afterValid, if_neg asks, State.setUnit_setUnit]
  rcases State.trusted_iff.mp trusted with presence | presence
  · rw [presence]
    simp [UnitRun.validated, SlotCounters.count, ← presence]
  · rw [presence]
    rfl

/-! ### Steps 2 and 3 (R71, R74) -/

/-- A VALID reply of a trusted slot: what it carries is settled, then the reply is handled. -/
theorem State.handleOutcome_valid (trusted : s.trusted x.slot = true) (asks : x.kind ≠ .sync) :
    s.handleOutcome x (.valid r) =
      (s.atOnce ((s.setUnit x.slot (s.unit x.slot).validated).settleItems x (.valid r) true)).handleReply x.slot x.kind
        r := by
  rw [State.handleOutcome, State.outcomeSettled, State.outcomePresence_validated trusted asks, State.atOnce_setUnit, trusted]
  exact if_pos ⟨rfl, asks⟩

theorem State.handleReply_unshut {n : SlotNo} {kind : TelegramKind} (enabled : (s.record n).enabled = true)
    (other : kind ≠ .shut) : s.handleReply n kind r = s.handleKind (s.record n).lane n r := by
  rw [State.handleReply, State.currentLane_enabled enabled]
  dsimp only
  rw [if_neg other]

/-! ### IDLE replies (R74, R143) -/

/-- An IDLE reply counted by the close confirmation of a slot whose lane is CLOSING (R143). -/
def State.idled (s : State) (k : LaneNo) (n : SlotNo) : State :=
  s.mapLane k fun r =>
    if r.phase = .closing then { r with confirms := moveConfirm n .idle r.confirms } else r

theorem sparesAlerts_idled (n : SlotNo) :
    SparesAlerts fun r => if r.phase = .closing then { r with confirms := moveConfirm n .idle r.confirms } else r := by
  intro r alerts
  by_cases closing : r.phase = .closing <;> simp [closing]

theorem State.atOnce_idled (before s : State) (k : LaneNo) (n : SlotNo) :
    before.atOnce (s.idled k n) = (before.atOnce s).idled k n := s.atOnce_mapLane k before (sparesAlerts_idled n)

theorem State.idled_of_open {k : LaneNo} (stays : (s.lane k).phase ≠ .closing) (n : SlotNo) : s.idled k n = s := by
  rw [State.idled, State.mapLane, if_neg stays, State.setLane_self]

/-- An IDLE reply that moves no confirmation leaves the lane as it is. -/
theorem State.idled_confirmed {k : LaneNo} {n : SlotNo}
    (still : moveConfirm n .idle (s.lane k).confirms = (s.lane k).confirms) : s.idled k n = s := by
  by_cases closing : (s.lane k).phase = .closing
  · rw [State.idled, State.mapLane, if_pos closing, still, State.setLane_self]
  · exact State.idled_of_open closing n

/-- The closing goes on behind an IDLE reply: a confirmation still waits. -/
def LaneRecord.ClosingGoesOn (r : LaneRecord) (n : SlotNo) : Prop :=
  r.phase = .closing → ((moveConfirm n .idle r.confirms).any fun c => c.2.waits) = true

theorem State.confirmMove_idle {k : LaneNo} {n : SlotNo} (goesOn : (s.lane k).ClosingGoesOn n) :
    s.confirmMove k n .idle = s.idled k n := by
  by_cases closing : (s.lane k).phase = .closing
  · rw [State.confirmMove, if_pos closing, State.checkClosing, State.lane_setLane_same,
      if_neg (by simp only [goesOn closing]; simp), State.idled, State.mapLane, if_pos closing]
  · rw [State.confirmMove, if_neg closing, State.idled_of_open closing]

/-- An IDLE reply of a trusted slot: once its item is settled, no acknowledgement is pending, and a CLOSING lane counts it. -/
theorem State.handleOutcome_idle {q : State} (trusted : s.trusted x.slot = true) (asks : x.kind = .poll ∨ x.kind = .command)
    (enabled : (s.record x.slot).enabled = true) (idle : r.kind = .idle)
    (settled : (s.setUnit x.slot (s.unit x.slot).validated).settleItems x (.valid r) true = q) (tables : q.tables = s.tables)
    (goesOn : (q.lane (s.record x.slot).lane).ClosingGoesOn x.slot) :
    s.handleOutcome x (.valid r) =
      State.setUnit (s.atOnce (q.idled (s.record x.slot).lane x.slot)) x.slot { q.unit x.slot with pendingAck := .none } := by
  have frame := (s.atOnce_frame q).1
  have record : (s.atOnce q).record x.slot = s.record x.slot := State.record_of (frame.trans tables) x.slot
  have unit := s.atOnce_unit q x.slot
  have unsync : x.kind ≠ .sync := by rcases asks with kind | kind <;> rw [kind] <;> nofun
  have unshut : x.kind ≠ .shut := by rcases asks with kind | kind <;> rw [kind] <;> nofun
  rw [State.handleOutcome_valid trusted unsync, settled,
    State.handleReply_unshut (by rw [record]; exact enabled) unshut, record, State.handleKind, if_pos idle, unit]
  obtain ⟨alerts, lane⟩ := s.atOnce_lane q (s.record x.slot).lane
  rw [State.confirmMove_idle (by rw [State.lane_setUnit, lane]; exact goesOn), State.atOnce_idled]
  rfl

end

/-! ### The commands (R67, R71) -/

/-- Of a slot's runtime record and an engine, what they were before they are replaced again is gone. -/
theorem State.settled_again (s : State) (n : SlotNo) (l : Line) (u v : UnitRun) (d e : Engine) :
    (State.setUnit ((s.setUnit n u).setEngine l d) n v).setEngine l e = (s.setUnit n v).setEngine l e := by
  simp [State.setUnit, State.setEngine]

theorem ReplyKind.length_of_admits {kind : ReplyKind} {n : Nat} (fits : kind.admits n = true) : n ≤ 48 := by
  cases kind <;> simp [ReplyKind.admits] at fits <;> omega

/-- A reply whose CONTROL and LENGTH its kind admits is VALID (R62, R69). -/
theorem judgeReply_replyControl (d : DataBits) (address : Byte) {kind : ReplyKind} (seq : Bool) {taken busy : Bool}
    {payload : List Byte} (free : taken = false ∨ busy = false) (fits : kind.admits payload.length = true) :
    judgeReply d address (telegramBytes d address (replyControl kind seq taken busy) payload) =
      .valid ⟨kind, seq, taken, busy, payload⟩ := by
  have short : payload.length < 256 := by
    have := ReplyKind.length_of_admits fits
    omega
  obtain ⟨_, _, seqBit, tookBit, busyBit⟩ := replyControl_reads kind seq taken busy
  rw [judgeReply_telegramBytes d address address _ short, if_neg (by simp), replyFormat_replyControl, if_pos ⟨free, fits⟩]
  simp only [seqBit, tookBit, busyBit]

theorem replyControl_small (kind : ReplyKind) (seq taken busy : Bool) : (replyControl kind seq taken busy).toNat < 64 := by
  cases kind <;> revert seq taken busy <;> decide

/-- Line `l` awaits the reply to an exchange with a trusted slot, outside any run. -/
structure State.AwaitsTrusted (s : State) (l : Line) (x : Exchange) : Prop where
  awaits : (s.engine l).Awaits x
  alone : (s.engine l).run = none
  new : (s.unit x.slot).superseded = false
  trusted : s.trusted x.slot = true
  enabled : (s.record x.slot).enabled = true
  addressed : (x.bytes.headD 0).toNat < 32

/-- The reply to an exchange of a kind, with its flags and PAYLOAD, as it arrives undisturbed (R61 to R63, R67). -/
abbrev Exchange.answer (x : Exchange) (kind : ReplyKind) (seq taken busy : Bool) (payload : List Byte) : List Sampled :=
  (telegramBytes x.tune.data (x.bytes.headD 0) (replyControl kind seq taken busy) payload).map x.tune.undisturbed

/-- A part in which line `l` is in the guard and the slot of the exchange has a runtime record (R70). -/
def State.guardedAs (s : State) (l : Line) (x : Exchange) (t : State) (u : UnitRun) : State :=
  (t.setUnit x.slot u).setEngine l (s.engine l).answered.calmed

/-- The part in the guard, the slot's VALID reply counted (R70, R71 step 1). -/
def State.counted (s : State) (l : Line) (x : Exchange) : State := s.guardedAs l x s (s.unit x.slot).validated

@[simp] theorem State.guardedAs_unit (s : State) (l : Line) (x : Exchange) (t : State) (u : UnitRun) :
    (s.guardedAs l x t u).unit x.slot = u := t.unit_setUnit_same _ _

@[simp] theorem State.guardedAs_setUnit (s : State) (l : Line) (x : Exchange) (t : State) (u v : UnitRun) :
    (s.guardedAs l x t u).setUnit x.slot v = s.guardedAs l x t v := by
  simp [State.guardedAs, State.setUnit, State.setEngine]

@[simp] theorem State.counted_unit (s : State) (l : Line) (x : Exchange) :
    (s.counted l x).unit x.slot = (s.unit x.slot).validated := s.guardedAs_unit l x s _

@[simp] theorem State.counted_setUnit (s : State) (l : Line) (x : Exchange) (u : UnitRun) :
    (s.counted l x).setUnit x.slot u = s.guardedAs l x s u := s.guardedAs_setUnit l x s _ u

/-- What is selected at once has nothing to do with the slot's runtime record and the engine. -/
theorem State.atOnce_guardedAs (s : State) (l : Line) (x : Exchange) (before t : State) (u : UnitRun) :
    before.atOnce (s.guardedAs l x t u) = s.guardedAs l x (before.atOnce t) u := by
  obtain ⟨_, units, engines, _⟩ := before.atOnce_frame t
  have right : s.guardedAs l x (before.atOnce t) u =
      (before.atOnce t).running (t.units.set x.slot u) (t.engines.set l (s.engine l).answered.calmed) := by
    rw [← units, ← engines]
    rfl
  rw [right]
  exact before.atOnce_running t before.units (t.units.set x.slot u) before.engines
    (t.engines.set l (s.engine l).answered.calmed)

@[simp] theorem State.candidates_guardedAs (s : State) (l : Line) (x : Exchange) (t : State) (u : UnitRun) :
    (s.guardedAs l x t u).candidates = t.candidates := State.candidates_congr rfl rfl rfl rfl rfl

theorem State.atOnce_counted (s t : State) (l : Line) (x : Exchange) (u : UnitRun) :
    (s.counted l x).atOnce (s.guardedAs l x t u) = s.guardedAs l x (s.atOnce t) u := by
  rw [State.counted, State.atOnce_before (s.candidates_guardedAs l x s _), State.atOnce_guardedAs]

/-- The end of the command with which a reply is complete: slot and engine as they go on, in the part as it is then. -/
def State.repliedAs (s : State) (l : Line) (x : Exchange) (t : State) (u : UnitRun) : Host.Outcome State Fault Refusal :=
  .next (State.selectNew (State.refresh
    ((t.setUnit x.slot u).setEngine l ((s.engine l).passed (s.ring l).length)) l))

theorem State.repliedAs_setUnit (s t : State) (l : Line) (x : Exchange) (v u : UnitRun) :
    s.repliedAs l x (t.setUnit x.slot v) u = s.repliedAs l x t u := by
  rw [State.repliedAs, State.setUnit_setUnit]
  rfl

theorem State.repliedAs_of {s t : State} {l : Line} {x : Exchange} (units : t.units = s.units)
    (engines : t.engines = s.engines) (u : UnitRun) :
    s.repliedAs l x t u = .next (State.selectNew (State.refresh
      { t with
        units := s.units.set x.slot u
        engines := s.engines.set l ((s.engine l).passed (s.ring l).length) } l)) := by
  rw [← units, ← engines]
  rfl

section

variable {s : State} {l : Line} {x : Exchange} {kind : ReplyKind} {seq taken busy : Bool} {payload : List Byte}

/-- REPLY with a VALID reply of a trusted slot: it is handled, and the engine goes on (R71, R86). -/
theorem State.AwaitsTrusted.exec_reply (h : s.AwaitsTrusted l x) (free : taken = false ∨ busy = false)
    (fits : kind.admits payload.length = true) (small : ∀ b ∈ payload, b.toNat < x.tune.data.modulus) {t : State}
    (handled : (s.setEngine l (s.engine l).answered.calmed).handleOutcome x (.valid ⟨kind, seq, taken, busy, payload⟩) = t) :
    exec (.reply l (x.answer kind seq taken busy payload)) s =
      .next (State.selectNew (State.refresh (t.setEngine l ((s.engine l).passed (s.ring l).length)) l)) := by
  have short := ReplyKind.length_of_admits fits
  exact exec_reply_alone h.awaits short (telegramBytes_small h.addressed (replyControl_small _ _ _ _) short small)
    (judgeReply_replyControl _ _ seq free fits) h.new h.alone handled

/-- REPLY with an IDLE reply of a trusted slot, to a POLL or a COMMAND: once the item is settled no acknowledgement is
pending, and a CLOSING lane counts the reply. What the settling makes a candidate leaves before or with the command's end. -/
theorem State.AwaitsTrusted.exec_idle_closing (h : s.AwaitsTrusted l x) (free : taken = false ∨ busy = false)
    (asks : x.kind = .poll ∨ x.kind = .command) {before t : State} {u : UnitRun}
    (settled : (s.counted l x).settleItems x (.valid ⟨.idle, false, taken, busy, []⟩) true =
      before.atOnce (s.guardedAs l x t u))
    (tables : t.tables = s.tables) (goesOn : (t.lane (s.record x.slot).lane).ClosingGoesOn x.slot) :
    exec (.reply l (x.answer .idle false taken busy [])) s =
      s.repliedAs l x (t.idled (s.record x.slot).lane x.slot) { u with pendingAck := .none } := by
  obtain ⟨alerts, lane⟩ := before.atOnce_lane (s.guardedAs l x t u) (s.record x.slot).lane
  have handled := State.handleOutcome_idle (s := s.setEngine l (s.engine l).answered.calmed) (by exact h.trusted) asks
    (by exact h.enabled) rfl settled ((before.atOnce_frame _).1.trans tables) (by exact lane ▸ goesOn)
  rw [before.atOnce_unit, ← State.atOnce_idled] at handled
  rw [h.exec_reply free rfl (by simp) handled, State.selectNew_over]
  refine congrArg Host.Outcome.next ((State.selectNew_over _ _ _ _ _ _).trans ?_)
  rw [State.guardedAs_unit]
  exact congrArg (fun t => State.selectNew (State.refresh t l)) (State.settled_again (t.idled (s.record x.slot).lane x.slot) x.slot l _ _ _ _)

/-- In a lane that is not CLOSING, the item settled is all that an IDLE reply is about. -/
theorem State.AwaitsTrusted.exec_idle (h : s.AwaitsTrusted l x) (free : taken = false ∨ busy = false)
    (asks : x.kind = .poll ∨ x.kind = .command) {before t : State} {u : UnitRun}
    (settled : (s.counted l x).settleItems x (.valid ⟨.idle, false, taken, busy, []⟩) true =
      before.atOnce (s.guardedAs l x t u))
    (tables : t.tables = s.tables) (stays : (t.lane (s.record x.slot).lane).phase ≠ .closing) :
    exec (.reply l (x.answer .idle false taken busy [])) s =
      s.repliedAs l x t { u with pendingAck := .none } := by
  rw [h.exec_idle_closing free asks settled tables fun closing => absurd closing stays, State.idled_of_open stays]

/-- Where the item settled is about the slot's runtime record only. -/
theorem State.AwaitsTrusted.exec_idle_slot (h : s.AwaitsTrusted l x) (free : taken = false ∨ busy = false)
    (asks : x.kind = .poll ∨ x.kind = .command) {u : UnitRun}
    (settled : (s.counted l x).settleItems x (.valid ⟨.idle, false, taken, busy, []⟩) true =
      (s.counted l x).setUnit x.slot u)
    (stays : (s.lane (s.record x.slot).lane).phase ≠ .closing) :
    exec (.reply l (x.answer .idle false taken busy [])) s = s.repliedAs l x s { u with pendingAck := .none } :=
  h.exec_idle free asks (before := s.guardedAs l x s u)
    (settled.trans ((s.counted_setUnit l x u).trans (State.atOnce_self _).symm)) rfl stays

end

end Sys2Proof.Machine
end

section
/-! SUPPORT. Command items that a unit does not take: attempts, and items given up (R81, R82, R141, R143, R151). -/

namespace Sys2Proof.Machine

/-! ### Attempts (R81, R82) -/

section

variable {s : State} {x : Exchange} {r : Reply} {it : Item}

/-- An IDLE reply without TAKEN settles doubt after a POLL, and nothing else (R82). -/
theorem State.settleItems_undoubted (poll : x.kind = .poll) (doubt : (s.unit x.slot).doubt = some it)
    (untaken : r.taken = false) :
    s.settleItems x (.valid r) true = s.setUnit x.slot { s.unit x.slot with doubt := none } := by
  simp [State.settleItems, poll, State.settleDoubt, doubt, untaken, State.setDoubt]

/-- A reply without TAKEN to a COMMAND counts an attempt of its item (R81). -/
theorem State.settleItems_untaken (command : x.kind = .command) (item : x.item = some it) (untaken : r.taken = false) :
    s.settleItems x (.valid r) true = s.countAttempt x.slot it := by
  simp [State.settleItems, command, item, State.commandEnds, untaken]

theorem State.countAttempt_last {n : SlotNo} (pending : s.itemPending n it = true) (last : 7 ≤ (s.unit n).attempts it) :
    s.countAttempt n it = s.giveUp n it := by
  rw [State.countAttempt, if_pos pending, if_neg (by show ¬_ < 8; omega)]

theorem State.itemPending_directive {n : SlotNo} {d : Directive} {p : Pending}
    (present : (s.unit n).directives.get d = some p) : s.itemPending n (.directive d p.serial) = true := by
  simp [State.itemPending, present]

theorem State.itemPending_record {n : SlotNo} {k : LaneNo} {r : OutRecord} {more : List OutRecord}
    (head : s.outQueue k = r :: more) : s.itemPending n (.record k r.serial) = true := by
  simp [State.itemPending, head]

theorem UnitRun.attempts_directive {u : UnitRun} {d : Directive} {p : Pending} (present : u.directives.get d = some p) :
    u.attempts (.directive d p.serial) = p.attempts := by
  simp [UnitRun.attempts, present]

end

/-! ### Items given up (R81, R141, R143) -/

section

variable {s : State} {n : SlotNo} {d : Directive} {k : LaneNo}

/-- UNDELIVERED is raised at the slot's lane. -/
theorem State.undelivered_eq (enabled : (s.record n).enabled = true) (code : Byte) :
    s.undelivered n code = s.alerted (s.record n).lane 2 code 0 := by
  rw [State.undelivered, State.currentLane_enabled enabled]
  rfl

/-- A directive given up means nothing for the lane, but for a WAKE in OPENING and a REST in CLOSING (R141, R143). -/
theorem State.directiveGivenUp_still (enabled : (s.record n).enabled = true) (at_lane : (s.record n).lane = k)
    (stays : (s.lane k).phase ≠ .closing) (unwoken : d ≠ .wake ∨ (s.lane k).phase ≠ .opening) :
    s.directiveGivenUp n d = s := by
  subst at_lane
  have lane := State.currentLane_enabled enabled
  cases d with
  | eject | keep | standby => simp only [State.directiveGivenUp, lane]
  | wake =>
    simp only [State.directiveGivenUp, lane]
    exact if_neg (unwoken.resolve_left fun other => other rfl)
  | rest =>
    simp only [State.directiveGivenUp, lane]
    exact if_neg stays

/-- A WAKE given up in OPENING is a fault (R141). -/
theorem State.directiveGivenUp_wake (enabled : (s.record n).enabled = true) (at_lane : (s.record n).lane = k)
    (opening : (s.lane k).phase = .opening) (undecided : (s.lane k).decision = none) :
    s.directiveGivenUp n .wake = s.faultedFor k 3 := by
  subst at_lane
  simp only [State.directiveGivenUp, State.currentLane_enabled enabled]
  exact (if_pos opening).trans (State.faultLane_of_none undecided _)

/-- The close confirmations once the REST of a slot, due until then, is given up. -/
theorem moveConfirm_restGivenUp {n : SlotNo} {confirms : List (SlotNo × Confirmation)}
    (due : ∀ m ∈ confirms, m.1 = n → m.2 = .restDue) :
    moveConfirm n .restGivenUp confirms = confirms.map fun m => if m.1 = n then (n, .confirmed) else m := by
  refine List.map_congr_left fun m mem => ?_
  split
  · next same => rw [due m mem same, same]; rfl
  · rfl

/-- A confirmed slot stays confirmed whatever its replies are (R143). -/
theorem moveConfirm_idle_confirmed (n : SlotNo) (confirms : List (SlotNo × Confirmation)) :
    moveConfirm n .idle (confirms.map fun m => if m.1 = n then (n, .confirmed) else m) =
      confirms.map fun m => if m.1 = n then (n, .confirmed) else m := by
  rw [moveConfirm, List.map_map]
  refine List.map_congr_left fun m _ => ?_
  by_cases same : m.1 = n <;> simp [same, Confirmation.idle]

/-- Another slot's confirmation waits on. -/
theorem waits_confirmed {n : SlotNo} {r : LaneRecord} (waits : r.WaitsForOther n) :
    ((r.confirms.map fun m => if m.1 = n then (n, Confirmation.confirmed) else m).any fun c => c.2.waits) = true := by
  obtain ⟨c, mem, other, unconfirmed, unwaived⟩ := waits
  refine List.any_eq_true.mpr ⟨c, List.mem_map.mpr ⟨c, mem, if_neg other⟩, ?_⟩
  obtain ⟨m, state⟩ := c
  cases state <;> simp_all [Confirmation.waits]

/-- A lane in which a slot's closing is confirmed. -/
def LaneRecord.restConfirmed (n : SlotNo) (r : LaneRecord) : LaneRecord :=
  { r with confirms := r.confirms.map fun m => if m.1 = n then (n, .confirmed) else m }

theorem sparesAlerts_restConfirmed (n : SlotNo) : SparesAlerts (LaneRecord.restConfirmed n) := fun _ _ => rfl

/-- A REST given up in CLOSING counts its unit as confirmed, and the closing goes on while another's waits (R143). -/
theorem State.directiveGivenUp_rest (enabled : (s.record n).enabled = true) (at_lane : (s.record n).lane = k)
    (closing : (s.lane k).phase = .closing) (due : ∀ m ∈ (s.lane k).confirms, m.1 = n → m.2 = .restDue)
    (waits : (s.lane k).WaitsForOther n) :
    s.directiveGivenUp n .rest = s.mapLane k (LaneRecord.restConfirmed n) := by
  subst at_lane
  simp only [State.directiveGivenUp, State.currentLane_enabled enabled]
  rw [State.confirmMove, if_pos closing, State.checkClosing, State.lane_setLane_same, moveConfirm_restGivenUp due,
    if_neg (by simp only [waits_confirmed waits]; simp)]
  rfl

/-- A lane's outbound queue without its head, the head attempt counts of its slots 0 (R116, R129). -/
def State.withoutHead (s : State) (k : LaneNo) (more : List OutRecord) : State :=
  { s with
    outbound := s.outbound.set k more
    units := Vector.ofFn fun m => if s.bound k m then { s.unit m with headAttempts := 0 } else s.unit m }

theorem State.dropHead_eq {r : OutRecord} {more : List OutRecord} (head : s.outQueue k = r :: more) :
    s.dropHead k = s.withoutHead k more := by
  rw [State.dropHead, head, State.clearHeadAttempts_eq]
  rfl

/-- For a slot of the lane it comes to the same whether its record is replaced before or after the head leaves. -/
theorem State.withoutHead_guardedAs (s : State) (l : Line) (x : Exchange) {more : List OutRecord}
    (bound : s.bound k x.slot = true) (u : UnitRun) :
    (s.guardedAs l x s u).withoutHead k more =
      s.guardedAs l x (s.withoutHead k more) { u with headAttempts := 0 } := by
  have units : (Vector.ofFn fun m =>
        if s.bound k m then { (s.setUnit x.slot u).unit m with headAttempts := 0 } else (s.setUnit x.slot u).unit m) =
      (Vector.ofFn fun m => if s.bound k m then { s.unit m with headAttempts := 0 } else s.unit m).set x.slot
        { u with headAttempts := 0 } := by
    ext1 i inside
    by_cases same : (⟨i, inside⟩ : SlotNo) = x.slot
    · simp [same, bound, ← congrArg Fin.val same]
    · have apart : x.slot.val ≠ i := fun equal => same (Fin.ext equal.symm)
      simp [Vector.getElem_set_ne _ _ apart, State.unit_setUnit_other s u same]
  exact congrArg
    (fun units => { s.guardedAs l x (s.withoutHead k more) { u with headAttempts := 0 } with units := units }) units

end

/-! ### An attempt at a trusted slot -/

section

variable {s : State} {l : Line} {x : Exchange} {d : Directive} {p : Pending} {r : OutRecord} {more : List OutRecord} {it : Item}
  {busy : Bool}

/-- A slot's runtime record once one attempt more is counted for a directive of its set. -/
theorem UnitRun.raiseAttempts_directive {u : UnitRun} (present : u.directives.get d = some p) :
    u.raiseAttempts (.directive d p.serial) =
      { u with directives := u.directives.put d (some ⟨p.attempts + 1, p.serial⟩) } := by
  rw [UnitRun.raiseAttempts, UnitRun.attempts_directive present]

/-- A slot's VALID reply counted leaves pending what is. -/
theorem State.itemPending_counted (s : State) (l : Line) (x : Exchange) (it : Item) :
    (s.counted l x).itemPending x.slot it = s.itemPending x.slot it := by
  cases it with
  | directive d serial => rw [State.itemPending, State.counted_unit]; rfl
  | record k serial => rfl

/-- What has left pending before the reply is not attempted again. -/
theorem State.AwaitsTrusted.exec_gone (h : s.AwaitsTrusted l x) (command : x.kind = .command) (item : x.item = some it)
    (gone : s.itemPending x.slot it = false) (stays : (s.lane (s.record x.slot).lane).phase ≠ .closing) :
    exec (.reply l (x.answer .idle false false busy [])) s =
      s.repliedAs l x s { (s.unit x.slot).validated with pendingAck := .none } := by
  have unpending := (s.itemPending_counted l x it).trans gone
  refine h.exec_idle_slot (.inl rfl) (.inr command) ?_ stays
  rw [State.settleItems_untaken command item rfl, State.countAttempt_few (by simp [unpending]), unpending,
    State.counted_unit]
  rfl

/-- An attempt before the eighth is counted, and nothing else (R81). -/
theorem State.AwaitsTrusted.exec_attempt (h : s.AwaitsTrusted l x) (command : x.kind = .command) (item : x.item = some it)
    (pending : (s.counted l x).itemPending x.slot it = true) (few : (s.unit x.slot).validated.attempts it < 7)
    (stays : (s.lane (s.record x.slot).lane).phase ≠ .closing) :
    exec (.reply l (x.answer .idle false false busy [])) s =
      s.repliedAs l x s { (s.unit x.slot).validated.raiseAttempts it with pendingAck := .none } := by
  refine h.exec_idle_slot (.inl rfl) (.inr command) ?_ stays
  rw [State.settleItems_untaken command item rfl, State.countAttempt_few (by rw [State.counted_unit]; omega), pending,
    State.counted_unit]
  rfl

/-- The runtime record of a trusted slot whose directive is given up. -/
def UnitRun.withoutDirective (u : UnitRun) (d : Directive) : UnitRun :=
  { u.validated with directives := u.directives.put d none }

/-- The eighth attempt gives a directive up: it leaves the set, UNDELIVERED is raised, and then the lane is told (R81). -/
theorem State.AwaitsTrusted.settleItems_last (h : s.AwaitsTrusted l x) (command : x.kind = .command)
    (item : x.item = some (.directive d p.serial)) (present : (s.unit x.slot).directives.get d = some p)
    (last : 7 ≤ p.attempts) :
    (s.counted l x).settleItems x (.valid ⟨.idle, false, false, busy, []⟩) true =
      (s.guardedAs l x (s.atOnce (s.alerted (s.record x.slot).lane 2 d.code 0))
        ((s.unit x.slot).withoutDirective d)).directiveGivenUp x.slot d := by
  have held : ((s.counted l x).unit x.slot).directives.get d = some p := by rw [State.counted_unit]; exact present
  have attempts : 7 ≤ ((s.counted l x).unit x.slot).attempts (.directive d p.serial) := by
    rw [UnitRun.attempts_directive held]
    exact last
  rw [State.settleItems_untaken command item rfl, State.countAttempt_last (State.itemPending_directive held) attempts,
    State.giveUp, State.dropDirective, State.counted_unit, State.counted_setUnit,
    State.undelivered_eq (by exact h.enabled),
    ← s.atOnce_counted]
  rfl

/-- The lane of the slot in the part where UNDELIVERED has been raised, and other records replaced. -/
theorem State.lane_alerted (s : State) (k : LaneNo) (kind : Fin 8) (d1 d2 : Byte) :
    (s.alerted k kind d1 d2).lane k =
      { s.lane k with alerts := (s.lane k).alerts.set kind (some (raisedEntry (s.lane k).alerts[kind] d1 d2)) } :=
  State.lane_setLane_same s k _

theorem State.mapLane_alerted (s : State) (k : LaneNo) (f : LaneRecord → LaneRecord) (kind : Fin 8) (d1 d2 : Byte) :
    (s.alerted k kind d1 d2).mapLane k f =
      s.setLane k (f { s.lane k with
        alerts := (s.lane k).alerts.set kind (some (raisedEntry (s.lane k).alerts[kind] d1 d2)) }) := by
  rw [State.mapLane, State.lane_alerted]
  exact State.setLane_setLane s k _ _

/-- A directive given up where that is nothing to the lane. -/
theorem State.AwaitsTrusted.exec_lastDirective (h : s.AwaitsTrusted l x) (command : x.kind = .command)
    (item : x.item = some (.directive d p.serial)) (present : (s.unit x.slot).directives.get d = some p)
    (last : 7 ≤ p.attempts) (stays : (s.lane (s.record x.slot).lane).phase ≠ .closing)
    (unwoken : d ≠ .wake ∨ (s.lane (s.record x.slot).lane).phase ≠ .opening) :
    exec (.reply l (x.answer .idle false false busy [])) s =
      s.repliedAs l x (s.alerted (s.record x.slot).lane 2 d.code 0)
        { (s.unit x.slot).withoutDirective d with pendingAck := .none } := by
  obtain ⟨tables, _, _, phases⟩ := s.atOnce_frame (s.alerted (s.record x.slot).lane 2 d.code 0)
  have phase := (phases (s.record x.slot).lane).trans (congrArg LaneRecord.phase (s.lane_alerted _ 2 d.code 0))
  have record := State.record_of tables x.slot
  refine h.exec_idle (.inl rfl) (.inr command) (before := s.counted l x)
    ((h.settleItems_last command item present last).trans ?_) rfl (by rw [State.lane_alerted]; exact stays)
  rw [State.directiveGivenUp_still (k := (s.record x.slot).lane),
    ← s.atOnce_counted]
  · exact (congrArg UnitRecord.enabled record).trans h.enabled
  · exact congrArg UnitRecord.lane record
  · exact phase ▸ stays
  · exact phase ▸ unwoken

/-- A WAKE given up in OPENING: UNDELIVERED is raised, and selected where that is at once, before the lane's fault (R141). -/
theorem State.AwaitsTrusted.exec_lastWake (h : s.AwaitsTrusted l x) (command : x.kind = .command)
    (item : x.item = some (.directive .wake p.serial)) (present : (s.unit x.slot).directives.get .wake = some p)
    (last : 7 ≤ p.attempts) (opening : (s.lane (s.record x.slot).lane).phase = .opening)
    (undecided : (s.lane (s.record x.slot).lane).decision = none) :
    exec (.reply l (x.answer .idle false false busy [])) s =
      s.repliedAs l x ((s.atOnce (s.alerted (s.record x.slot).lane 2 Directive.wake.code 0)).faultedFor (s.record x.slot).lane 3)
        { (s.unit x.slot).withoutDirective .wake with pendingAck := .none } := by
  obtain ⟨tables, _⟩ := s.atOnce_frame (s.alerted (s.record x.slot).lane 2 Directive.wake.code 0)
  obtain ⟨alerts, lane⟩ := s.atOnce_lane (s.alerted (s.record x.slot).lane 2 Directive.wake.code 0) (s.record x.slot).lane
  rw [State.lane_alerted] at lane
  have record := State.record_of tables x.slot
  refine h.exec_idle (.inl rfl) (.inr command)
    (((h.settleItems_last command item present last).trans ?_).trans (State.atOnce_self _).symm) tables ?_
  · refine State.directiveGivenUp_wake ((congrArg UnitRecord.enabled record).trans h.enabled) (congrArg UnitRecord.lane record) ?_ ?_
    · exact (congrArg LaneRecord.phase lane).trans opening
    · exact (congrArg LaneRecord.decision lane).trans undecided
  · simp [State.faultedFor, State.lane]

/-- A REST given up in CLOSING counts its unit as confirmed while another's confirmation waits (R143). -/
theorem State.AwaitsTrusted.exec_lastRest (h : s.AwaitsTrusted l x) (command : x.kind = .command)
    (item : x.item = some (.directive .rest p.serial)) (present : (s.unit x.slot).directives.get .rest = some p)
    (last : 7 ≤ p.attempts) (closing : (s.lane (s.record x.slot).lane).phase = .closing)
    (due : ∀ m ∈ (s.lane (s.record x.slot).lane).confirms, m.1 = x.slot → m.2 = .restDue)
    (waits : (s.lane (s.record x.slot).lane).WaitsForOther x.slot) :
    exec (.reply l (x.answer .idle false false busy [])) s =
      s.repliedAs l x
        ((s.alerted (s.record x.slot).lane 2 Directive.rest.code 0).mapLane (s.record x.slot).lane
          (LaneRecord.restConfirmed x.slot))
        { (s.unit x.slot).withoutDirective .rest with pendingAck := .none } := by
  obtain ⟨tables, _⟩ := s.atOnce_frame (s.alerted (s.record x.slot).lane 2 Directive.rest.code 0)
  obtain ⟨alerts, lane⟩ := s.atOnce_lane (s.alerted (s.record x.slot).lane 2 Directive.rest.code 0) (s.record x.slot).lane
  rw [State.lane_alerted] at lane
  have record := State.record_of tables x.slot
  have confirmed : ((s.alerted (s.record x.slot).lane 2 Directive.rest.code 0).mapLane (s.record x.slot).lane
      (LaneRecord.restConfirmed x.slot)).lane (s.record x.slot).lane = _ := State.lane_setLane_same _ _ _
  rw [State.lane_alerted] at confirmed
  rw [h.exec_idle_closing (.inl rfl) (.inr command) (before := s.counted l x)
    (t := (s.alerted (s.record x.slot).lane 2 Directive.rest.code 0).mapLane (s.record x.slot).lane
      (LaneRecord.restConfirmed x.slot)) (u := (s.unit x.slot).withoutDirective .rest) ?_ rfl, State.idled_confirmed]
  · rw [confirmed]
    exact moveConfirm_idle_confirmed _ _
  · rw [confirmed]
    intro _
    rw [LaneRecord.restConfirmed, moveConfirm_idle_confirmed]
    exact waits_confirmed waits
  · rw [h.settleItems_last command item present last, State.directiveGivenUp_rest (k := (s.record x.slot).lane),
      s.atOnce_counted, State.atOnce_mapLane]
    · rfl
    · exact sparesAlerts_restConfirmed _
    · exact (congrArg UnitRecord.enabled record).trans h.enabled
    · exact congrArg UnitRecord.lane record
    · exact (congrArg LaneRecord.phase lane).trans closing
    · exact (congrArg LaneRecord.confirms lane) ▸ due
    · exact (congrArg (LaneRecord.WaitsForOther · x.slot) lane).mpr waits

/-- The eighth attempt gives a record up: it leaves its queue, and UNDELIVERED is raised (R81, R129). -/
theorem State.AwaitsTrusted.exec_lastRecord (h : s.AwaitsTrusted l x) (command : x.kind = .command) {k : LaneNo}
    (item : x.item = some (.record k r.serial)) (head : s.outQueue k = r :: more) (at_lane : (s.record x.slot).lane = k)
    (last : 7 ≤ (s.unit x.slot).headAttempts) (stays : (s.lane k).phase ≠ .closing) :
    exec (.reply l (x.answer .idle false false busy [])) s =
      s.repliedAs l x
        ((s.withoutHead k more).alerted k 2 (recordCode r.bytes) 0)
        { (s.unit x.slot).validated with headAttempts := 0, pendingAck := .none } := by
  subst at_lane
  have bound : s.bound (s.record x.slot).lane x.slot = true := by simp [State.bound, h.enabled]
  refine h.exec_idle (.inl rfl) (.inr command) (u := { (s.unit x.slot).validated with headAttempts := 0 })
    (Eq.trans ?_ (State.atOnce_self _).symm) rfl (by rw [State.lane_alerted]; exact stays)
  have queue : (s.counted l x).outQueue (s.record x.slot).lane = r :: more := head
  rw [State.settleItems_untaken command item rfl, State.countAttempt_last (State.itemPending_record queue)
    (by rw [State.counted_unit]; exact last), State.giveUp, queue, List.head?_cons]
  dsimp only
  rw [State.dropHead_eq queue, State.undelivered_eq (by exact h.enabled), State.counted, State.withoutHead_guardedAs s l x bound]
  rfl

end

end Sys2Proof.Machine

namespace Sys2Proof.Proofs

open Sys2Proof.Machine

/-- Settles O49: by what becomes of the attempt, and of the item that the eighth gives up. -/
theorem untakenItemsAreAttemptedEightTimes : Obligations.UntakenItemsAreAttemptedEightTimes := by
  unfold Obligations.UntakenItemsAreAttemptedEightTimes
  intro s l x it d p r more busy e n u k lane answer valid guarding after undelivered exchange awaits rest low empty alone
    tuned new trusted enabled addressed
  have h : s.AwaitsTrusted l x :=
    ⟨⟨exchange, awaits, rest, low, empty, tuned⟩, alone, new, State.trusted_iff.mpr trusted, enabled, addressed⟩
  have sent : answer = x.answer .idle false false busy [] := by cases busy <;> rfl
  have same (v : UnitRun) : after s lane v = s.repliedAs l x s v := by
    show s.repliedAs l x (s.setLane k (s.lane k)) v = _
    rw [State.setLane_self]
  rw [sent]
  refine ⟨fun poll doubt stays => ?_, fun command item => ⟨fun gone stays => ?_, ?_, ?_⟩⟩
  · rw [same, h.exec_idle_slot (.inl rfl) (.inl poll) (u := { (s.unit x.slot).validated with doubt := none }) ?_ stays]
    · rfl
    · rw [State.settleItems_undoubted poll (it := it) (by rw [State.counted_unit]; exact doubt) rfl, State.counted_unit]
  · rw [same, h.exec_gone command item gone stays]
    rfl
  · rintro rfl present code left
    have coded : code = d.code := by cases d <;> rfl
    have held : ((s.counted l x).unit x.slot).directives.get d = some p := by rw [State.counted_unit]; exact present
    refine ⟨fun few stays => ?_, fun last => ⟨fun stays unwoken => ?_, ?_, ?_⟩⟩
    · rw [same, h.exec_attempt command item (State.itemPending_directive held)
        (by rw [UnitRun.attempts_directive (by exact present)]; exact few) stays,
        UnitRun.raiseAttempts_directive (by exact present)]
      rfl
    · rw [h.exec_lastDirective command item present last stays unwoken, coded]
      rfl
    · rintro rfl opening undecided
      obtain ⟨_, units, engines, _⟩ := s.atOnce_frame (s.alerted k 2 code 0)
      rw [h.exec_lastWake command item present last opening undecided]
      exact State.repliedAs_of (t := (s.atOnce (s.alerted k 2 code 0)).faultedFor k 3) units engines _
    · rintro rfl closing due waits
      rw [h.exec_lastRest command item present last closing due waits, State.mapLane_alerted]
      rfl
  · rintro rfl head stays
    refine ⟨fun few => ?_, fun last => ?_⟩
    · rw [same, h.exec_attempt command item (State.itemPending_record (by exact head)) few stays]
      rfl
    · rw [h.exec_lastRecord command item head rfl last stays]
      rfl

end Sys2Proof.Proofs
end

section
/-! SUPPORT. Command items that a unit reports TAKEN: c, doubt, and what the lane makes of it (R80, R82, R141, R143, R151). -/

namespace Sys2Proof.Machine

/-! ### Selections and the queues (R13) -/

/-- A selection has nothing to do with the outbound queues. -/
theorem State.selectNew_outbound (s : State) (outbound : Vector (List OutRecord) 8) :
    ({ s with outbound := outbound } : State).selectNew = { s.selectNew with outbound := outbound } := by
  have candidates : ({ s with outbound := outbound } : State).candidates = s.candidates :=
    State.candidates_congr rfl rfl rfl rfl rfl
  have select (src : Source) :
      ({ s with outbound := outbound } : State).select src = { s.select src with outbound := outbound } := by
    cases src <;> rfl
  have anyOf (cs : List Source) : ({ s with outbound := outbound } : State).anyOf cs = s.anyOf cs := rfl
  unfold State.selectNew
  dsimp only
  rw [candidates]
  split
  · rfl
  · rfl
  · rfl
  · exact select _
  · simp only [anyOf, select]

theorem State.atOnce_outbound (before s : State) (outbound : Vector (List OutRecord) 8) :
    before.atOnce { s with outbound := outbound } = { before.atOnce s with outbound := outbound } := by
  unfold State.atOnce
  rw [State.selectNew_outbound]
  split <;> rfl

/-- Records join the tail of a lane's inbound queue. -/
def State.recorded (s : State) (k : LaneNo) (records : List (List Byte)) : State :=
  s.setInQueue k (s.inQueue k ++ records)

@[simp] theorem State.recorded_nil (s : State) (k : LaneNo) : s.recorded k [] = s := by
  simp [State.recorded, State.setInQueue, State.inQueue]

/-- The bytes that records occupy. -/
theorem State.inOccupancy_recorded (s : State) (k : LaneNo) (records : List (List Byte)) :
    (s.recorded k records).inOccupancy k = s.inOccupancy k + records.flatten.length := by
  simp [State.recorded, State.inOccupancy, State.inQueue, State.setInQueue, List.length_flatten]

/-- Records that join a queue are selected at once from that queue, where anything is: that changes the queue, which grows
no longer by it, the Link Port and the count of free choices. -/
theorem State.atOnce_recorded (s : State) (k : LaneNo) (records : List (List Byte)) :
    ∃ queue link choices,
      s.atOnce (s.recorded k records) = { s with inbound := s.inbound.set k queue, link := link, choices := choices } ∧
        (queue.map List.length).sum ≤ s.inOccupancy k + records.flatten.length := by
  have unselected : ∃ queue link choices,
      s.recorded k records = { s with inbound := s.inbound.set k queue, link := link, choices := choices } ∧
        (queue.map List.length).sum ≤ s.inOccupancy k + records.flatten.length :=
    ⟨_, _, _, rfl, by simp [State.inOccupancy, List.length_flatten]⟩
  have selected : ∃ queue link,
      (s.recorded k records).select (.events k) = { s with inbound := s.inbound.set k queue, link := link } ∧
        (queue.map List.length).sum ≤ s.inOccupancy k + records.flatten.length := by
    refine ⟨(s.inQueue k ++ records).tail, ((s.recorded k records).select (.events k)).link, ?_, ?_⟩
    · simp only [State.select, State.giveUpItem, State.recorded, State.setInQueue, State.inQueue, State.setLink, Fin.getElem_fin,
        Vector.getElem_set_self, Vector.set_set]
    · have shorter := ((List.tail_sublist (s.inQueue k ++ records)).map List.length).sum_le_sum fun _ _ => Nat.zero_le _
      simpa [State.inOccupancy, List.length_flatten] using shorter
  by_cases none : s.candidates = []
  · have own {src : Source} (candidate : src ∈ (s.recorded k records).candidates) : src = .events k := by
      have old : src ∉ s.candidates := by simp [none]
      rw [State.mem_candidates] at candidate old
      cases src with
      | reply | notices | alerts j => exact absurd candidate old
      | events j =>
        by_cases same : j = k
        · rw [same]
        · have queue : (s.recorded k records).inQueue j = s.inQueue j := by
            simp [State.recorded, State.setInQueue, State.inQueue, Vector.getElem_set_ne, Fin.val_ne_of_ne (Ne.symm same)]
          rw [State.isCandidate, queue] at candidate
          exact absurd candidate old
    rw [State.atOnce, if_pos none]
    obtain ⟨queue, link, same, shorter⟩ := selected
    rcases (s.recorded k records).selectNew_cases with ⟨_, still⟩ | ⟨_, src, one, won⟩ | ⟨_, two, won⟩
    · rwa [still]
    · obtain rfl : src = .events k := own (by simp [one])
      rw [won, same]
      exact ⟨queue, link, _, rfl, shorter⟩
    · rw [won, own (State.anyOf_mem (List.ne_nil_of_length_pos (by omega))), same]
      exact ⟨queue, link, _, rfl, shorter⟩
  · rwa [State.atOnce, if_neg none]

/-! ### Taken, after a COMMAND or a POLL (R80, R82) -/

/-- The exchange carried the item, or polled a slot in doubt about it. -/
def State.Reports (s : State) (x : Exchange) (it : Item) : Prop :=
  (x.kind = .command ∧ x.item = some it) ∨ (x.kind = .poll ∧ (s.unit x.slot).doubt = some it)

theorem State.Reports.asks {s : State} {x : Exchange} {it : Item} (h : s.Reports x it) : x.kind = .poll ∨ x.kind = .command :=
  h.elim (fun command => .inr command.1) fun poll => .inl poll.1

/-- A reply with TAKEN: the item is settled as taken, and a doubt settled with it is gone. -/
theorem State.settleItems_taken {s : State} {x : Exchange} {it : Item} {r : Reply} (reports : s.Reports x it)
    (taken : r.taken = true) :
    s.settleItems x (.valid r) true =
      (s.settleTaken x.slot it).setUnit x.slot
        { (s.settleTaken x.slot it).unit x.slot with
          doubt := if x.kind = .poll then none else ((s.settleTaken x.slot it).unit x.slot).doubt } := by
  rcases reports with ⟨command, item⟩ | ⟨poll, doubt⟩
  · have ends : s.settleItems x (.valid r) true = s.settleTaken x.slot it := by
      simp [State.settleItems, command, item, State.commandEnds, taken]
    rw [ends, if_neg (by rw [command]; decide)]
    exact (State.setUnit_self _ _).symm
  · simp [State.settleItems, poll, State.settleDoubt, doubt, taken, State.setDoubt]

/-- A trusted slot's runtime record whose unit has taken an item (R80). -/
def UnitRun.took (u : UnitRun) : UnitRun := { u.validated with c := !u.c }

/-- A slot's runtime record once a reply with TAKEN is settled (R74, R82). -/
def UnitRun.reported (u : UnitRun) (kind : TelegramKind) : UnitRun :=
  { u with doubt := if kind = .poll then none else u.doubt, pendingAck := .none }

section

variable {s : State} {l : Line} {x : Exchange} {it : Item}

/-- REPLY with TAKEN in an IDLE reply of a trusted slot: what the item taken makes of the part, and where its lane is
CLOSING the IDLE reply is counted. -/
theorem State.AwaitsTrusted.exec_taken_closing (h : s.AwaitsTrusted l x) (reports : s.Reports x it) {before t : State}
    {u : UnitRun} (taken : (s.counted l x).settleTaken x.slot it = before.atOnce (s.guardedAs l x t u))
    (tables : t.tables = s.tables) (goesOn : (t.lane (s.record x.slot).lane).ClosingGoesOn x.slot) :
    exec (.reply l (x.answer .idle false true false [])) s =
      s.repliedAs l x (t.idled (s.record x.slot).lane x.slot) (u.reported x.kind) := by
  have reported : (s.counted l x).Reports x it := by
    rw [State.Reports, State.counted_unit]
    exact reports
  have settled := State.settleItems_taken (r := ⟨.idle, false, true, false, []⟩) reported rfl
  rw [taken, before.atOnce_unit, State.setUnit_atOnce, State.guardedAs_unit, State.guardedAs_setUnit] at settled
  rw [h.exec_idle_closing (.inr rfl) reports.asks settled tables goesOn]
  rfl

theorem State.AwaitsTrusted.exec_taken (h : s.AwaitsTrusted l x) (reports : s.Reports x it) {before t : State}
    {u : UnitRun} (taken : (s.counted l x).settleTaken x.slot it = before.atOnce (s.guardedAs l x t u))
    (tables : t.tables = s.tables) (stays : (t.lane (s.record x.slot).lane).phase ≠ .closing) :
    exec (.reply l (x.answer .idle false true false [])) s = s.repliedAs l x t (u.reported x.kind) := by
  rw [h.exec_taken_closing reports taken tables fun closing => absurd closing stays, State.idled_of_open stays]

/-- An item that has left pending: c flips, and nothing more. -/
theorem State.AwaitsTrusted.exec_takenLate (h : s.AwaitsTrusted l x) (reports : s.Reports x it)
    (gone : s.itemPending x.slot it = false) (stays : (s.lane (s.record x.slot).lane).phase ≠ .closing) :
    exec (.reply l (x.answer .idle false true false [])) s =
      s.repliedAs l x s ((s.unit x.slot).took.reported x.kind) := by
  refine h.exec_taken reports (before := s.guardedAs l x s (s.unit x.slot).took) (Eq.trans ?_ (State.atOnce_self _).symm) rfl stays
  rw [State.settleTaken, (s.itemPending_counted l x it).trans gone, State.counted_unit, State.counted_setUnit]
  rfl

end

/-! ### Directives taken (R141, R143, R151, R168) -/

/-- A lane of which a unit of a kind has taken something: the PIN shadow is gone where that is the keypad (R168). -/
def LaneRecord.takenBy (kind : UnitKind) (r : LaneRecord) : LaneRecord :=
  if kind = .reader then r else { r with pinShadow := false }

theorem LaneRecord.takenBy_frame (kind : UnitKind) (r : LaneRecord) :
    ∃ pinShadow, r.takenBy kind = { r with pinShadow := pinShadow } := by
  unfold LaneRecord.takenBy
  split
  · exact ⟨r.pinShadow, rfl⟩
  · exact ⟨false, rfl⟩

section

variable {s : State} {n : SlotNo} {k : LaneNo} {d : Directive}

theorem State.keypadTook_eq (enabled : (s.record n).enabled = true) (at_lane : (s.record n).lane = k) :
    s.keypadTook n = s.mapLane k (LaneRecord.takenBy (s.record n).kind) := by
  subst at_lane
  rw [State.keypadTook, State.currentLane_enabled enabled, State.mapLane, LaneRecord.takenBy]
  by_cases reader : (s.record n).kind = .reader
  · rw [if_pos reader, State.setLane_self, reader]
    rfl
  · rw [if_neg reader]
    exact if_pos ((UnitKind.keypad_iff _).mpr reader)

/-- A directive taken means nothing for the lane, but for a WAKE in OPENING and a REST in CLOSING (R141, R143). -/
theorem State.directiveTaken_still (enabled : (s.record n).enabled = true) (at_lane : (s.record n).lane = k)
    (stays : (s.lane k).phase ≠ .closing) (unwoken : d ≠ .wake ∨ (s.lane k).phase ≠ .opening) :
    s.directiveTaken n d = s := by
  subst at_lane
  have lane := State.currentLane_enabled enabled
  cases d with
  | eject | keep | standby => simp only [State.directiveTaken, lane]
  | wake =>
    simp only [State.directiveTaken, lane]
    exact if_neg (unwoken.resolve_left fun other => other rfl)
  | rest =>
    simp only [State.directiveTaken, lane]
    exact if_neg stays

/-- A lane in which a slot's wake mark is woken. -/
def LaneRecord.woken (n : SlotNo) (r : LaneRecord) : LaneRecord :=
  { r with wakeMarks := r.wakeMarks.map fun m => if m.1 = n then (n, true) else m }

/-- A lane that becomes OPEN. -/
def LaneRecord.opened (r : LaneRecord) : LaneRecord := { r with phase := .opened, wakeMarks := [] }

/-- A lane in which a slot's close confirmation has counted some IDLE replies. -/
def LaneRecord.counting (n : SlotNo) (i : Fin 3) (r : LaneRecord) : LaneRecord :=
  { r with confirms := r.confirms.map fun m => if m.1 = n then (n, .counting i) else m }

theorem State.wakeTaken_eq (opening : (s.lane k).phase = .opening) :
    s.wakeTaken k n = (s.mapLane k (LaneRecord.woken n)).checkOpening k := by
  have marks : ((s.lane k).wakeMarks.map fun m => if m.1 = n then (m.1, true) else m) =
      (s.lane k).wakeMarks.map fun m => if m.1 = n then (n, true) else m :=
    List.map_congr_left fun m _ => by split <;> simp_all
  rw [State.wakeTaken, if_pos opening, marks]
  rfl

/-- A WAKE taken while another unit's mark is unwoken (R141). -/
theorem State.directiveTaken_wake (enabled : (s.record n).enabled = true) (at_lane : (s.record n).lane = k)
    (opening : (s.lane k).phase = .opening) (unwoken : ∃ m ∈ ((s.lane k).woken n).wakeMarks, m.2 = false) :
    s.directiveTaken n .wake = s.mapLane k (LaneRecord.woken n) := by
  subst at_lane
  simp only [State.directiveTaken, State.currentLane_enabled enabled]
  rw [State.wakeTaken_eq opening, State.checkOpening, State.mapLane, State.lane_setLane_same, if_neg]
  rintro ⟨_, all⟩
  obtain ⟨m, mem, off⟩ := unwoken
  have on := List.all_eq_true.mp all m mem
  rw [off] at on
  cases on

/-- The last WAKE taken opens the lane, and OPENED is written (R141). -/
theorem State.directiveTaken_lastWake (enabled : (s.record n).enabled = true) (at_lane : (s.record n).lane = k)
    (opening : (s.lane k).phase = .opening) (woken : ∀ m ∈ ((s.lane k).woken n).wakeMarks, m.2 = true)
    (fits : s.inFits k 4 = true) :
    s.directiveTaken n .wake =
      (s.mapLane k fun r => (r.woken n).opened).recorded k [[4, 1, hiByte (s.lane k).tag, loByte (s.lane k).tag]] := by
  subst at_lane
  simp only [State.directiveTaken, State.currentLane_enabled enabled]
  rw [State.wakeTaken_eq opening, State.checkOpening, State.mapLane, State.lane_setLane_same,
    if_pos ⟨opening, List.all_eq_true.mpr woken⟩, State.setLane_setLane]
  rcases State.report_cases (s.setLane (s.record n).lane ((s.lane (s.record n).lane).woken n).opened) (s.record n).lane .opened
    [] with ⟨_, same⟩ | ⟨lost, _⟩
  · refine same.trans ?_
    rw [State.lane_setLane_same]
    rfl
  · rw [length_eventRecord] at lost
    exact absurd (lost.symm.trans fits) nofun

theorem moveConfirm_restTaken {n : SlotNo} {confirms : List (SlotNo × Confirmation)}
    (due : ∀ m ∈ confirms, m.1 = n → m.2 = .restDue) :
    moveConfirm n .restTaken confirms = confirms.map fun m => if m.1 = n then (n, .counting 0) else m := by
  refine List.map_congr_left fun m mem => ?_
  split
  · next same => rw [due m mem same, same]; rfl
  · rfl

theorem moveConfirm_idle_counting (n : SlotNo) (r : LaneRecord) :
    moveConfirm n .idle (r.counting n 0).confirms = (r.counting n 1).confirms := by
  rw [moveConfirm, LaneRecord.counting, List.map_map]
  refine List.map_congr_left fun m _ => ?_
  by_cases same : m.1 = n <;> simp [same, Confirmation.idle]

/-- A slot that is counting still waits. -/
theorem LaneRecord.waits_counting {r : LaneRecord} (own : ∃ m ∈ r.confirms, m.1 = n) (i : Fin 3) :
    ((r.counting n i).confirms.any fun c => c.2.waits) = true := by
  obtain ⟨m, mem, same⟩ := own
  exact List.any_eq_true.mpr ⟨_, List.mem_map.mpr ⟨m, mem, if_pos same⟩, rfl⟩

/-- A REST taken in CLOSING starts its unit's count (R143). -/
theorem State.directiveTaken_rest (enabled : (s.record n).enabled = true) (at_lane : (s.record n).lane = k)
    (closing : (s.lane k).phase = .closing) (own : ∃ m ∈ (s.lane k).confirms, m.1 = n)
    (due : ∀ m ∈ (s.lane k).confirms, m.1 = n → m.2 = .restDue) :
    s.directiveTaken n .rest = s.mapLane k (LaneRecord.counting n 0) := by
  subst at_lane
  simp only [State.directiveTaken, State.currentLane_enabled enabled]
  rw [State.confirmMove, if_pos closing, moveConfirm_restTaken due, State.checkClosing, State.lane_setLane_same,
    if_neg fun ended => absurd (ended.2.symm.trans (LaneRecord.waits_counting own 0)) nofun]
  rfl

end

theorem LaneRecord.takenBy_woken (kind : UnitKind) (n : SlotNo) (r : LaneRecord) :
    (r.takenBy kind).woken n =
      { r.takenBy kind with wakeMarks := r.wakeMarks.map fun m => if m.1 = n then (n, true) else m } := by
  obtain ⟨_, same⟩ := r.takenBy_frame kind
  rw [same]
  rfl

theorem LaneRecord.takenBy_opened (kind : UnitKind) (n : SlotNo) (r : LaneRecord) :
    ((r.takenBy kind).woken n).opened = { r.takenBy kind with phase := .opened, wakeMarks := [] } := rfl

theorem LaneRecord.takenBy_counting (kind : UnitKind) (n : SlotNo) (i : Fin 3) (r : LaneRecord) :
    (r.takenBy kind).counting n i =
      { r.takenBy kind with confirms := r.confirms.map fun m => if m.1 = n then (n, .counting i) else m } := by
  obtain ⟨_, same⟩ := r.takenBy_frame kind
  rw [same]
  rfl

/-! ### A directive reported TAKEN by a trusted slot -/

section

variable {s : State} {l : Line} {x : Exchange} {d : Directive} {p : Pending}

/-- The runtime record of a trusted slot whose unit has taken a directive (R80). -/
def UnitRun.tookDirective (u : UnitRun) (d : Directive) : UnitRun := { u.took with directives := u.directives.put d none }

/-- The directive leaves the set, a keypad clears the PIN shadow, and then the lane is told (R80, R151, R168). -/
theorem State.AwaitsTrusted.settleTaken_directive (h : s.AwaitsTrusted l x)
    (present : (s.unit x.slot).directives.get d = some p) :
    (s.counted l x).settleTaken x.slot (.directive d p.serial) =
      (s.guardedAs l x (s.mapLane (s.record x.slot).lane (LaneRecord.takenBy (s.record x.slot).kind))
        ((s.unit x.slot).tookDirective d)).directiveTaken x.slot d := by
  have pending := (s.itemPending_counted l x (.directive d p.serial)).trans (State.itemPending_directive present)
  rw [State.settleTaken, pending, State.counted_unit, State.counted_setUnit, if_pos rfl, State.takeItem, State.dropDirective,
    State.guardedAs_unit, State.guardedAs_setUnit, State.keypadTook_eq (k := (s.record x.slot).lane)]
  · rfl
  · exact h.enabled
  · rfl

theorem LaneRecord.takenBy_phase (kind : UnitKind) (r : LaneRecord) : (r.takenBy kind).phase = r.phase := by
  obtain ⟨_, same⟩ := r.takenBy_frame kind
  rw [same]

theorem LaneRecord.takenBy_wakeMarks (kind : UnitKind) (r : LaneRecord) : (r.takenBy kind).wakeMarks = r.wakeMarks := by
  obtain ⟨_, same⟩ := r.takenBy_frame kind
  rw [same]

theorem LaneRecord.takenBy_confirms (kind : UnitKind) (r : LaneRecord) : (r.takenBy kind).confirms = r.confirms := by
  obtain ⟨_, same⟩ := r.takenBy_frame kind
  rw [same]

theorem LaneRecord.takenBy_tag (kind : UnitKind) (r : LaneRecord) : (r.takenBy kind).tag = r.tag := by
  obtain ⟨_, same⟩ := r.takenBy_frame kind
  rw [same]

/-- A directive taken where that is nothing to the lane. -/
theorem State.AwaitsTrusted.exec_takenDirective (h : s.AwaitsTrusted l x) (reports : s.Reports x (.directive d p.serial))
    (present : (s.unit x.slot).directives.get d = some p) (stays : (s.lane (s.record x.slot).lane).phase ≠ .closing)
    (unwoken : d ≠ .wake ∨ (s.lane (s.record x.slot).lane).phase ≠ .opening) :
    exec (.reply l (x.answer .idle false true false [])) s =
      s.repliedAs l x (s.mapLane (s.record x.slot).lane (LaneRecord.takenBy (s.record x.slot).kind))
        (((s.unit x.slot).tookDirective d).reported x.kind) := by
  have phase : ((s.mapLane (s.record x.slot).lane (LaneRecord.takenBy (s.record x.slot).kind)).lane
      (s.record x.slot).lane).phase = (s.lane (s.record x.slot).lane).phase := by
    rw [State.lane_mapLane, LaneRecord.takenBy_phase]
  refine h.exec_taken reports (Eq.trans ?_ (State.atOnce_self _).symm) rfl (phase ▸ stays)
  rw [h.settleTaken_directive present]
  exact State.directiveTaken_still (k := (s.record x.slot).lane) (by exact h.enabled) rfl (by exact phase ▸ stays)
    (by exact phase ▸ unwoken)

/-- A WAKE taken in OPENING while another unit's is not (R141). -/
theorem State.AwaitsTrusted.exec_takenWake (h : s.AwaitsTrusted l x) (reports : s.Reports x (.directive .wake p.serial))
    (present : (s.unit x.slot).directives.get .wake = some p) (opening : (s.lane (s.record x.slot).lane).phase = .opening)
    (unwoken : ∃ m ∈ ((s.lane (s.record x.slot).lane).woken x.slot).wakeMarks, m.2 = false) :
    exec (.reply l (x.answer .idle false true false [])) s =
      s.repliedAs l x
        (s.mapLane (s.record x.slot).lane fun r => (r.takenBy (s.record x.slot).kind).woken x.slot)
        (((s.unit x.slot).tookDirective .wake).reported x.kind) := by
  have lane := s.lane_mapLane (s.record x.slot).lane (LaneRecord.takenBy (s.record x.slot).kind)
  refine h.exec_taken reports (Eq.trans ?_ (State.atOnce_self _).symm) rfl ?_
  · rw [h.settleTaken_directive present, State.directiveTaken_wake (k := (s.record x.slot).lane)]
    · exact congrArg (fun t => s.guardedAs l x t _) (s.mapLane_mapLane _ _ _)
    · exact h.enabled
    · rfl
    · exact (congrArg LaneRecord.phase lane).trans ((LaneRecord.takenBy_phase _ _).trans opening)
    · refine (congrArg (fun r => ∃ m ∈ (LaneRecord.woken x.slot r).wakeMarks, m.2 = false) lane).mpr ?_
      rwa [LaneRecord.woken, LaneRecord.takenBy_wakeMarks]
  · rw [State.lane_mapLane]
    exact fun closing => absurd (((LaneRecord.takenBy_phase _ _).trans opening).symm.trans closing) nofun

/-- The last WAKE taken in OPENING opens the lane (R141). -/
theorem State.AwaitsTrusted.exec_takenLastWake (h : s.AwaitsTrusted l x) (reports : s.Reports x (.directive .wake p.serial))
    (present : (s.unit x.slot).directives.get .wake = some p) (opening : (s.lane (s.record x.slot).lane).phase = .opening)
    (woken : ∀ m ∈ ((s.lane (s.record x.slot).lane).woken x.slot).wakeMarks, m.2 = true)
    (fits : s.inFits (s.record x.slot).lane 4 = true) :
    exec (.reply l (x.answer .idle false true false [])) s =
      s.repliedAs l x
        ((s.mapLane (s.record x.slot).lane fun r => ((r.takenBy (s.record x.slot).kind).woken x.slot).opened).recorded
          (s.record x.slot).lane
          [[4, 1, hiByte (s.lane (s.record x.slot).lane).tag, loByte (s.lane (s.record x.slot).lane).tag]])
        (((s.unit x.slot).tookDirective .wake).reported x.kind) := by
  have lane := s.lane_mapLane (s.record x.slot).lane (LaneRecord.takenBy (s.record x.slot).kind)
  have tag := (congrArg LaneRecord.tag lane).trans (LaneRecord.takenBy_tag _ _)
  refine h.exec_taken reports (Eq.trans ?_ (State.atOnce_self _).symm) rfl ?_
  · rw [h.settleTaken_directive present,
      State.directiveTaken_lastWake (k := (s.record x.slot).lane), ← tag]
    · rw [← s.mapLane_mapLane (s.record x.slot).lane (LaneRecord.takenBy (s.record x.slot).kind)
        fun r => (r.woken x.slot).opened]
      rfl
    · exact h.enabled
    · rfl
    · exact (congrArg LaneRecord.phase lane).trans ((LaneRecord.takenBy_phase _ _).trans opening)
    · refine (congrArg (fun r => ∀ m ∈ (LaneRecord.woken x.slot r).wakeMarks, m.2 = true) lane).mpr ?_
      rwa [LaneRecord.woken, LaneRecord.takenBy_wakeMarks]
    · exact fits
  · have phase := congrArg LaneRecord.phase (s.lane_mapLane (s.record x.slot).lane fun r =>
      ((r.takenBy (s.record x.slot).kind).woken x.slot).opened)
    exact fun closing => absurd (phase.symm.trans closing) nofun

/-- A REST taken in CLOSING: the reply that reports it is the first IDLE of the count (R143). -/
theorem State.AwaitsTrusted.exec_takenRest (h : s.AwaitsTrusted l x) (reports : s.Reports x (.directive .rest p.serial))
    (present : (s.unit x.slot).directives.get .rest = some p) (closing : (s.lane (s.record x.slot).lane).phase = .closing)
    (own : ∃ m ∈ (s.lane (s.record x.slot).lane).confirms, m.1 = x.slot)
    (due : ∀ m ∈ (s.lane (s.record x.slot).lane).confirms, m.1 = x.slot → m.2 = .restDue) :
    exec (.reply l (x.answer .idle false true false [])) s =
      s.repliedAs l x
        (s.mapLane (s.record x.slot).lane fun r => (r.takenBy (s.record x.slot).kind).counting x.slot 1)
        (((s.unit x.slot).tookDirective .rest).reported x.kind) := by
  have lane := s.lane_mapLane (s.record x.slot).lane (LaneRecord.takenBy (s.record x.slot).kind)
  have confirms := (congrArg LaneRecord.confirms lane).trans (LaneRecord.takenBy_confirms _ _)
  have phase := (congrArg LaneRecord.phase lane).trans ((LaneRecord.takenBy_phase _ _).trans closing)
  have counting : (((s.lane (s.record x.slot).lane).takenBy (s.record x.slot).kind).counting x.slot 0).phase = .closing :=
    (LaneRecord.takenBy_phase _ _).trans closing
  rw [h.exec_taken_closing reports (t := s.mapLane (s.record x.slot).lane fun r =>
    (r.takenBy (s.record x.slot).kind).counting x.slot 0) (u := (s.unit x.slot).tookDirective .rest) (Eq.trans ?_ (State.atOnce_self _).symm) rfl]
  · rw [State.idled, State.mapLane, State.lane_mapLane, if_pos counting, moveConfirm_idle_counting, State.mapLane,
      State.setLane_setLane]
    rfl
  · rw [State.lane_mapLane]
    intro _
    rw [moveConfirm_idle_counting]
    exact LaneRecord.waits_counting (by rw [LaneRecord.takenBy_confirms]; exact own) 1
  · rw [h.settleTaken_directive present, State.directiveTaken_rest (k := (s.record x.slot).lane)]
    · exact congrArg (fun t => s.guardedAs l x t _) (s.mapLane_mapLane _ _ _)
    · exact h.enabled
    · rfl
    · exact phase
    · exact confirms ▸ own
    · exact confirms ▸ due

end

/-! ### Records taken (R151, R153, R157, R166) -/

/-- Does a record begin an entry in a lane: a BEGIN in an OPEN lane (R157)? -/
abbrev LaneRecord.begins (r : LaneRecord) (bytes : List Byte) : Prop :=
  r.phase = .opened ∧ (recordCode bytes = 5 ∨ recordCode bytes = 6)

/-- The record that the end of a lane's window gives when it is replaced (R158). -/
def LaneRecord.replaced (r : LaneRecord) : List (List Byte) :=
  if (r.window.any fun w => w.phase.live) = true then [[5, 7, hiByte r.tag, loByte r.tag, 2]] else []

/-- The record that a BEGIN gives a lane: of itself in standby, or of the window that it replaces (R153, R158). -/
def LaneRecord.cancelled (r : LaneRecord) (bytes : List Byte) : List (List Byte) :=
  if r.begins bytes ∧ r.standby = true then [[5, 7, hiByte r.tag, loByte r.tag, 4]]
  else if r.begins bytes then r.replaced
  else []

theorem WindowPhase.live_eq (p : WindowPhase) : p.live = decide (p = .collecting ∨ p = .awaitBlock) := by cases p <;> rfl

theorem openedWindow_eq (bytes : List Byte) (last : Ack) :
    openedWindow bytes last =
      ⟨.collecting,
        if recordCode bytes = 5 then
          .amount (bytes.getD 3 0).toNat (bytes.getD 3 0).toNat [] ((recordFlagByte bytes).getLsbD 3)
            ((recordFlagByte bytes).getLsbD 4)
        else .pin (bytes.getD 3 0).toNat (bytes.getD 4 0).toNat 0,
        (recordFlagByte bytes).getLsbD 5, carryOverOf last⟩ := rfl

theorem LaneRecord.cancelled_eq (r : LaneRecord) (bytes : List Byte) :
    r.cancelled bytes =
      if r.begins bytes ∧ r.standby = true then [[5, 7, hiByte r.tag, loByte r.tag, 4]]
      else if r.begins bytes ∧ (r.window.any fun w => w.phase.live) = true then [[5, 7, hiByte r.tag, loByte r.tag, 2]]
      else [] := by
  rw [LaneRecord.cancelled, LaneRecord.replaced, ite_and (r.begins bytes) ((r.window.any fun w => w.phase.live) = true)]

/-- A lane once a record is taken whose window would be `fresh` (R153, R157, R166). -/
def LaneRecord.entered (bytes : List Byte) (fresh : Window) (r : LaneRecord) : LaneRecord :=
  { r with
    window :=
      if r.begins bytes then (if r.standby then r.window else some fresh)
      else if recordCode bytes = 7 ∧ (r.window.any fun w => decide (w.phase = .held)) = true then none
      else r.window
    pinShadow := r.pinShadow || decide (r.begins bytes ∧ r.standby = true ∧ recordCode bytes = 6) }

theorem sparesAlerts_entered (bytes : List Byte) (fresh : Window) : SparesAlerts (LaneRecord.entered bytes fresh) :=
  fun _ _ => rfl

section

variable {s : State} {k : LaneNo} {n : SlotNo} {bytes : List Byte}

/-- A record made for a lane is stored where it fits. -/
theorem State.writeInternal_fits {kind : EventKind} {content : List Byte} (fits : s.inFits k (4 + content.length) = true) :
    s.writeInternal k kind content = (s.recorded k [eventRecord kind (s.lane k).tag content], false) := by
  rw [← length_eventRecord kind (s.lane k).tag content] at fits
  rcases s.writeInternal_cases k kind content with ⟨_, same⟩ | ⟨lost, _⟩
  · exact same
  · exact absurd (lost.symm.trans fits) nofun

theorem State.report_fits {kind : EventKind} {content : List Byte} (fits : s.inFits k (4 + content.length) = true) :
    s.report k kind content = s.recorded k [eventRecord kind (s.lane k).tag content] := by
  rw [State.report, State.writeInternal_fits fits]
  rfl

/-- A BEGIN taken in an OPEN lane in standby is cancelled (R153). -/
theorem State.beginTaken_standby (opened : (s.lane k).phase = .opened) (standby : (s.lane k).standby = true)
    (fits : s.inFits k 5 = true) :
    s.beginTaken k n bytes =
      (s.mapLane k fun r => { r with pinShadow := r.pinShadow || recordCode bytes == 6 }).recorded k
        [[5, 7, hiByte (s.lane k).tag, loByte (s.lane k).tag, 4]] := by
  rw [State.beginTaken, if_pos opened, if_pos standby]
  refine (State.report_fits (by exact fits)).trans ?_
  rw [State.lane_setLane_same]
  rfl

theorem LaneRecord.windowLive_iff (r : LaneRecord) : r.windowLive ↔ (r.window.any fun w => w.phase.live) = true := by
  rw [LaneRecord.windowLive]
  cases r.window <;> simp

/-- A window replaced leaves the lane, with its record where it is live (R158). -/
theorem State.written_replaced (fits : s.inFits k (s.lane k).replaced.flatten.length = true) :
    s.written k (s.cancelWindow k .replaced) = (s.dropWindow k).recorded k (s.lane k).replaced := by
  rw [LaneRecord.replaced] at fits ⊢
  by_cases live : (s.lane k).windowLive
  · rw [if_pos ((LaneRecord.windowLive_iff _).mp live)] at fits ⊢
    rw [State.cancelWindow_live live]
    have written := State.writeInternal_fits (s := s.dropWindow k) (k := k) (kind := .entryCancelled)
      (content := [CancelReason.replaced.code]) fits
    rw [written, State.dropWindow, State.lane_setLane_same]
    rfl
  · rw [if_neg (fun any => live ((LaneRecord.windowLive_iff _).mpr any)), State.cancelWindow_quiet live, State.recorded_nil]
    rfl

/-- A BEGIN taken in an OPEN lane out of standby opens its window, and one that it replaces ends (R157, R158). -/
theorem State.beginTaken_opens (opened : (s.lane k).phase = .opened) (active : (s.lane k).standby = false)
    (fits : s.inFits k (s.lane k).replaced.flatten.length = true) :
    s.beginTaken k n bytes =
      (s.mapLane k fun r => { r with window := some (openedWindow bytes (s.unit n).lastAck) }).recorded k
        (s.lane k).replaced := by
  have dropped : ((s.dropWindow k).recorded k (s.lane k).replaced).lane k = { s.lane k with window := none } :=
    State.lane_setLane_same s k _
  rw [State.beginTaken, if_pos opened, if_neg (by simp [active])]
  dsimp only
  rw [State.written_replaced fits, dropped, if_pos opened]
  exact congrArg (State.recorded · k (s.lane k).replaced) (s.setLane_setLane k _ _)

theorem LaneRecord.entered_standby {r : LaneRecord} {fresh : Window} (begins : r.begins bytes) (standby : r.standby = true) :
    r.entered bytes fresh = { r with pinShadow := r.pinShadow || recordCode bytes == 6 } := by
  have same : decide (r.begins bytes ∧ r.standby = true ∧ recordCode bytes = 6) = decide (recordCode bytes = 6) :=
    decide_eq_decide.mpr ⟨fun all => all.2.2, fun code => ⟨begins, standby, code⟩⟩
  rw [LaneRecord.entered, if_pos begins, if_pos standby, same]
  rfl

theorem LaneRecord.entered_fresh {r : LaneRecord} {fresh : Window} (begins : r.begins bytes) (active : r.standby ≠ true) :
    r.entered bytes fresh = { r with window := some fresh } := by
  rw [LaneRecord.entered, if_pos begins, if_neg active, decide_eq_false fun both => active both.2.1, Bool.or_false]

theorem LaneRecord.entered_other {r : LaneRecord} {fresh : Window} (unbegun : ¬r.begins bytes) (other : recordCode bytes ≠ 7) :
    r.entered bytes fresh = r := by
  rw [LaneRecord.entered, if_neg unbegun, if_neg fun both => other both.1, decide_eq_false fun both => unbegun both.1,
    Bool.or_false]

/-- A BEGIN taken, in whatever phase (R153, R157, R158). -/
theorem State.beginTaken_eq (code : recordCode bytes = 5 ∨ recordCode bytes = 6)
    (fits : s.inFits k ((s.lane k).cancelled bytes).flatten.length = true) :
    s.beginTaken k n bytes =
      (s.mapLane k (LaneRecord.entered bytes (openedWindow bytes (s.unit n).lastAck))).recorded k
        ((s.lane k).cancelled bytes) := by
  have other : recordCode bytes ≠ 7 := by rcases code with code | code <;> rw [code] <;> decide
  rw [LaneRecord.cancelled] at fits ⊢
  by_cases opened : (s.lane k).phase = .opened
  · have begins : (s.lane k).begins bytes := ⟨opened, code⟩
    by_cases standby : (s.lane k).standby = true
    · rw [if_pos ⟨begins, standby⟩] at fits ⊢
      rw [State.beginTaken_standby opened standby fits, State.mapLane, State.mapLane,
        LaneRecord.entered_standby begins standby]
    · rw [if_neg fun both => standby both.2, if_pos begins] at fits ⊢
      rw [State.beginTaken_opens opened (by simpa using standby) fits, State.mapLane, State.mapLane,
        LaneRecord.entered_fresh begins standby]
  · have unbegun : ¬(s.lane k).begins bytes := fun begins => opened begins.1
    rw [State.beginTaken, if_neg opened, if_neg fun both => unbegun both.1, if_neg unbegun, State.recorded_nil, State.mapLane,
      LaneRecord.entered_other unbegun other, State.setLane_self]

/-- An UNLOCK taken ends a HELD window (R166). -/
theorem State.unlockTaken_eq {fresh : Window} (code : recordCode bytes = 7) :
    s.unlockTaken k = s.mapLane k (LaneRecord.entered bytes fresh) := by
  have unbegun : ¬(s.lane k).begins bytes := by rintro ⟨_, begin | begin⟩ <;> rw [code] at begin <;> cases begin
  rw [State.mapLane, LaneRecord.entered, if_neg unbegun, decide_eq_false fun both => unbegun both.1, Bool.or_false,
    State.unlockTaken]
  cases window : (s.lane k).window with
  | none =>
    have still : { s.lane k with window := none } = s.lane k := by rw [← window]
    rw [if_neg (by simp), still, State.setLane_self]
  | some w =>
    by_cases held : w.phase = .held
    · rw [if_pos ⟨code, by simp [held]⟩]
      exact if_pos held
    · have still : { s.lane k with window := some w } = s.lane k := by rw [← window]
      rw [if_neg (by simp [held]), still, State.setLane_self]
      exact if_neg held

/-- The window effect of a record taken (R151): what it cancels is written, and the lane's window and PIN shadow change. -/
theorem State.windowEffect_eq (fits : s.inFits k ((s.lane k).cancelled bytes).flatten.length = true) :
    s.windowEffect k n bytes =
      (s.mapLane k (LaneRecord.entered bytes (openedWindow bytes (s.unit n).lastAck))).recorded k
        ((s.lane k).cancelled bytes) := by
  by_cases amount : recordCode bytes = 5
  · rw [← State.beginTaken_eq (.inl amount) fits, State.windowEffect, amount]
    rfl
  by_cases pin : recordCode bytes = 6
  · rw [← State.beginTaken_eq (.inr pin) fits, State.windowEffect, pin]
    rfl
  have unbegun : ¬(s.lane k).begins bytes := by rintro ⟨_, begin | begin⟩ <;> contradiction
  have quiet : (s.lane k).cancelled bytes = [] := by
    rw [LaneRecord.cancelled, if_neg fun both => unbegun both.1, if_neg unbegun]
  rw [quiet, State.recorded_nil]
  by_cases unlock : recordCode bytes = 7
  · rw [← State.unlockTaken_eq unlock, State.windowEffect, unlock]
    rfl
  · rw [State.mapLane, LaneRecord.entered_other unbegun unlock, State.setLane_self, State.windowEffect]
    split
    · next code => exact absurd (BitVec.eq_of_toNat_eq code) amount
    · next code => exact absurd (BitVec.eq_of_toNat_eq code) pin
    · next code => exact absurd (BitVec.eq_of_toNat_eq code) unlock
    · rfl

/-- The DELIVERED record of a record taken, where it was asked for (R151). -/
def LaneRecord.delivered (r : LaneRecord) (bytes : List Byte) (n : SlotNo) (attempts : Nat) : List (List Byte) :=
  if recordReport bytes then
    [[8, 0x0E, hiByte r.tag, loByte r.tag, recordCode bytes, recordRole bytes, byteOf n.val, byteOf attempts]]
  else []

/-- A record taken: what it cancels is written first, and is selected before DELIVERED where that is at once (R13, R151). -/
theorem State.recordTaken_eq {attempts : Nat}
    (fits : s.inFits k ((s.lane k).cancelled bytes ++ (s.lane k).delivered bytes n attempts).flatten.length = true) :
    s.recordTaken k n bytes attempts =
      ((s.atOnce (s.recorded k ((s.lane k).cancelled bytes))).mapLane k
        (LaneRecord.entered bytes (openedWindow bytes (s.unit n).lastAck))).recorded k
        ((s.lane k).delivered bytes n attempts) := by
  have room := of_decide_eq_true fits
  rw [List.flatten_append, List.length_append] at room
  have effect := s.windowEffect_eq (n := n) (bytes := bytes) (k := k) (decide_eq_true (by omega))
  have once : s.atOnce (s.windowEffect k n bytes) =
      (s.atOnce (s.recorded k ((s.lane k).cancelled bytes))).mapLane k
        (LaneRecord.entered bytes (openedWindow bytes (s.unit n).lastAck)) := by
    rw [effect, ← State.atOnce_mapLane _ _ _ (sparesAlerts_entered _ _)]
    rfl
  rw [State.recordTaken, once]
  rw [LaneRecord.delivered] at room ⊢
  by_cases report : recordReport bytes = true
  · rw [if_pos report] at room ⊢
    rw [if_pos report]
    obtain ⟨queue, link, choices, selected, shorter⟩ := s.atOnce_recorded k ((s.lane k).cancelled bytes)
    have fits : ((s.atOnce (s.recorded k ((s.lane k).cancelled bytes))).mapLane k
        (LaneRecord.entered bytes (openedWindow bytes (s.unit n).lastAck))).inFits k 8 = true := by
      have occupancy : ((s.atOnce (s.recorded k ((s.lane k).cancelled bytes))).mapLane k
          (LaneRecord.entered bytes (openedWindow bytes (s.unit n).lastAck))).inOccupancy k ≤
            s.inOccupancy k + ((s.lane k).cancelled bytes).flatten.length := by
        rw [selected]
        simpa [State.inOccupancy, State.inQueue, State.mapLane, State.setLane] using shorter
      have capacity : ((s.atOnce (s.recorded k ((s.lane k).cancelled bytes))).mapLane k
          (LaneRecord.entered bytes (openedWindow bytes (s.unit n).lastAck))).inCapacity k = s.inCapacity k := by
        rw [selected]
        rfl
      refine decide_eq_true ?_
      simp only [List.flatten_cons, List.flatten_nil, List.length_append, List.length_cons, List.length_nil] at room
      omega
    rw [State.report_fits (by exact fits), State.lane_mapLane, selected]
    rfl
  · rw [if_neg report, if_neg report, State.recorded_nil]

end

/-! ### A record reported TAKEN by a trusted slot -/

theorem State.atOnce_withoutHead (before s : State) (k : LaneNo) (more : List OutRecord) :
    before.atOnce (s.withoutHead k more) = (before.atOnce s).withoutHead k more := by
  obtain ⟨tables, units, engines, _⟩ := before.atOnce_frame s
  have bound : (before.atOnce s).bound k = s.bound k := by
    funext n
    rw [State.bound, State.record_of tables]
    rfl
  have outbound : (before.atOnce s).outbound = s.outbound := by
    have same := before.atOnce_outbound s s.outbound
    rw [same]
  have left : (before.atOnce s).withoutHead k more =
      State.running { before.atOnce s with outbound := s.outbound.set k more }
        (s.withoutHead k more).units s.engines := by
    rw [State.withoutHead, bound, outbound, ← engines]
    simp only [before.atOnce_unit]
    rfl
  rw [left, ← State.atOnce_outbound]
  exact before.atOnce_running { s with outbound := s.outbound.set k more } before.units (s.withoutHead k more).units
    before.engines s.engines

theorem State.recorded_guardedAs (s : State) (l : Line) (x : Exchange) (t : State) (u : UnitRun) (k : LaneNo)
    (records : List (List Byte)) :
    (s.guardedAs l x t u).recorded k records = s.guardedAs l x (t.recorded k records) u := rfl

theorem State.mapLane_guardedAs (s : State) (l : Line) (x : Exchange) (t : State) (u : UnitRun) (k : LaneNo)
    (f : LaneRecord → LaneRecord) : (s.guardedAs l x t u).mapLane k f = s.guardedAs l x (t.mapLane k f) u := rfl

theorem State.recorded_mapLane (s : State) (k : LaneNo) (f : LaneRecord → LaneRecord) (records : List (List Byte)) :
    (s.mapLane k f).recorded k records = (s.recorded k records).mapLane k f := rfl

theorem State.recorded_withoutHead (s : State) (k : LaneNo) (more : List OutRecord) (records : List (List Byte)) :
    (s.withoutHead k more).recorded k records = (s.recorded k records).withoutHead k more := rfl

theorem LaneRecord.takenBy_cancelled (kind : UnitKind) (r : LaneRecord) (bytes : List Byte) :
    (r.takenBy kind).cancelled bytes = r.cancelled bytes := by
  obtain ⟨_, same⟩ := r.takenBy_frame kind
  rw [same]
  rfl

theorem LaneRecord.takenBy_delivered (kind : UnitKind) (r : LaneRecord) (bytes : List Byte) (n : SlotNo) (attempts : Nat) :
    (r.takenBy kind).delivered bytes n attempts = r.delivered bytes n attempts := by
  obtain ⟨_, same⟩ := r.takenBy_frame kind
  rw [same]
  rfl

theorem sparesAlerts_takenBy (kind : UnitKind) : SparesAlerts (LaneRecord.takenBy kind) := by
  intro r alerts
  by_cases reader : kind = .reader <;> simp [LaneRecord.takenBy, reader]

section

variable {s : State} {l : Line} {x : Exchange} {r : OutRecord} {more : List OutRecord} {k : LaneNo}

/-- A record taken: it leaves its queue, a keypad clears the PIN shadow, and then the lane is told (R80, R151, R168). -/
theorem State.AwaitsTrusted.settleTaken_record (h : s.AwaitsTrusted l x) (at_lane : (s.record x.slot).lane = k)
    (head : s.outQueue k = r :: more)
    (fits : s.inFits k ((s.lane k).cancelled r.bytes ++
      (s.lane k).delivered r.bytes x.slot (s.unit x.slot).headAttempts).flatten.length = true) :
    (s.counted l x).settleTaken x.slot (.record k r.serial) =
      s.guardedAs l x
        ((((s.atOnce (s.recorded k ((s.lane k).cancelled r.bytes))).withoutHead k more).mapLane k fun q =>
            (q.takenBy (s.record x.slot).kind).entered r.bytes (openedWindow r.bytes (s.unit x.slot).lastAck)).recorded k
          ((s.lane k).delivered r.bytes x.slot (s.unit x.slot).headAttempts))
        { (s.unit x.slot).took with headAttempts := 0 } := by
  have bound : s.bound k x.slot = true := by simp [State.bound, h.enabled, at_lane]
  have queue : (s.counted l x).outQueue k = r :: more := head
  have flippedQueue : (s.guardedAs l x s (s.unit x.slot).took).outQueue k = r :: more := head
  have took : (s.guardedAs l x s (s.unit x.slot).took).takeItem x.slot (.record k r.serial) =
      (s.guardedAs l x ((s.withoutHead k more).mapLane k (LaneRecord.takenBy (s.record x.slot).kind))
        { (s.unit x.slot).took with headAttempts := 0 }).recordTaken k x.slot r.bytes (s.unit x.slot).headAttempts := by
    rw [State.takeItem, flippedQueue, List.head?_cons, State.guardedAs_unit, State.dropHead_eq flippedQueue,
      State.withoutHead_guardedAs s l x bound]
    dsimp only
    rw [State.keypadTook_eq (k := k)]
    · rfl
    · exact h.enabled
    · exact at_lane
  have lane : (s.guardedAs l x ((s.withoutHead k more).mapLane k (LaneRecord.takenBy (s.record x.slot).kind))
      { (s.unit x.slot).took with headAttempts := 0 }).lane k = (s.lane k).takenBy (s.record x.slot).kind :=
    s.lane_mapLane k _
  rw [State.settleTaken, State.itemPending_record queue, if_pos rfl, State.counted_unit, State.counted_setUnit]
  refine took.trans ?_
  rw [State.recordTaken_eq (by rw [lane, LaneRecord.takenBy_cancelled, LaneRecord.takenBy_delivered]; exact fits), lane,
    LaneRecord.takenBy_cancelled, LaneRecord.takenBy_delivered]
  have once : (s.guardedAs l x ((s.withoutHead k more).mapLane k (LaneRecord.takenBy (s.record x.slot).kind))
        { (s.unit x.slot).took with headAttempts := 0 }).atOnce
      ((s.guardedAs l x ((s.withoutHead k more).mapLane k (LaneRecord.takenBy (s.record x.slot).kind))
        { (s.unit x.slot).took with headAttempts := 0 }).recorded k ((s.lane k).cancelled r.bytes)) =
      s.guardedAs l x (((s.atOnce (s.recorded k ((s.lane k).cancelled r.bytes))).withoutHead k more).mapLane k
        (LaneRecord.takenBy (s.record x.slot).kind)) { (s.unit x.slot).took with headAttempts := 0 } := by
    have candidates : (s.withoutHead k more).candidates = s.candidates := State.candidates_congr rfl rfl rfl rfl rfl
    rw [State.recorded_guardedAs, State.recorded_mapLane, State.recorded_withoutHead, State.atOnce_guardedAs,
      State.atOnce_mapLane _ _ _ (sparesAlerts_takenBy _), State.atOnce_withoutHead,
      State.atOnce_before ((State.candidates_guardedAs _ _ _ _ _).trans
        ((State.candidates_mapLane _ _ (sparesAlerts_takenBy _)).trans candidates))]
  rw [once, State.mapLane_guardedAs, State.recorded_guardedAs, State.mapLane_mapLane, State.guardedAs_unit]
  rfl

theorem LaneRecord.takenBy_entered_phase (kind : UnitKind) (q : LaneRecord) (bytes : List Byte) (fresh : Window) :
    ((q.takenBy kind).entered bytes fresh).phase = q.phase := q.takenBy_phase kind

/-- A lane entered, once a unit of a kind has taken the record. -/
theorem LaneRecord.takenBy_entered (kind : UnitKind) (q : LaneRecord) (bytes : List Byte) (fresh : Window) :
    (q.takenBy kind).entered bytes fresh =
      { q.takenBy kind with
        window :=
          if q.begins bytes then (if q.standby then q.window else some fresh)
          else if recordCode bytes = 7 ∧ (q.window.any fun w => decide (w.phase = .held)) = true then none
          else q.window
        pinShadow :=
          (q.takenBy kind).pinShadow || decide (q.begins bytes ∧ q.standby = true ∧ recordCode bytes = 6) } := by
  obtain ⟨_, same⟩ := q.takenBy_frame kind
  rw [same]
  rfl

/-- REPLY that reports a record TAKEN. -/
theorem State.AwaitsTrusted.exec_takenRecord (h : s.AwaitsTrusted l x) (reports : s.Reports x (.record k r.serial))
    (at_lane : (s.record x.slot).lane = k) (head : s.outQueue k = r :: more) (stays : (s.lane k).phase ≠ .closing)
    (fits : s.inFits k ((s.lane k).cancelled r.bytes ++
      (s.lane k).delivered r.bytes x.slot (s.unit x.slot).headAttempts).flatten.length = true) :
    exec (.reply l (x.answer .idle false true false [])) s =
      s.repliedAs l x
        ((((s.atOnce (s.recorded k ((s.lane k).cancelled r.bytes))).withoutHead k more).setLane k
            (((s.lane k).takenBy (s.record x.slot).kind).entered r.bytes
              (openedWindow r.bytes (s.unit x.slot).lastAck))).recorded k
          ((s.lane k).delivered r.bytes x.slot (s.unit x.slot).headAttempts))
        (UnitRun.reported { (s.unit x.slot).took with headAttempts := 0 } x.kind) := by
  obtain ⟨tables, _⟩ := s.atOnce_frame (s.recorded k ((s.lane k).cancelled r.bytes))
  obtain ⟨queue, link, choices, selected, _⟩ := s.atOnce_recorded k ((s.lane k).cancelled r.bytes)
  have lane : ((s.atOnce (s.recorded k ((s.lane k).cancelled r.bytes))).withoutHead k more).lane k = s.lane k := by
    rw [selected]
    rfl
  have taken := h.settleTaken_record at_lane head fits
  rw [State.mapLane, lane] at taken
  refine h.exec_taken reports (taken.trans (State.atOnce_self _).symm) tables ?_
  subst at_lane
  have phase := congrArg LaneRecord.phase
    (((s.atOnce (s.recorded (s.record x.slot).lane ((s.lane (s.record x.slot).lane).cancelled r.bytes))).withoutHead
      (s.record x.slot).lane more).lane_setLane_same (s.record x.slot).lane
        (((s.lane (s.record x.slot).lane).takenBy (s.record x.slot).kind).entered r.bytes
          (openedWindow r.bytes (s.unit x.slot).lastAck)))
  rw [LaneRecord.takenBy_entered_phase] at phase
  exact fun closing => stays (phase.symm.trans closing)

end

end Sys2Proof.Machine


end

section
namespace Sys2Proof.Proofs

open Sys2Proof.Machine

/-- Settles O48: by the item that is taken, and what its lane makes of it. -/
theorem takenItemsMoveTheLane : Obligations.TakenItemsMoveTheLane := by
  unfold Obligations.TakenItemsMoveTheLane
  intro s l x it d p r more e n u k lane answer valid guarding after kept exchange awaits rest low empty alone
    tuned new trusted enabled addressed reports
  have h : s.AwaitsTrusted l x :=
    ⟨⟨exchange, awaits, rest, low, empty, tuned⟩, alone, new, State.trusted_iff.mpr trusted, enabled, addressed⟩
  have sent : answer = x.answer .idle false true false [] := rfl
  have same (q : LaneRecord) (v : UnitRun) : after s q [] v = s.repliedAs l x (s.setLane k q) v := by
    show s.repliedAs l x ((s.recorded k []).setLane k q) v = _
    rw [State.recorded_nil]
  rw [sent]
  refine ⟨fun gone stays => ?_, ?_, ?_⟩
  · rw [same, h.exec_takenLate reports gone stays, State.setLane_self]
    rfl
  · rintro rfl present left woken
    refine ⟨fun stays unwoken => ?_, ?_, ?_⟩
    · rw [same, h.exec_takenDirective reports present stays unwoken]
      rfl
    · rintro rfl opening
      refine ⟨fun unwoken => ?_, fun all fits => ?_⟩
      · rw [same, h.exec_takenWake reports present opening unwoken, State.mapLane, LaneRecord.takenBy_woken]
        rfl
      · rw [h.exec_takenLastWake reports present opening all fits]
        rfl
    · rintro rfl closing own due
      rw [same, h.exec_takenRest reports present closing own due, State.mapLane, LaneRecord.takenBy_counting]
      rfl
  · rintro rfl head stays code flags first begins live held fresh cancelled firstRecords delivered fits base
    have liveSame : live = lane.window.any fun w => w.phase.live := by
      cases window : lane.window <;> simp [live, window, WindowPhase.live_eq]
    have heldSame : held = lane.window.any fun w => decide (w.phase = .held) := by
      cases window : lane.window <;> simp [held, window]
    have marked : fresh.carryOver = carryOverOf u.lastAck := by
      cases last : u.lastAck with
      | none => simp [fresh, last, carryOverOf]
      | given verdict seq => cases verdict <;> simp [fresh, last, carryOverOf]
    have freshSame : openedWindow r.bytes (s.unit x.slot).lastAck = fresh := by
      rw [openedWindow_eq]
      exact congrArg (fun mark => { fresh with carryOver := mark }) marked.symm
    have firstSame : firstRecords = lane.cancelled r.bytes := by
      rw [LaneRecord.cancelled_eq, ← liveSame]
      rfl
    have enteredSame := lane.takenBy_entered (s.record x.slot).kind r.bytes fresh
    rw [← heldSame] at enteredSame
    obtain ⟨queue, link, choices, selected, _⟩ := s.atOnce_recorded k firstRecords
    have baseSame : base = _ := selected
    rw [h.exec_takenRecord reports rfl head stays (by rw [← firstSame]; exact fits), freshSame, enteredSame, ← firstSame, baseSame, selected]
    rfl

end Sys2Proof.Proofs
end

section
/-! SUPPORT. Replies to a POLL of a trusted slot without doubt: acknowledgement, sequence, and what the lane makes of a new
one (R74, R75, R76). What a lane takes has nothing to do with the engines. -/

namespace Sys2Proof.Machine

/-! ### A reply taken, and the engines (R76) -/

/-- A reply taken in a part in which one engine is another. -/
def Taking.withEngine (t : Taking) (l : Line) (e : Engine) : Taking := ⟨t.verdict, t.after.setEngine l e⟩

section

variable (s : State) (l : Line) (e : Engine) (k : LaneNo) (n : SlotNo)

theorem State.acceptWith_setEngine (record : Option (List Byte)) {changed : State → State}
    (commutes : changed (s.setEngine l e) = (changed s).setEngine l e) :
    (s.setEngine l e).acceptWith k record changed = (s.acceptWith k record changed).withEngine l e := by
  cases record with
  | none => exact congrArg (Taking.mk .accept) commutes
  | some r =>
    have fits : (s.setEngine l e).inFits k r.length = s.inFits k r.length := rfl
    rw [State.acceptWith, State.acceptWith, fits, commutes]
    cases s.inFits k r.length <;> rfl

theorem State.laneCall_setEngine (cause : Byte) :
    (s.setEngine l e).laneCall k cause = (s.laneCall k cause).withEngine l e := by
  rw [State.laneCall, State.laneCall, State.lane_setEngine]
  cases (s.lane k).callLatch
  · rw [if_neg (by decide), if_neg (by decide)]
    exact s.acceptWith_setEngine l e k _ (by rfl)
  · rfl

theorem State.openKeys_setEngine (keys : List LogicalKey) :
    (s.setEngine l e).openKeys k n keys = (s.openKeys k n keys).withEngine l e := by
  rw [State.openKeys, State.openKeys, State.lane_setEngine]
  by_cases none : keys = []
  · rw [if_pos none, if_pos none]
    rfl
  · rw [if_neg none, if_neg none]
    cases (s.lane k).window with
    | none =>
      cases (s.lane k).pinShadow
      · simp only [Bool.false_eq_true, if_false]
        exact s.acceptWith_setEngine l e k _ (by rfl)
      · rfl
    | some w =>
      obtain ⟨phase, what, chain, carryOver⟩ := w
      cases phase with
      | collecting =>
        simp only [State.collectKeys, State.lane_setEngine]
        cases what <;> exact s.acceptWith_setEngine l e k _ (by rfl)
      | awaitBlock | shutting | held => rfl

theorem State.takeKeys_setEngine (marked : Bool) (raws : List Byte) :
    (s.setEngine l e).takeKeys k n marked raws = (s.takeKeys k n marked raws).withEngine l e := by
  rw [State.takeKeys, State.takeKeys, State.lane_setEngine, State.record_setEngine]
  cases (s.lane k).phase with
  | closed => exact s.laneCall_setEngine l e k 1
  | opened =>
    cases (s.record n).kind.keypad
    · rfl
    · by_cases discarded : (s.lane k).standby = true ∨ marked = true
      · simp only [if_pos discarded, if_true]
        rfl
      · simp only [if_neg discarded, if_true]
        exact s.openKeys_setEngine l e k n _
  | opening | closing | faulted => rfl

theorem State.takeFragment_setEngine (flags : Byte) (chars : List Byte) :
    (s.setEngine l e).takeFragment k n flags chars = (s.takeFragment k n flags chars).withEngine l e := by
  rw [State.takeFragment, State.takeFragment, State.lane_setEngine]
  cases fragmentEffect (s.lane k).assembly flags chars with
  | ends status a discarded => exact s.acceptWith_setEngine l e k _ (by rfl)
  | ignored | waits a discarded => rfl

theorem State.takeCard_setEngine (payload : List Byte) :
    (s.setEngine l e).takeCard k n payload = (s.takeCard k n payload).withEngine l e := by
  rw [State.takeCard, State.takeCard, State.lane_setEngine, State.record_setEngine]
  cases (s.lane k).phase with
  | closed => exact s.laneCall_setEngine l e k 2
  | opening => cases (s.lane k).standby <;> rfl
  | opened =>
    cases (s.lane k).standby
    · cases (s.lane k).decision.isSome
      · cases (s.record n).kind.cardReader
        · rfl
        · exact s.takeFragment_setEngine l e k n _ _
      · rfl
    · rfl
  | closing | faulted => rfl

theorem State.takeBlock_setEngine (block : List Byte) :
    (s.setEngine l e).takeBlock k n block = (s.takeBlock k n block).withEngine l e := by
  rw [State.takeBlock, State.takeBlock, State.lane_setEngine]
  cases (s.lane k).phase with
  | opened =>
    show (s.setEngine l e).openBlock k n block = (s.openBlock k n block).withEngine l e
    rw [State.openBlock, State.openBlock, State.lane_setEngine, State.record_setEngine]
    cases (s.lane k).window with
    | none => rfl
    | some w =>
      obtain ⟨phase, what, chain, carryOver⟩ := w
      cases what with
      | amount => rfl
      | pin =>
        cases phase with
        | awaitBlock =>
          cases (s.record n).kind.keypad
          · rfl
          · simp only [if_true]
            exact s.acceptWith_setEngine l e k _ (by rfl)
        | collecting | shutting | held => rfl
  | closed | opening | closing | faulted => rfl

/-! ### A STATUS reply (R110, R112) -/

theorem State.setDirective_setEngine (d : Directive) :
    (s.setEngine l e).setDirective n d = (s.setDirective n d).setEngine l e := by
  rw [State.setDirective, State.setDirective, State.unit_setEngine, apply_ite (State.setEngine · l e)]
  rfl

theorem State.setLane_setEngine (r : LaneRecord) :
    (s.setEngine l e).setLane k r = (s.setLane k r).setEngine l e := rfl

theorem State.setUnit_setEngine (u : UnitRun) :
    (s.setEngine l e).setUnit n u = (s.setUnit n u).setEngine l e := rfl

theorem State.faultDecision_setEngine : (s.setEngine l e).faultDecision k = (s.faultDecision k).setEngine l e := by
  have reader : (s.setEngine l e).readerOf k = s.readerOf k := rfl
  rw [State.faultDecision, State.faultDecision, State.lane_setEngine, reader]
  cases (s.lane k).decision.isNone with
  | true => rfl
  | false =>
    cases s.readerOf k with
    | none => rfl
    | some m =>
      have trusts : (s.setEngine l e).trusted m = s.trusted m := rfl
      simp only [trusts]
      cases s.trusted m with
      | true => exact (s.dropDecision k).setDirective_setEngine l e m .eject
      | false => rfl

theorem State.faultLane_setEngine (reason : FaultReason) :
    (s.setEngine l e).faultLane k reason = (s.faultLane k reason).setEngine l e := by
  rw [State.faultLane, State.faultLane, State.enterFaulted, State.enterFaulted, State.lane_setEngine,
    State.setLane_setEngine, State.faultDecision_setEngine]
  rfl

/-- A restart in a lane that is not CLOSING. -/
theorem State.laneUnitRestart_setEngine (stays : (s.lane k).phase ≠ .closing) :
    (s.setEngine l e).laneUnitRestart k n = (s.laneUnitRestart k n).setEngine l e := by
  rw [State.laneUnitRestart, State.laneUnitRestart, State.lane_setEngine]
  cases phase : (s.lane k).phase with
  | opening | opened => exact s.faultLane_setEngine l e k .unitRestart
  | closing => exact absurd phase stays
  | faulted | closed => rfl

/-- What a STATUS reply does to its slot, outside CLOSING. -/
theorem State.applyStatus_setEngine (enabled : (s.record n).enabled = true) (at_lane : (s.record n).lane = k)
    (stays : (s.lane k).phase ≠ .closing) (effect : StatusEffect) :
    (s.setEngine l e).applyStatus n effect = (s.applyStatus n effect).setEngine l e := by
  subst at_lane
  cases effect with
  | restart =>
    have lane (t : State) (tables : t.tables = s.tables) : t.currentLane n = some (s.record n).lane := by
      rw [← State.record_of tables] at enabled ⊢
      exact State.currentLane_enabled enabled
    simp only [State.applyStatus, State.restartDetected, State.unit_setEngine, State.setUnit_setEngine,
      lane (State.setUnit s n _) rfl, lane (State.setEngine (State.setUnit s n _) l e) rfl]
    exact State.laneUnitRestart_setEngine (s.setUnit n _) l e (s.record n).lane n stays
  | baseline | unchanged | adopted | noted => rfl

theorem State.takeStatus_setEngine (enabled : (s.record n).enabled = true) (at_lane : (s.record n).lane = k)
    (stays : (s.lane k).phase ≠ .closing) (b : Byte) :
    (s.setEngine l e).takeStatus k n b = (s.takeStatus k n b).withEngine l e := by
  have commutes := s.applyStatus_setEngine l e k n enabled at_lane stays
    (statusEffect (s.unit n).baseline (s.unit n).pendingFlags b)
  rw [State.takeStatus, State.takeStatus, State.lane_setEngine, State.unit_setEngine]
  by_cases faulted : (s.lane k).phase = .faulted
  · simp only [if_pos faulted]
    exact congrArg (Taking.mk .refuse) commutes
  · simp only [if_neg faulted]
    exact s.acceptWith_setEngine l e k _ commutes

/-- What a lane that is not CLOSING takes of a data reply has nothing to do with the engines. -/
theorem State.takeData_setEngine (enabled : (s.record n).enabled = true) (at_lane : (s.record n).lane = k)
    (stays : (s.lane k).phase ≠ .closing) (r : Reply) :
    (s.setEngine l e).takeData k n r = (s.takeData k n r).withEngine l e := by
  have mark : (s.setEngine l e).markMet k n = s.markMet k n := rfl
  have dropped : (s.setEngine l e).unmarked k n = (s.unmarked k n).setEngine l e := by
    rw [State.unmarked_eq, State.unmarked_eq]
    rfl
  obtain ⟨kind, seq, taken, busy, payload⟩ := r
  cases kind with
  | idle => exact congrArg (Taking.mk .accept) dropped
  | keys =>
    rw [State.takeData_keys, State.takeData_keys, dropped]
    exact State.takeKeys_setEngine _ l e k n _ _
  | card =>
    rw [State.takeData_card, State.takeData_card, dropped]
    exact State.takeCard_setEngine _ l e k n _
  | status =>
    have taken : (s.setEngine l e).takeData k n ⟨.status, seq, taken, busy, payload⟩ =
      ((s.setEngine l e).unmarked k n).takeStatus k n (payload.headD 0) := rfl
    rw [taken, dropped]
    refine State.takeStatus_setEngine _ l e k n ?_ ?_ ?_ _ <;> rw [State.unmarked_eq]
    · exact enabled
    · exact at_lane
    · rw [State.lane_setLane_same]
      exact stays
  | pinBlock =>
    rw [State.takeData_pinBlock, State.takeData_pinBlock, dropped]
    exact State.takeBlock_setEngine _ l e k n _

end

/-! ### The lane goes on in service (R76, R146) -/

section

variable {s : State} {k : LaneNo} {n : SlotNo}

theorem State.faultLane_phase (s : State) (k : LaneNo) (reason : FaultReason) :
    ((s.faultLane k reason).lane k).phase = .faulted := by
  have lane := congrArg (·[k]) (State.faultDecision_lanes
    (s.setLane k { s.lane k with
      phase := .faulted, standby := false, wakeMarks := [], confirms := [], window := none, assembly := none
      pinShadow := false }) k)
  simp only [Fin.getElem_fin, Vector.getElem_set_self, State.lane_setLane_same] at lane
  rw [State.faultLane, State.raiseAlert, State.lane_setLane_same]
  exact congrArg LaneRecord.phase lane

theorem State.applyStatus_stays (enabled : (s.record n).enabled = true) (at_lane : (s.record n).lane = k)
    (stays : (s.lane k).phase ≠ .closing) (effect : StatusEffect) :
    ((s.applyStatus n effect).lane k).phase ≠ .closing := by
  subst at_lane
  cases effect with
  | restart =>
    have lane (u : UnitRun) : (s.setUnit n u).currentLane n = some (s.record n).lane := State.currentLane_enabled enabled
    simp only [State.applyStatus, State.restartDetected, lane, State.laneUnitRestart, State.lane_setUnit]
    cases phase : (s.lane (s.record n).lane).phase with
    | opening | opened =>
      simp only [State.faultLane_phase]
      exact nofun
    | closing => exact absurd phase stays
    | faulted | closed => exact stays
  | baseline | unchanged | adopted | noted => exact stays

/-- What holds of a part before a reply and after its changes holds when it is taken, stored or held. -/
theorem State.acceptWith_after {P : State → Prop} {record : Option (List Byte)} {changed : State → State} (before : P s)
    (after : P (changed s)) (stored : ∀ t r, P t → P (t.storeIn k r)) : P (s.acceptWith k record changed).after := by
  rcases s.acceptWith_cases k record changed with ⟨_, same⟩ | ⟨r, _, _, same⟩ | ⟨r, _, _, same⟩ <;> rw [same]
  · exact after
  · exact stored _ _ after
  · exact before

theorem State.takeData_ofIdle {r : Reply} (idle : r.kind = .idle) : s.takeData k n r = ⟨.accept, s.unmarked k n⟩ := by
  rw [State.takeData, idle]
  rfl

theorem State.takeData_ofStatus {r : Reply} (status : r.kind = .status) :
    s.takeData k n r = (s.unmarked k n).takeStatus k n (r.payload.headD 0) := by
  rw [State.takeData, status]
  rfl

/-- No data reply moves its lane into CLOSING. -/
theorem State.takeData_stays (enabled : (s.record n).enabled = true) (at_lane : (s.record n).lane = k)
    (stays : (s.lane k).phase ≠ .closing) (r : Reply) : ((s.takeData k n r).after.lane k).phase ≠ .closing := by
  have unmarked : ((s.unmarked k n).lane k).phase = (s.lane k).phase := by rw [State.unmarked_lane]; rfl
  by_cases idle : r.kind = .idle
  · rw [State.takeData_ofIdle idle, unmarked]
    exact stays
  by_cases status : r.kind = .status
  · have kept := State.applyStatus_stays (s := s.unmarked k n) (n := n) (k := k) (by rw [State.unmarked_eq]; exact enabled)
      (by rw [State.unmarked_eq]; exact at_lane) (unmarked ▸ stays)
    rw [State.takeData_ofStatus status, State.takeStatus]
    split
    · exact kept _
    · exact State.acceptWith_after (P := fun t => (t.lane k).phase ≠ .closing) (unmarked ▸ stays) (kept _)
        fun _ _ same => same
  · rw [(State.TakesWhole.takeData s k n idle status).phase, unmarked]
    exact stays

end

/-! ### Sequence bits (R75) -/

theorem State.setDirective_bits (s : State) (n : SlotNo) (d : Directive) (m : SlotNo) :
    ((s.setDirective n d).unit m).e = (s.unit m).e := by
  rw [State.setDirective]
  split
  · rfl
  · refine Eq.trans (b := ((s.setUnit n { s.unit n with directives := (s.unit n).directives.join d ⟨0, s.serial⟩ }).unit m).e)
      rfl ?_
    rw [State.unit_setUnit]
    split
    · next same => rw [same]
    · rfl

theorem State.faultLane_bits (s : State) (k : LaneNo) (reason : FaultReason) (m : SlotNo) :
    ((s.faultLane k reason).unit m).e = (s.unit m).e := by
  rw [State.faultLane]
  refine Eq.trans (b := ((s.enterFaulted k).unit m).e) rfl ?_
  rw [State.enterFaulted, State.faultDecision]
  split
  · rfl
  · split
    · rfl
    · split
      · exact State.setDirective_bits _ _ _ m
      · rfl

theorem State.applyStatus_bits {s : State} {k : LaneNo} {n : SlotNo} (enabled : (s.record n).enabled = true)
    (at_lane : (s.record n).lane = k) (stays : (s.lane k).phase ≠ .closing) (effect : StatusEffect) (m : SlotNo) :
    ((s.applyStatus n effect).unit m).e = (s.unit m).e := by
  subst at_lane
  have own (u : UnitRun) (same : u.e = (s.unit n).e) : ((s.setUnit n u).unit m).e = (s.unit m).e := by
    rw [State.unit_setUnit]
    split
    · next equal => rw [same, equal]
    · rfl
  cases effect with
  | restart =>
    have lane (u : UnitRun) : (s.setUnit n u).currentLane n = some (s.record n).lane := State.currentLane_enabled enabled
    simp only [State.applyStatus, State.restartDetected, lane, State.laneUnitRestart, State.lane_setUnit]
    cases phase : (s.lane (s.record n).lane).phase with
    | opening | opened =>
      simp only [State.faultLane_bits]
      exact own _ rfl
    | closing => exact absurd phase stays
    | faulted | closed => exact own _ rfl
  | baseline | unchanged | adopted | noted => exact own _ rfl

/-- No data reply changes a sequence bit before its verdict does (R75). -/
theorem State.takeData_bits {s : State} {k : LaneNo} {n : SlotNo} (enabled : (s.record n).enabled = true)
    (at_lane : (s.record n).lane = k) (stays : (s.lane k).phase ≠ .closing) (r : Reply) (m : SlotNo) :
    ((s.takeData k n r).after.unit m).e = (s.unit m).e := by
  have phase : ((s.unmarked k n).lane k).phase = (s.lane k).phase := by rw [State.unmarked_lane]; rfl
  have unmarked : ((s.unmarked k n).unit m).e = (s.unit m).e := by rw [State.unmarked_eq]; rfl
  by_cases idle : r.kind = .idle
  · rw [State.takeData_ofIdle idle, unmarked]
  by_cases status : r.kind = .status
  · have kept := State.applyStatus_bits (s := s.unmarked k n) (n := n) (k := k) (by rw [State.unmarked_eq]; exact enabled)
      (by rw [State.unmarked_eq]; exact at_lane) (phase ▸ stays) (m := m)
    rw [State.takeData_ofStatus status, State.takeStatus]
    split
    · exact (kept _).trans unmarked
    · exact State.acceptWith_after (P := fun t => (t.unit m).e = (s.unit m).e) unmarked ((kept _).trans unmarked)
        fun _ _ same => same
  · rw [(State.TakesWhole.takeData s k n idle status).bits, unmarked]

/-! ### Replies to a POLL (R74, R75) -/

section

variable {s : State} {l : Line} {x : Exchange} {kind : ReplyKind} {seq : Bool} {payload : List Byte}

theorem State.confirmMove_still {k : LaneNo} {n : SlotNo} {f : Confirmation → Confirmation}
    (stays : (s.lane k).phase ≠ .closing) : s.confirmMove k n f = s := if_neg stays

/-- A VALID reply to a POLL or SHUT of a trusted slot without doubt settles nothing, and is handled (R71, R82). -/
theorem State.AwaitsTrusted.handleOutcome_sure (h : s.AwaitsTrusted l x) (asks : x.kind = .poll ∨ x.kind = .shut)
    (sure : (s.unit x.slot).doubt = none) (r : Reply) :
    (s.setEngine l (s.engine l).answered.calmed).handleOutcome x (.valid r) =
      (s.counted l x).handleReply x.slot x.kind r := by
  have settled : (s.counted l x).settleItems x (.valid r) true = s.counted l x := by
    have doubt : (s.unit x.slot).validated.doubt = none := sure
    rcases asks with kind | kind <;> simp [State.settleItems, kind, State.settleDoubt, doubt]
  have once := (s.setEngine l (s.engine l).answered.calmed).atOnce_setUnit x.slot (s.unit x.slot).validated
  rw [State.handleOutcome_valid (by exact h.trusted) (by rcases asks with kind | kind <;> rw [kind] <;> nofun)]
  refine Eq.trans (congrArg (fun t => State.handleReply (State.atOnce _ t) _ _ _) settled) ?_
  exact congrArg (fun t => State.handleReply t _ _ _) once

/-- A VALID reply to a POLL of a trusted slot without doubt is handled by its kind (R71, R74). -/
theorem State.AwaitsTrusted.handleOutcome_polled (h : s.AwaitsTrusted l x) (poll : x.kind = .poll)
    (sure : (s.unit x.slot).doubt = none) (r : Reply) :
    (s.setEngine l (s.engine l).answered.calmed).handleOutcome x (.valid r) =
      (s.counted l x).handleKind (s.record x.slot).lane x.slot r := by
  rw [h.handleOutcome_sure (.inl poll) sure]
  exact State.handleReply_unshut (by exact h.enabled) (by rw [poll]; nofun)

/-- REPLY of a trusted slot, as it is handled. -/
theorem State.AwaitsTrusted.exec_handled (h : s.AwaitsTrusted l x) (fits : kind.admits payload.length = true)
    (small : ∀ b ∈ payload, b.toNat < x.tune.data.modulus) {t : State} {u : UnitRun}
    (handled : (s.setEngine l (s.engine l).answered.calmed).handleOutcome x (.valid ⟨kind, seq, false, false, payload⟩) =
      s.guardedAs l x t u) :
    exec (.reply l (x.answer kind seq false false payload)) s = s.repliedAs l x t u := by
  rw [h.exec_reply (.inl rfl) fits small handled, State.guardedAs, State.setEngine_setEngine]
  rfl

/-- REPLY to such a POLL. -/
theorem State.AwaitsTrusted.exec_polled (h : s.AwaitsTrusted l x) (poll : x.kind = .poll)
    (sure : (s.unit x.slot).doubt = none) (fits : kind.admits payload.length = true)
    (small : ∀ b ∈ payload, b.toNat < x.tune.data.modulus) {t : State} {u : UnitRun}
    (handled : (s.counted l x).handleKind (s.record x.slot).lane x.slot ⟨kind, seq, false, false, payload⟩ =
      s.guardedAs l x t u) :
    exec (.reply l (x.answer kind seq false false payload)) s = s.repliedAs l x t u :=
  h.exec_handled fits small ((h.handleOutcome_polled poll sure _).trans handled)

/-- An IDLE reply leaves no acknowledgement pending (R74). -/
theorem State.AwaitsTrusted.exec_polledIdle (h : s.AwaitsTrusted l x) (poll : x.kind = .poll)
    (sure : (s.unit x.slot).doubt = none) (stays : (s.lane (s.record x.slot).lane).phase ≠ .closing) :
    exec (.reply l (x.answer .idle seq false false [])) s =
      s.repliedAs l x s { (s.unit x.slot).validated with pendingAck := .none } := by
  refine h.exec_polled poll sure rfl (by simp) ?_
  rw [State.handleKind, if_pos rfl, State.counted_unit, State.counted_setUnit]
  exact State.confirmMove_still stays

/-- A data reply whose sequence bit is not e is a repeat: the last acknowledgement is given again (R75). -/
theorem State.AwaitsTrusted.exec_polledRepeat (h : s.AwaitsTrusted l x) (poll : x.kind = .poll)
    (sure : (s.unit x.slot).doubt = none) (data : kind ≠ .idle) (fits : kind.admits payload.length = true)
    (small : ∀ b ∈ payload, b.toNat < x.tune.data.modulus) (old : seq ≠ (s.unit x.slot).e) :
    exec (.reply l (x.answer kind seq false false payload)) s =
      s.repliedAs l x s { (s.unit x.slot).validated with pendingAck := (s.unit x.slot).lastAck } := by
  refine h.exec_polled poll sure fits small ?_
  rw [State.handleKind, if_neg data, if_neg (by rw [State.counted_unit]; exact old), State.counted_unit,
    State.counted_setUnit]
  rfl

/-- A new data reply: the lane takes it, and the verdict is the acknowledgement (R75). -/
theorem State.AwaitsTrusted.exec_polledNew (h : s.AwaitsTrusted l x) (poll : x.kind = .poll)
    (sure : (s.unit x.slot).doubt = none) (data : kind ≠ .idle) (fits : kind.admits payload.length = true)
    (small : ∀ b ∈ payload, b.toNat < x.tune.data.modulus) (new : seq = (s.unit x.slot).e)
    (stays : (s.lane (s.record x.slot).lane).phase ≠ .closing) {t : Taking}
    (took : (s.setUnit x.slot (s.unit x.slot).validated).takeData (s.record x.slot).lane x.slot
      ⟨kind, seq, false, false, payload⟩ = t) :
    exec (.reply l (x.answer kind seq false false payload)) s =
      s.repliedAs l x t.after ((t.after.unit x.slot).judged t.verdict seq) := by
  refine h.exec_polled poll sure fits small ?_
  have counted := State.takeData_setEngine (s.setUnit x.slot (s.unit x.slot).validated) l (s.engine l).answered.calmed
    (s.record x.slot).lane x.slot h.enabled rfl stays ⟨kind, seq, false, false, payload⟩
  rw [took] at counted
  have kept := State.takeData_stays (s := s.setUnit x.slot (s.unit x.slot).validated) (n := x.slot)
    (k := (s.record x.slot).lane) h.enabled rfl stays ⟨kind, seq, false, false, payload⟩
  rw [took] at kept
  have taken : (s.counted l x).takeData (s.record x.slot).lane x.slot ⟨kind, seq, false, false, payload⟩ =
      t.withEngine l (s.engine l).answered.calmed := counted
  rw [State.handleKind, if_neg data, if_pos (by rw [State.counted_unit]; exact new), State.newData, taken]
  exact State.confirmMove_still (by exact kept)

end

/-! ### Keys with no window (R155, R156) -/

section

variable {s : State} {k : LaneNo} {n : SlotNo} {raws : List Byte}

/-- The KEYS record of a lane without a window (R156). -/
def State.keysRecord (s : State) (k : LaneNo) (n : SlotNo) (raws : List Byte) : List Byte :=
  eventRecord .keys (s.lane k).tag ((s.keysOf n raws).map LogicalKey.code)

/-- An OPEN lane without a window gives the keys of its keypad as one record (R156). -/
theorem State.takeData_openKeys (opened : (s.lane k).phase = .opened) (active : (s.lane k).standby = false)
    (windowless : (s.lane k).window = none) (unshadowed : (s.lane k).pinShadow = false)
    (keypad : (s.record n).kind ≠ .reader) (any : s.keysOf n raws ≠ []) (seq taken busy : Bool) :
    s.takeData k n ⟨.keys, seq, taken, busy, raws⟩ = s.acceptWith k (some (s.keysRecord k n raws)) id := by
  obtain ⟨unmarked, mark⟩ := State.unmarked_of (s := s) (k := k) (by simp [windowless]) n
  have keys : s.takeKeys k n (none = some seq) raws = s.openKeys k n (s.keysOf n raws) := by
    simp [State.takeKeys, opened, (UnitKind.keypad_iff _).mpr keypad, active]
  rw [State.takeData_keys, unmarked, mark, keys, State.openKeys, if_neg any]
  simp only [windowless, unshadowed, Bool.false_eq_true, if_false]
  rfl

/-- A new KEYS reply from the keypad of an OPEN lane without a window is stored as one record, or held (R124, R156). -/
theorem State.AwaitsTrusted.exec_polledKeys {l : Line} {x : Exchange} {seq : Bool} (h : s.AwaitsTrusted l x)
    (poll : x.kind = .poll) (sure : (s.unit x.slot).doubt = none) (fits : ReplyKind.keys.admits raws.length = true)
    (small : ∀ b ∈ raws, b.toNat < x.tune.data.modulus) (new : seq = (s.unit x.slot).e)
    (opened : (s.lane (s.record x.slot).lane).phase = .opened) (active : (s.lane (s.record x.slot).lane).standby = false)
    (windowless : (s.lane (s.record x.slot).lane).window = none)
    (unshadowed : (s.lane (s.record x.slot).lane).pinShadow = false) (keypad : (s.record x.slot).kind ≠ .reader)
    (any : s.keysOf x.slot raws ≠ []) {record : List Byte}
    (same : s.keysRecord (s.record x.slot).lane x.slot raws = record) :
    exec (.reply l (x.answer .keys seq false false raws)) s =
      if s.inFits (s.record x.slot).lane record.length = true then
        s.repliedAs l x (s.recorded (s.record x.slot).lane [record]) ((s.unit x.slot).validated.judged .accept seq)
      else s.repliedAs l x s ((s.unit x.slot).validated.judged .hold seq) := by
  subst same
  have stays : (s.lane (s.record x.slot).lane).phase ≠ .closing := by rw [opened]; nofun
  have takes := State.takeData_openKeys (s := s.setUnit x.slot (s.unit x.slot).validated) (k := (s.record x.slot).lane)
    (n := x.slot) (raws := raws) opened active windowless unshadowed keypad any seq false false
  have own : ((s.setUnit x.slot (s.unit x.slot).validated).unit x.slot) = (s.unit x.slot).validated :=
    s.unit_setUnit_same _ _
  rw [State.acceptWith] at takes
  by_cases room : s.inFits (s.record x.slot).lane (s.keysRecord (s.record x.slot).lane x.slot raws).length = true
  · rw [if_pos room, h.exec_polledNew (kind := .keys) poll sure nofun fits small new stays (takes.trans (if_pos room))]
    exact (congrArg (fun u => s.repliedAs l x _ (UnitRun.judged u .accept seq)) own).trans
      (State.repliedAs_setUnit s (s.recorded _ [s.keysRecord _ x.slot raws]) l x _ _)
  · rw [if_neg room, h.exec_polledNew (kind := .keys) poll sure nofun fits small new stays (takes.trans (if_neg room))]
    exact (congrArg (fun u => s.repliedAs l x _ (UnitRun.judged u .hold seq)) own).trans
      (State.repliedAs_setUnit s s l x _ _)

end

end Sys2Proof.Machine

namespace Sys2Proof.Proofs

open Sys2Proof.Machine

/-- Settles O46: by the kind and the sequence bit of the reply. -/
theorem wholeRepliesAreApplied : Obligations.WholeRepliesAreApplied := by
  unfold Obligations.WholeRepliesAreApplied
  intro s l x kind seq payload e n u k code bytes answered valid guarding after keys record exchange awaits rest low empty
    alone tuned poll new trusted sure enabled stays addressed small
  have h : s.AwaitsTrusted l x :=
    ⟨⟨exchange, awaits, rest, low, empty, tuned⟩, alone, new, State.trusted_iff.mpr trusted, enabled, addressed⟩
  have sent : answered = exec (.reply l (x.answer kind seq false false payload)) s := by
    have control : byteOf (code + if seq then 8 else 0) = replyControl kind seq false false := by
      cases kind <;> cases seq <;> rfl
    show exec (.reply l ((telegramBytes _ _ (byteOf (code + if seq then 8 else 0)) _).map _)) s = _
    rw [control]
  rw [sent]
  refine ⟨?_, ?_, ?_⟩
  · rintro rfl rfl
    exact h.exec_polledIdle poll sure stays
  · intro data fits took ack
    refine ⟨fun old => ?_, fun new => ?_⟩
    · exact h.exec_polledRepeat poll sure data fits small old
    · have bits : (took.after.unit n).e = (s.unit n).validated.e :=
        (State.takeData_bits (s := s.setUnit n (s.unit n).validated) (n := n) (k := k) enabled rfl stays _ n).trans
          (congrArg UnitRun.e (s.unit_setUnit_same n (s.unit n).validated))
      rw [h.exec_polledNew poll sure data fits small new stays (t := took) rfl, UnitRun.judged, bits]
      rfl
  · rintro rfl fits new opened active windowless unshadowed keypad any
    have keysSame : s.keysOf n payload = keys := by
      refine List.filter_congr fun key _ => ?_
      cases key <;> rfl
    have recordSame : s.keysRecord k n payload = record := by
      rw [State.keysRecord, keysSame, eventRecord, List.length_map]
      rfl
    rw [h.exec_polledKeys poll sure fits small new opened active windowless unshadowed keypad (by rw [keysSame]; exact any)
      recordSame, new]
    refine ⟨fun stored => ?_, fun held => ?_⟩
    · exact if_pos stored
    · have full : ¬s.inFits k record.length = true := by rw [held]; nofun
      exact if_neg full

end Sys2Proof.Proofs
end

section
/-! SUPPORT. VALID replies outside the sequencing: SYNC, and the exchanges of a confirmation run (R73, R77, R78, R105, R106,
R109). What they carry is applied to no lane. -/

namespace Sys2Proof.Machine

/-! ### What is judged VALID (R62, R69) -/

theorem replyFormat_small {control : Byte} {length : Nat} {kind : ReplyKind} (judged : replyFormat control length = some kind) :
    control.toNat < 64 := by
  have high : control &&& 0xC0 = 0 := by
    by_contra high
    unfold replyFormat at judged
    split at judged
    · cases judged
    · rw [if_neg fun all => high all.1] at judged
      cases judged
  clear judged
  revert control
  decide

/-- A telegram that is judged VALID has a CONTROL that every format carries. -/
theorem judgeReply_valid {d : DataBits} {expected address control : Byte} {payload : List Byte} (short : payload.length < 256)
    (valid : (judgeReply d expected (telegramBytes d address control payload)).isValid = true) :
    control.toNat < 64 ∧ ∃ r, judgeReply d expected (telegramBytes d address control payload) = .valid r := by
  rw [judgeReply_telegramBytes d expected address control short] at valid ⊢
  by_cases other : address ≠ expected
  · rw [if_pos other] at valid
    cases valid
  · rw [if_neg other] at valid ⊢
    cases format : replyFormat control payload.length with
    | none =>
      rw [format] at valid
      cases valid
    | some kind => exact ⟨replyFormat_small format, _, rfl⟩

/-! ### Presence (R105, R106, R109) -/

section

variable {s : State} {n : SlotNo} {kind : TelegramKind} {r : Reply}

/-- A slot's runtime record with a VALID exchange counted, and reset by a SYNC (R78, R118). -/
def UnitRun.counted (u : UnitRun) (kind : TelegramKind) : UnitRun :=
  UnitRun.afterValid { u with counters := { u.counters with valid := bump u.counters.valid } } kind

theorem State.outcomePresence_eq (s : State) (n : SlotNo) (kind : TelegramKind) (r : Reply) :
    s.outcomePresence n kind (.valid r) =
      (s.setUnit n { s.unit n with counters := { (s.unit n).counters with valid := bump (s.unit n).counters.valid } }).presenceValid
        n kind := rfl

theorem UnitRun.afterValid_frame (u : UnitRun) (kind : TelegramKind) :
    (u.afterValid kind).presence = u.presence ∧ (u.afterValid kind).confirm = u.confirm ∧
      (u.afterValid kind).returning = u.returning := by
  unfold UnitRun.afterValid
  split <;> exact ⟨rfl, rfl, rfl⟩

theorem State.presenceValid_trusted (trusted : s.trusted n = true) :
    s.presenceValid n kind = s.setUnit n { (s.unit n).afterValid kind with presence := .locked, fail := 0 } := by
  rcases State.trusted_iff.mp trusted with presence | presence
  · rw [State.presenceValid, presence]
    exact congrArg (fun p => s.setUnit n { (s.unit n).afterValid kind with presence := p, fail := 0 })
      (((s.unit n).afterValid_frame kind).1.trans presence)
  · rw [State.presenceValid, presence]

theorem State.presenceValid_first (seeking : (s.unit n).presence = .seeking) (none : (s.unit n).confirm = 0) :
    s.presenceValid n kind = s.setUnit n { (s.unit n).afterValid kind with confirm := 1 } := by
  have confirm := ((s.unit n).afterValid_frame kind).2.1.trans none
  rw [State.presenceValid, seeking]
  simp only [confirm]
  exact if_pos (by decide)

theorem State.presenceValid_second (enabled : (s.record n).enabled = true) (seeking : (s.unit n).presence = .seeking)
    (one : (s.unit n).confirm = 1) :
    s.presenceValid n kind =
      State.setUnit (if ((s.unit n).afterValid kind).returning then
        s.alerted (s.record n).lane 1 (s.record n).kind.role 0 else s) n ((s.unit n).afterValid kind).locked := by
  have confirm := ((s.unit n).afterValid_frame kind).2.1.trans one
  have lane (u : UnitRun) : (s.setUnit n u).currentLane n = some (s.record n).lane := State.currentLane_enabled enabled
  rw [State.presenceValid, seeking]
  simp only [confirm]
  refine (if_neg (by decide)).trans ?_
  rw [State.lockUnit, State.unit_setUnit_same, State.setUnit_setUnit]
  cases ((s.unit n).afterValid kind).returning with
  | false => rfl
  | true =>
    simp only [if_true, State.unitBack, lane]
    rfl

/-- A VALID exchange of a trusted slot leaves it LOCKED (R107). -/
theorem State.outcomePresence_trusted (trusted : s.trusted n = true) :
    s.outcomePresence n kind (.valid r) =
      s.setUnit n { (s.unit n).counted kind with presence := .locked, fail := 0 } := by
  rw [State.outcomePresence_eq, State.presenceValid_trusted, State.unit_setUnit_same, State.setUnit_setUnit]
  · rfl
  · rw [State.trusted_iff, State.unit_setUnit_same]
    exact State.trusted_iff.mp trusted

/-- The first VALID exchange of a SEEKING slot is counted (R106). -/
theorem State.outcomePresence_first (seeking : (s.unit n).presence = .seeking) (none : (s.unit n).confirm = 0) :
    s.outcomePresence n kind (.valid r) = s.setUnit n { (s.unit n).counted kind with confirm := 1 } := by
  rw [State.outcomePresence_eq, State.presenceValid_first, State.unit_setUnit_same, State.setUnit_setUnit]
  · rfl
  · rw [State.unit_setUnit_same]
    exact seeking
  · rw [State.unit_setUnit_same]
    exact none

/-- The second VALID exchange of a SEEKING slot locks it, with UNIT_BACK where it was LOST before (R106). -/
theorem State.outcomePresence_second (enabled : (s.record n).enabled = true) (seeking : (s.unit n).presence = .seeking)
    (one : (s.unit n).confirm = 1) :
    s.outcomePresence n kind (.valid r) =
      State.setUnit (if ((s.unit n).counted kind).returning then
        s.alerted (s.record n).lane 1 (s.record n).kind.role 0 else s) n ((s.unit n).counted kind).locked := by
  rw [State.outcomePresence_eq, State.presenceValid_second (by exact enabled), State.unit_setUnit_same]
  · show State.setUnit (if ((s.unit n).counted kind).returning = true then _ else _) n ((s.unit n).counted kind).locked = _
    cases ((s.unit n).counted kind).returning with
    | false => exact State.setUnit_setUnit s n _ _
    | true => exact State.setUnit_setUnit (s.alerted (s.record n).lane 1 (s.record n).kind.role 0) n _ _
  · rw [State.unit_setUnit_same]
    exact seeking
  · rw [State.unit_setUnit_same]
    exact one

/-- A VALID SYNC makes a LOST slot SEEKING (R109). -/
theorem State.outcomePresence_lost (lost : (s.unit n).presence = .lost) :
    s.outcomePresence n .sync (.valid r) =
      s.setUnit n { (s.unit n).counted .sync with presence := .seeking, confirm := 1 } := by
  rw [State.outcomePresence_eq, State.presenceValid, State.unit_setUnit_same]
  simp only [lost, if_true, State.setUnit_setUnit]
  rfl

end

/-! ### The engine (R86, R96) -/

/-- The engine behind a VALID reply: an entry served is passed; a run ends where its slot is locked by it. -/
def Engine.confirmed (e : Engine) (ringLength : Nat) (locked : Bool) : Engine :=
  match e.run with
  | none => e.passed ringLength
  | some r =>
    if locked then
      { e.answered with
        run := none, due := none
        ringPtr := if r.atEntry then (if e.cut then ringLength else e.ringPtr + 1) else e.ringPtr }
    else e.answered

section

variable {s : State} {l : Line} {x : Exchange}

theorem State.atOnce_atOnce (s t : State) : s.atOnce (s.atOnce t) = s.atOnce t := by
  unfold State.atOnce
  split
  · exact State.selectNew_selectNew t
  · rfl

/-- A VALID reply to a SYNC, or to a POLL of a slot that is not trusted, is applied to presence only (R71, R73, R77). -/
theorem State.handleOutcome_unapplied {r : Reply} (outside : x.kind = .sync ∨ x.kind = .poll ∧ s.trusted x.slot = false) :
    s.handleOutcome x (.valid r) = s.atOnce (s.outcomePresence x.slot x.kind (.valid r)) := by
  rcases outside with sync | ⟨poll, untrusted⟩
  · simp [State.handleOutcome, State.outcomeSettled, State.outcomeReply, State.settleItems, sync, State.atOnce_atOnce]
  · simp [State.handleOutcome, State.outcomeSettled, State.outcomeReply, State.settleItems, poll, untrusted,
      State.atOnce_atOnce]

/-- The run of a slot is settled by its presence (R96). -/
theorem State.settleRun_confirmed {t : State} (engine : t.engine l = (s.engine l).answered.calmed)
    (ring : t.ring l = s.ring l) (n : SlotNo) :
    t.settleRun l n false =
      t.setEngine l ((s.engine l).confirmed (s.ring l).length ((t.unit n).presence = .locked)).calmed := by
  have self := t.setEngine_self l
  rw [engine] at self
  have run : (t.engine l).run = (s.engine l).run := by rw [engine]; rfl
  cases running : (s.engine l).run with
  | none =>
    rw [State.settleRun_alone (run.trans running), Engine.confirmed, running]
    exact State.passEntry_passed engine ring
  | some r =>
    simp only [State.settleRun, run, running, Engine.confirmed]
    by_cases locked : (t.unit n).presence = .locked
    · rw [if_pos (.inr locked), if_pos (by simpa using locked), State.endRun_eq, engine, ring]
      rfl
    · rw [if_neg (by simp [locked]), if_neg (by simpa using locked)]
      exact self.symm

theorem Engine.confirmed_rest (e : Engine) (ringLength : Nat) (locked : Bool) : (e.confirmed ringLength locked).rx = .atRest := by
  unfold Engine.confirmed
  split
  · rfl
  · split <;> rfl

/-- Line `l` awaits the reply to an exchange, and the characters of a telegram are a VALID reply to it. -/
structure State.ValidReply (s : State) (l : Line) (x : Exchange) (address control : Byte) (payload : List Byte) (r : Reply) :
    Prop where
  awaits : (s.engine l).Awaits x
  short : payload.length ≤ 48
  small : ∀ b ∈ telegramBytes x.tune.data address control payload, b.toNat < x.tune.data.modulus
  judged : judgeReply x.tune.data (x.bytes.headD 0) (telegramBytes x.tune.data address control payload) = .valid r
  new : (s.unit x.slot).superseded = false

variable {address control : Byte} {payload : List Byte} {r : Reply}

/-- REPLY that is VALID and applied to presence only. -/
theorem State.ValidReply.exec_unapplied (h : s.ValidReply l x address control payload r)
    (outside : x.kind = .sync ∨ x.kind = .poll ∧ s.trusted x.slot = false) {t : State} {u : UnitRun}
    (presence : (s.setEngine l (s.engine l).answered.calmed).outcomePresence x.slot x.kind (.valid r) =
      s.guardedAs l x t u) :
    exec (.reply l ((telegramBytes x.tune.data address control payload).map x.tune.undisturbed)) s =
      .next (State.selectNew (State.refresh ((t.setUnit x.slot u).setEngine l
        ((s.engine l).confirmed (s.ring l).length (u.presence = .locked))) l)) := by
  have handled := State.handleOutcome_unapplied (s := s.setEngine l (s.engine l).answered.calmed) (r := r) outside
  rw [presence] at handled
  obtain ⟨engine, ring, ends⟩ := exec_reply_valid h.awaits h.short h.small h.judged h.new handled
  rw [ends, State.settleRun_confirmed engine ring, State.atOnce_unit, State.guardedAs_unit,
    State.refresh_calmed _ _ (Engine.confirmed_rest _ _ _)]
  refine congrArg Host.Outcome.next ((State.selectNew_atOnce _ _ _ _).trans ?_)
  rw [State.guardedAs, State.setEngine_setEngine]

/-- A VALID SYNC of a trusted slot (R73, R107). -/
theorem State.ValidReply.exec_syncTrusted (h : s.ValidReply l x address control payload r) (sync : x.kind = .sync)
    (alone : (s.engine l).run = none) (trusted : s.trusted x.slot = true) :
    exec (.reply l ((telegramBytes x.tune.data address control payload).map x.tune.undisturbed)) s =
      s.repliedAs l x s { (s.unit x.slot).counted x.kind with presence := .locked, fail := 0 } := by
  rw [h.exec_unapplied (.inl sync) (t := s) (State.outcomePresence_trusted (by exact trusted)), Engine.confirmed, alone]
  rfl

theorem State.trusted_seeking {n : SlotNo} (seeking : (s.unit n).presence = .seeking) : s.trusted n = false := by
  rw [State.trusted, seeking]
  rfl

theorem Engine.confirmed_running {e : Engine} {run : ConfirmRun} (running : e.run = some run) (ringLength : Nat) :
    e.confirmed ringLength false = e.answered ∧
      e.confirmed ringLength true =
        { e.answered with
          run := none, due := none
          ringPtr := if run.atEntry then (if e.cut then ringLength else e.ringPtr + 1) else e.ringPtr } := by
  simp [Engine.confirmed, running]

/-- The first VALID exchange of a confirmation run (R106). -/
theorem State.ValidReply.exec_first (h : s.ValidReply l x address control payload r)
    (asks : x.kind = .sync ∨ x.kind = .poll) {run : ConfirmRun} (running : (s.engine l).run = some run)
    (seeking : (s.unit x.slot).presence = .seeking) (none : (s.unit x.slot).confirm = 0) :
    exec (.reply l ((telegramBytes x.tune.data address control payload).map x.tune.undisturbed)) s =
      .next (State.selectNew (State.refresh ((s.setUnit x.slot { (s.unit x.slot).counted x.kind with confirm := 1 }).setEngine
        l (s.engine l).answered) l)) := by
  have unlocked : decide (((s.unit x.slot).counted x.kind).presence = .locked) = false := by
    rw [UnitRun.counted, (UnitRun.afterValid_frame _ _).1]
    simp [seeking]
  rw [h.exec_unapplied (asks.imp_right fun poll => ⟨poll, State.trusted_seeking seeking⟩) (t := s)
    (State.outcomePresence_first (by exact seeking) (by exact none)), ← (Engine.confirmed_running running _).1]
  exact congrArg (fun locked => Host.Outcome.next (State.selectNew (State.refresh
    ((s.setUnit x.slot { (s.unit x.slot).counted x.kind with confirm := 1 }).setEngine l
      ((s.engine l).confirmed (s.ring l).length locked)) l))) unlocked

/-- The second VALID exchange of a confirmation run locks the slot and ends the run (R106, R96). -/
theorem State.ValidReply.exec_second (h : s.ValidReply l x address control payload r)
    (asks : x.kind = .sync ∨ x.kind = .poll) {run : ConfirmRun} (running : (s.engine l).run = some run)
    (enabled : (s.record x.slot).enabled = true) (seeking : (s.unit x.slot).presence = .seeking)
    (one : (s.unit x.slot).confirm = 1) :
    exec (.reply l ((telegramBytes x.tune.data address control payload).map x.tune.undisturbed)) s =
      .next (State.selectNew (State.refresh ((State.setUnit
        (if ((s.unit x.slot).counted x.kind).returning then
          s.alerted (s.record x.slot).lane 1 (s.record x.slot).kind.role 0 else s) x.slot
        ((s.unit x.slot).counted x.kind).locked).setEngine l
        { (s.engine l).answered with
          run := none, due := none
          ringPtr :=
            if run.atEntry then (if (s.engine l).cut then (s.ring l).length else (s.engine l).ringPtr + 1)
            else (s.engine l).ringPtr }) l)) := by
  rw [h.exec_unapplied (asks.imp_right fun poll => ⟨poll, State.trusted_seeking seeking⟩)
    (t := if ((s.unit x.slot).counted x.kind).returning then
      s.alerted (s.record x.slot).lane 1 (s.record x.slot).kind.role 0 else s)
    (u := ((s.unit x.slot).counted x.kind).locked), ← (Engine.confirmed_running running _).2]
  · rfl
  · rw [State.outcomePresence_second (by exact enabled) (by exact seeking) (by exact one), State.unit_setEngine]
    cases ((s.unit x.slot).counted x.kind).returning <;> rfl

/-- A VALID SYNC of a LOST slot in a confirmation run (R109). -/
theorem State.ValidReply.exec_lost (h : s.ValidReply l x address control payload r) (sync : x.kind = .sync)
    {run : ConfirmRun} (running : (s.engine l).run = some run) (lost : (s.unit x.slot).presence = .lost) :
    exec (.reply l ((telegramBytes x.tune.data address control payload).map x.tune.undisturbed)) s =
      .next (State.selectNew (State.refresh
        ((s.setUnit x.slot { (s.unit x.slot).counted x.kind with presence := .seeking, confirm := 1 }).setEngine l
          (s.engine l).answered) l)) := by
  rw [h.exec_unapplied (.inl sync) (t := s)
    (u := { (s.unit x.slot).counted x.kind with presence := .seeking, confirm := 1 }), ← (Engine.confirmed_running running _).1]
  · rfl
  · rw [sync, State.outcomePresence_lost (by exact lost)]
    rfl

end

end Sys2Proof.Machine

namespace Sys2Proof.Proofs

open Sys2Proof.Machine

/-- Settles O47: by the slot's presence before the reply. -/
theorem confirmationsLockUnits : Obligations.ConfirmationsLockUnits := by
  unfold Obligations.ConfirmationsLockUnits
  intro s l x control payload atEntry e n u k bytes counted valid passed guarding after role back run exchange awaits rest
    low empty tuned new enabled addressed short small isValid
  obtain ⟨controls, r, judged⟩ := judgeReply_valid (by omega) isValid
  have h : s.ValidReply l x (x.bytes.headD 0) control payload r :=
    ⟨⟨exchange, awaits, rest, low, empty, tuned⟩, short, telegramBytes_small addressed controls short small, judged, new⟩
  have still (v : UnitRun) (d : Engine) : after v d (s.lane k) =
      .next (State.selectNew (State.refresh ((s.setUnit n v).setEngine l d) l)) := by
    show Host.Outcome.next (State.selectNew (State.refresh (((s.setLane k (s.lane k)).setUnit n v).setEngine l d) l)) = _
    rw [State.setLane_self]
  refine ⟨fun sync alone trusted => ?_, fun asks running => ⟨fun seeking none => ?_, fun seeking one => ?_, fun lost sync => ?_⟩⟩
  · rw [still]
    exact h.exec_syncTrusted sync alone (State.trusted_iff.mpr trusted)
  · rw [still]
    exact h.exec_first asks running seeking none
  · have returning : (u.counted x.kind).returning = u.returning := (UnitRun.afterValid_frame _ x.kind).2.2
    have roleSame : role = (s.record n).kind.role := by cases kind : (s.record n).kind <;> simp [role, kind, UnitKind.role]
    show exec _ s = _
    rw [h.exec_second asks running enabled seeking one, returning]
    cases lostBefore : u.returning with
    | true =>
      rw [← roleSame]
      rfl
    | false =>
      simp only [Bool.false_eq_true, if_false, still]
      rfl
  · rw [still]
    exact h.exec_lost sync running lost

end Sys2Proof.Proofs
end

section
/-! SUPPORT. Data replies outside an entry, PIN blocks, and the end of a SHUT (R84, R148, R149, R164, R165). -/

namespace Sys2Proof.Machine

section

variable {s : State} {k : LaneNo} {n : SlotNo}

/-- Without a carry-over mark, a lane takes KEYS, CARD and PINBLOCK as it stands (R148, R159). -/
theorem State.takeData_unmarked (mark : ∀ w, (s.lane k).window = some w → w.carryOver = none) (seq taken busy : Bool)
    (payload : List Byte) :
    s.takeData k n ⟨.keys, seq, taken, busy, payload⟩ = s.takeKeys k n false payload ∧
      s.takeData k n ⟨.card, seq, taken, busy, payload⟩ = s.takeCard k n payload ∧
      s.takeData k n ⟨.pinBlock, seq, taken, busy, payload⟩ = s.takeBlock k n payload := by
  obtain ⟨unmarked, unmet⟩ := State.unmarked_of mark n
  refine ⟨?_, ?_, ?_⟩
  · rw [State.takeData_keys, unmarked, unmet]
    rfl
  · rw [State.takeData_card, unmarked]
  · rw [State.takeData_pinBlock, unmarked]

/-! ### LANE_CALL (R149) -/

/-- The call latch set already, a call is discarded. -/
theorem State.laneCall_latched (latched : (s.lane k).callLatch = true) (cause : Byte) :
    s.laneCall k cause = ⟨.accept, s⟩ := if_pos latched

/-- The first call is written where it fits, and held otherwise. -/
theorem State.laneCall_first (free : (s.lane k).callLatch = false) (cause : Byte) :
    s.laneCall k cause =
      if s.inFits k 5 = true then
        ⟨.accept, (s.setLane k { s.lane k with callLatch := true }).recorded k
          [[5, 3, hiByte (s.lane k).tag, loByte (s.lane k).tag, cause]]⟩
      else ⟨.hold, s⟩ := by
  rw [State.laneCall, if_neg (by simp [free])]
  rfl

/-! ### Phases (R148) -/

section

variable {payload : List Byte}

theorem State.takeKeys_closed (closed : (s.lane k).phase = .closed) : s.takeKeys k n false payload = s.laneCall k 1 := by
  rw [State.takeKeys, closed]

theorem State.takeCard_closed (closed : (s.lane k).phase = .closed) : s.takeCard k n payload = s.laneCall k 2 := by
  rw [State.takeCard, closed]

theorem State.takeKeys_opening (opening : (s.lane k).phase = .opening) :
    s.takeKeys k n false payload = ⟨.accept, s.countIgnored n payload.length⟩ := by
  rw [State.takeKeys, opening]
  rfl

theorem State.takeCard_opening (opening : (s.lane k).phase = .opening) :
    s.takeCard k n payload = if (s.lane k).standby = true then ⟨.hold, s⟩ else ⟨.accept, s.countIgnored n 1⟩ := by
  rw [State.takeCard, opening]

theorem State.takeBlock_refused (refuses : (s.lane k).phase = .closed ∨ (s.lane k).phase = .opening) :
    s.takeBlock k n payload = s.refuseBlock n := by
  rcases refuses with phase | phase <;> rw [State.takeBlock, phase]

theorem State.takeBlock_opened (opened : (s.lane k).phase = .opened) :
    s.takeBlock k n payload = s.openBlock k n payload := by
  rw [State.takeBlock, opened]

/-- A CLOSING lane accepts and discards. -/
theorem State.take_closing (closing : (s.lane k).phase = .closing) (payload : List Byte) :
    s.takeKeys k n false payload = ⟨.accept, s⟩ ∧ s.takeCard k n payload = ⟨.accept, s⟩ ∧
      s.takeBlock k n payload = ⟨.accept, s⟩ := by
  rw [State.takeKeys, State.takeCard, State.takeBlock, closing]
  exact ⟨rfl, rfl, rfl⟩

/-- A FAULTED lane refuses, and counts nothing (log entry 29). -/
theorem State.take_faulted (faulted : (s.lane k).phase = .faulted) (payload : List Byte) :
    s.takeKeys k n false payload = ⟨.refuse, s⟩ ∧ s.takeCard k n payload = ⟨.refuse, s⟩ ∧
      s.takeBlock k n payload = ⟨.refuse, s⟩ := by
  rw [State.takeKeys, State.takeCard, State.takeBlock, faulted]
  exact ⟨rfl, rfl, rfl⟩

end

/-! ### PIN blocks (R164) -/

/-- Does a window await a block: a PIN window in AWAIT_BLOCK? -/
def Window.awaitsBlock (w : Window) : Prop := w.phase = .awaitBlock ∧ ∃ min max count, w.what = .pin min max count

theorem State.openBlock_windowless (none : (s.lane k).window = none) (block : List Byte) :
    s.openBlock k n block = s.refuseBlock n := by rw [State.openBlock, none]

/-- A block that no window of the keypad awaits is refused. -/
theorem State.openBlock_unawaited {w : Window} (window : (s.lane k).window = some w)
    (unawaited : ¬(w.awaitsBlock ∧ (s.record n).kind ≠ .reader)) (block : List Byte) :
    s.openBlock k n block = s.refuseBlock n := by
  obtain ⟨phase, what, chain, carryOver⟩ := w
  simp only [State.openBlock, window]
  cases what with
  | amount => rfl
  | pin min max count =>
    cases phase with
    | awaitBlock =>
      have reader : ¬(s.record n).kind.keypad = true := fun keypad =>
        unawaited ⟨⟨rfl, _, _, _, rfl⟩, (UnitKind.keypad_iff _).mp keypad⟩
      exact if_neg reader
    | collecting | shutting | held => rfl

/-- A block that a window awaits is stored as PIN_DONE with the window SHUTTING, or held (R124, R164). -/
theorem State.openBlock_awaited {w : Window} (window : (s.lane k).window = some w) (awaited : w.awaitsBlock)
    (keypad : (s.record n).kind ≠ .reader) (block : List Byte) :
    s.openBlock k n block =
      if s.inFits k (4 + block.length) = true then
        ⟨.accept, (s.setLane k { s.lane k with window := some { w with phase := .shutting } }).recorded k
          [eventRecord .pinDone (s.lane k).tag block]⟩
      else ⟨.hold, s⟩ := by
  obtain ⟨phase, what, chain, carryOver⟩ := w
  obtain ⟨rfl, min, max, count, rfl⟩ := awaited
  simp only [State.openBlock, window]
  rw [if_pos ((UnitKind.keypad_iff _).mpr keypad), ← length_eventRecord .pinDone (s.lane k).tag block]
  rfl

end

/-! ### SHUT (R84, R165) -/

/-- A lane whose window was shut: HELD where it chains, gone otherwise. -/
def LaneRecord.shut (r : LaneRecord) : LaneRecord :=
  { r with
    window :=
      match r.window with
      | none => none
      | some w => if w.phase ≠ .shutting then some w else if w.chain then some { w with phase := .held } else none }

section

variable {s : State} {l : Line} {x : Exchange} {k : LaneNo}

theorem State.shutDone_eq (s : State) (k : LaneNo) : s.shutDone k = s.setLane k (s.lane k).shut := by
  cases window : (s.lane k).window with
  | none =>
    have still : (s.lane k).shut = s.lane k := by
      rw [LaneRecord.shut, window]
      show { s.lane k with window := none } = s.lane k
      rw [← window]
    rw [still, State.setLane_self, State.shutDone, window]
  | some w =>
    by_cases shutting : w.phase = .shutting
    · have shut : (s.lane k).shut = { s.lane k with window := if w.chain then some { w with phase := .held } else none } := by
        rw [LaneRecord.shut, window]
        simp [shutting]
      rw [shut, State.shutDone, window]
      cases chain : w.chain <;> simp [shutting, chain, State.setWindow, State.dropWindow]
    · have still : (s.lane k).shut = s.lane k := by
        rw [LaneRecord.shut, window]
        simp [shutting, ← window]
      rw [still, State.setLane_self, State.shutDone, window]
      exact if_neg shutting

/-- An IDLE reply that ends a SHUT of a trusted slot without doubt: the lane's window is shut. -/
theorem State.AwaitsTrusted.exec_shut (h : s.AwaitsTrusted l x) (shut : x.kind = .shut)
    (sure : (s.unit x.slot).doubt = none) (stays : (s.lane (s.record x.slot).lane).phase ≠ .closing) :
    exec (.reply l (x.answer .idle false false false [])) s =
      s.repliedAs l x (s.setLane (s.record x.slot).lane (s.lane (s.record x.slot).lane).shut)
        { (s.unit x.slot).validated with pendingAck := .none } := by
  have lane : (s.counted l x).currentLane x.slot = some (s.record x.slot).lane := State.currentLane_enabled h.enabled
  have phase : ((s.setLane (s.record x.slot).lane (s.lane (s.record x.slot).lane).shut).lane
      (s.record x.slot).lane).phase = (s.lane (s.record x.slot).lane).phase := by
    rw [State.lane_setLane_same]
    rfl
  refine h.exec_handled rfl (by simp) ((h.handleOutcome_sure (.inr shut) sure _).trans ?_)
  rw [State.handleReply, lane]
  simp only [if_pos shut]
  have done : (s.counted l x).shutDone (s.record x.slot).lane =
      s.guardedAs l x (s.setLane (s.record x.slot).lane (s.lane (s.record x.slot).lane).shut) (s.unit x.slot).validated :=
    State.shutDone_eq _ _
  rw [done, State.handleKind, if_pos rfl, State.guardedAs_unit, State.guardedAs_setUnit]
  exact State.confirmMove_still (by exact phase ▸ stays)

end

end Sys2Proof.Machine

namespace Sys2Proof.Proofs

open Sys2Proof.Machine

/-- Settles O59: by the lane's phase and its window, and by the end of a SHUT. -/
theorem callsBlocksAndShuts : Obligations.CallsBlocksAndShuts := by
  unfold Obligations.CallsBlocksAndShuts
  intro s k n seq taken busy card payload l x lane took kind ignored
  have counted (count : Nat) : s.countIgnored n count = ignored count := rfl
  refine ⟨fun outside windowless => ?_, fun opened => ⟨fun windowless => ?_, fun w window unmarked => ?_⟩, ?_⟩
  · obtain ⟨keys, cards, blocks⟩ := State.takeData_unmarked (s := s) (k := k) (n := n) (by
      rw [show (s.lane k).window = none from windowless]; nofun) seq taken busy payload
    refine ⟨fun closed => ?_, fun opening => ?_, fun refuses => ?_, fun closing => ?_, fun faulted => ?_⟩
    · have calls : took kind = s.laneCall k (if card then 2 else 1) := by
        cases card with
        | true => exact cards.trans (State.takeCard_closed closed)
        | false => exact keys.trans (State.takeKeys_closed closed)
      rw [calls]
      refine ⟨fun latched => State.laneCall_latched latched _, fun free => ?_⟩
      rw [State.laneCall_first free]
      exact ⟨fun fits => if_pos fits, fun full => if_neg (by rw [full]; nofun)⟩
    · exact ⟨keys.trans (State.takeKeys_opening opening),
        fun active => cards.trans ((State.takeCard_opening opening).trans (if_neg (by rw [active]; nofun))),
        fun standby => cards.trans ((State.takeCard_opening opening).trans (if_pos standby))⟩
    · exact blocks.trans (State.takeBlock_refused refuses)
    · obtain ⟨key, read, block⟩ := State.take_closing (n := n) closing payload
      exact ⟨keys.trans key, cards.trans read, blocks.trans block⟩
    · obtain ⟨key, read, block⟩ := State.take_faulted (n := n) faulted payload
      exact ⟨keys.trans key, cards.trans read, blocks.trans block⟩
  · obtain ⟨_, _, blocks⟩ := State.takeData_unmarked (s := s) (k := k) (n := n) (by
      rw [show (s.lane k).window = none from windowless]; nofun) seq taken busy payload
    exact blocks.trans ((State.takeBlock_opened opened).trans (State.openBlock_windowless windowless payload))
  · intro awaited
    obtain ⟨_, _, blocks⟩ := State.takeData_unmarked (s := s) (k := k) (n := n) (fun v held => by
      obtain rfl := Option.some.inj (held.symm.trans window); exact unmarked) seq taken busy payload
    have awaits : awaited ↔ w.awaitsBlock ∧ (s.record n).kind ≠ .reader := by
      cases what : w.what <;> simp [awaited, Window.awaitsBlock, what]
    have opens : took .pinBlock = s.openBlock k n payload := blocks.trans (State.takeBlock_opened opened)
    rw [awaits, opens]
    refine ⟨fun unawaited => State.openBlock_unawaited window unawaited payload, fun ⟨awaiting, keypad⟩ => ?_⟩
    rw [State.openBlock_awaited window awaiting keypad]
    exact ⟨fun fits => if_pos fits, fun full => if_neg (by rw [full]; nofun)⟩
  · intro e u k lane answer exchange awaits rest low empty alone tuned shut new trusted sure enabled stays addressed
    have h : s.AwaitsTrusted l x :=
      ⟨⟨exchange, awaits, rest, low, empty, tuned⟩, alone, new, State.trusted_iff.mpr trusted, enabled, addressed⟩
    have engine : (s.engine l).passed (s.ring l).length = { e with
        exchange := none, received := [], conflicts := 0, xstate := .guarding
        ringPtr := if e.stage = .ring then (if e.cut then (s.ring l).length else e.ringPtr + 1) else e.ringPtr } := by
      rw [Engine.passed, ← show (s.engine l).rx = .atRest from rest]
    refine (h.exec_shut shut sure stays).trans ?_
    rw [State.repliedAs, engine]
    rfl

end Sys2Proof.Proofs
end

section
/-! SUPPORT. Answers to sweep probes: silence, garble and clean answers judged (R85, R93 to R95, R98, R112). -/

namespace Sys2Proof.Machine

/-! ### What was collected is judged (R93) -/

/-- A single character, or one with an error, is no clean answer. -/
theorem judgeSweep_garble {r : AddrRange} {answers : List (Byte × Bool)}
    (bad : answers.length = 1 ∨ answers.any (fun c => c.2) = true) : judgeSweep r answers = .garble := by
  unfold judgeSweep
  split
  · simp at bad
  · simp at bad
  · rfl

theorem judgeSweep_three {r : AddrRange} {answers : List (Byte × Bool)} (three : answers.length = 3) :
    judgeSweep r answers = .garble := by
  unfold judgeSweep
  split
  · cases three
  · cases three
  · rfl

theorem judgeSweep_pair (r : AddrRange) (a b : Byte) :
    judgeSweep r [(a, false), (b, false)] =
      if b = a ^^^ 0x7F ∧ r.lo ≤ a.toNat ∧ a.toNat ≤ r.hi then .clean a.toNat else .garble := rfl

/-! ### The end of a probe (R93, R94) -/

/-- An engine whose probe has ended, in its guard. -/
def Engine.probed (e : Engine) : Engine := { e with probe := none, answers := [], conflicts := 0, xstate := .guarding }

/-- An engine with a garbled answer split, or counted for a single address (R94). -/
def Engine.garbled (e : Engine) (r : AddrRange) : Engine :=
  if r.lo < r.hi then { e with stack := splitRange r e.stack }
  else { e with counters := { e.counters with sweepNoise := bump e.counters.sweepNoise } }

section

variable (s : State) (l : Line) (p : Probe)

theorem State.garble_eq (r : AddrRange) : s.garble l r = s.setEngine l ((s.engine l).garbled r) := by
  rw [State.garble, Engine.garbled]
  split <;> rfl

theorem State.endProbe_silence : s.endProbe l p [] = s.setEngine l (s.engine l).probed := rfl

variable {s l p} {answers : List (Byte × Bool)}

theorem State.endProbe_garble (judged : judgeSweep p.range answers = .garble) :
    s.endProbe l p answers = s.setEngine l ((s.engine l).probed.garbled p.range) := by
  rw [State.endProbe, State.judgeAnswer, judged, State.garble_eq, State.engine_setEngine_same, State.setEngine_setEngine]
  rfl

theorem State.endProbe_clean {a : Nat} (judged : judgeSweep p.range answers = .clean a) :
    s.endProbe l p answers = (s.setEngine l (s.engine l).probed).cleanAnswer l a := by
  rw [State.endProbe, State.judgeAnswer, judged]
  rfl

end

/-! ### A clean answer (R95, R98, R112) -/

section

variable {s : State} {l : Line} {n : SlotNo} {a : Nat}

/-- A slot is an enabled one of a line with an address. -/
def State.HasAddress (s : State) (l : Line) (a : Nat) (n : SlotNo) : Prop :=
  (s.record n).enabled = true ∧ (s.record n).line = l ∧ (s.record n).address.val = a

theorem State.hasAddress_iff :
    (s.onLine l n && (s.record n).address.val == a) = true ↔ s.HasAddress l a n := by
  simp [State.onLine, State.HasAddress, and_assoc]

theorem State.slotAt_none (stray : ∀ m, ¬s.HasAddress l a m) : s.slotAt l a = none :=
  List.find?_eq_none.mpr fun m _ has => stray m (State.hasAddress_iff.mp has)

theorem State.slotAt_lowest (has : s.HasAddress l a n) (lowest : ∀ m, s.HasAddress l a m → n ≤ m) :
    s.slotAt l a = some n :=
  find?_finRange (State.hasAddress_iff.mpr has) fun j lower => by
    rw [← Bool.not_eq_true, State.hasAddress_iff]
    exact fun earlier => not_le_of_gt lower (lowest j earlier)

/-- An address that no enabled slot of the line has is a stray unit's (R95). -/
theorem State.cleanAnswer_stray {a : Byte} (stray : ∀ m, ¬s.HasAddress l a.toNat m) :
    s.cleanAnswer l a.toNat =
      { s with notices := s.notices.set 2 (some (raisedEntry s.notices[2] (lineCode l) a)) } := by
  rw [State.cleanAnswer, State.slotAt_none stray, byteOf, BitVec.ofNat_toNat, BitVec.setWidth_eq]
  rfl

/-- A slot that is not trusted is to be confirmed (R95, R109). -/
theorem State.cleanAnswer_confirms (found : s.slotAt l a = some n)
    (presence : (s.unit n).presence = .seeking ∨ (s.unit n).presence = .lost) :
    s.cleanAnswer l a =
      (s.setUnit n { s.unit n with presence := .seeking, confirm := 0, syncRequest := true }).setEngine l
        { s.engine l with run := some ⟨n, false⟩ } := by
  rw [State.cleanAnswer, found]
  rcases presence with seeking | lost
  · simp only [seeking]
    rw [← seeking]
    rfl
  · simp only [lost]
    rw [State.startRun, State.unit_setUnit_same, State.setUnit_setUnit]
    rfl

/-- A trusted slot that answers a probe has restarted (R98, R112). -/
theorem State.cleanAnswer_restarts (found : s.slotAt l a = some n)
    (presence : (s.unit n).presence = .locked ∨ (s.unit n).presence = .faltering) :
    s.cleanAnswer l a = s.restartDetected n := by
  rw [State.cleanAnswer, found]
  rcases presence with presence | presence <;> simp only [presence]

/-- A slot's runtime record with a restart detected (R112). -/
def UnitRun.again (u : UnitRun) : UnitRun := { u with syncRequest := true, baseline := none, pendingFlags := none }

theorem State.restartDetected_eq (enabled : (s.record n).enabled = true) :
    s.restartDetected n = (s.setUnit n (s.unit n).again).laneUnitRestart (s.record n).lane n := by
  have lane (u : UnitRun) : (s.setUnit n u).currentLane n = some (s.record n).lane := State.currentLane_enabled enabled
  simp only [State.restartDetected, lane]
  rfl

variable {k : LaneNo}

/-- A lane that is not in use is not touched by a restart (R112). -/
theorem State.laneUnitRestart_unused (unused : (s.lane k).phase = .closed ∨ (s.lane k).phase = .faulted) :
    s.laneUnitRestart k n = s := by
  rw [State.laneUnitRestart]
  rcases unused with phase | phase <;> rw [phase]

theorem State.laneUnitRestart_used (used : (s.lane k).phase = .opening ∨ (s.lane k).phase = .opened)
    (undecided : (s.lane k).decision = none) : s.laneUnitRestart k n = s.faultedFor k 2 := by
  rw [State.laneUnitRestart]
  rcases used with phase | phase <;> rw [phase] <;> exact State.faultLane_of_none undecided .unitRestart

theorem State.laneUnitRestart_closing (closing : (s.lane k).phase = .closing) :
    s.laneUnitRestart k n = s.confirmMove k n .waive := by
  rw [State.laneUnitRestart, closing]

end

/-! ### The commands -/

section

variable {s : State} {l : Line} {p : Probe}

theorem exec_sweepReplyWindow (alone : (s.engine l).exchange = none) (probes : (s.engine l).probe = some p) :
    exec (.sweepReplyWindow l) s =
      if (s.engine l).xstate = .await then finishLine l (s.endProbe l p []) else finish s := by
  show execSweepReplyWindow l s = _
  rw [execSweepReplyWindow, alone, probes]
  cases (s.engine l).xstate <;> rfl

theorem exec_sweepGap (alone : (s.engine l).exchange = none) (probes : (s.engine l).probe = some p) :
    exec (.sweepGap l) s =
      if (s.engine l).xstate = .receiving ∧ (s.engine l).rx.inside = false then
        finishLine l (s.endProbe l p (s.engine l).answers)
      else finish s := by
  show execSweepGap l s = _
  rw [execSweepGap, alone, probes]
  cases (s.engine l).xstate <;> cases (s.engine l).rx.inside <;> rfl

theorem exec_sweepAnswerCharacter {ch : Sampled} (going : (s.engine l).destination = .probe p) :
    exec (.sweepAnswerCharacter l ch) s =
      .next (State.selectNew (State.refresh ((s.takeChar l ((s.engine l).tuned.error ch) true).answerChar l p
        ((s.engine l).tuned.error ch) ((s.engine l).tuned.delivered ch)) l)) := by
  refine (lineIf_true (by rw [going]; rfl)).trans ?_
  simp only [State.deliver, going]
  rfl

/-- An engine that has taken a character of an answer (R51). -/
def Engine.took (e : Engine) (err : CharError) : Engine :=
  { e with rx := rxAfter err, counters := e.counters.countError err }

/-- Of an answer's characters the first and the second are collected (R85). -/
theorem State.answerChar_collects (err : CharError) (value : Byte) (few : (s.engine l).answers.length < 2) :
    (s.takeChar l err true).answerChar l p err value =
      s.setEngine l { (s.engine l).took err with
        answers := (s.engine l).answers ++ [(value, decide (err ≠ .none))], xstate := .receiving } := by
  rw [State.answerChar, State.takeChar_engine, if_neg (by simp only [List.length_append, List.length_singleton]; omega),
    State.takeChar, State.setEngine_setEngine]
  rfl

/-- The third character ends the reply period as garble (R85, R93). -/
theorem State.answerChar_third (err : CharError) (value : Byte) (two : (s.engine l).answers.length = 2) :
    (s.takeChar l err true).answerChar l p err value =
      s.setEngine l (((s.engine l).took err).probed.garbled p.range) := by
  rw [State.answerChar, State.takeChar_engine, if_pos (by simp only [List.length_append, List.length_singleton]; omega),
    State.endProbe_garble (judgeSweep_three (by simp only [List.length_append, List.length_singleton]; omega)),
    State.takeChar_engine, State.takeChar, State.setEngine_setEngine]
  rfl

end

end Sys2Proof.Machine

namespace Sys2Proof.Proofs

open Sys2Proof.Machine

/-- Settles O51: each command ends or feeds the probe, and a clean answer is followed to its slot and its lane. -/
theorem sweepAnswersAreJudged : Obligations.SweepAnswersAreJudged := by
  unfold Obligations.SweepAnswersAreJudged
  intro s l p ch a b n e error value ended now heard garbled rest matching alone probes
  have took : e.took error = heard := by
    rw [Engine.took, rxAfter_eq]
    rfl
  have silent : rest → e.rx.inside = false := fun outside => by
    rw [← Bool.not_eq_true, LineRx.inside_iff]
    exact fun ⟨o, inside⟩ => outside o inside
  refine ⟨fun awaits => ?_, fun other => ?_, fun period listens => ?_, fun receives rests => ?_, fun other => ?_⟩
  · rw [exec_sweepReplyWindow alone probes, if_pos awaits]
    rfl
  · rw [exec_sweepReplyWindow alone probes, if_neg other]
    rfl
  · have inReply : e.xstate.replyPeriod = true := e.xstate.replyPeriod_iff.mpr period
    have next : e.ReplyNext := listens.imp_right fun ⟨rest, low⟩ => ⟨rest, low, inReply⟩
    have going : e.destination = .probe p := next.destination_probe inReply alone probes
    refine ⟨fun few => ?_, fun two => ?_⟩
    · rw [exec_sweepAnswerCharacter going, State.answerChar_collects error value few, took]
      rfl
    · rw [exec_sweepAnswerCharacter going, State.answerChar_third error value two, took]
      rfl
  · have gap : exec (.sweepGap l) s = .next (State.selectNew (State.refresh (s.endProbe l p e.answers) l)) :=
      (exec_sweepGap alone probes).trans (if_pos ⟨receives, silent rests⟩)
    have garble (judged : judgeSweep p.range e.answers = .garble) : exec (.sweepGap l) s = now s (garbled ended) := by
      rw [gap, State.endProbe_garble judged]
      rfl
    refine ⟨fun bad => garble (judgeSweep_garble bad), fun pair => ?_⟩
    intro clean
    have judged : judgeSweep p.range e.answers = if clean then .clean a.toNat else .garble := by
      rw [pair]
      rfl
    have answered (fits : clean) :
        exec (.sweepGap l) s =
          .next (State.selectNew (State.refresh ((s.setEngine l e.probed).cleanAnswer l a.toNat) l)) := by
      rw [gap, State.endProbe_clean (judged.trans (if_pos fits))]
    refine ⟨fun unfit => garble (judged.trans (if_neg unfit)), fun fits stray => ?_, fun fits has lowest => ?_⟩
    · rw [answered fits, State.cleanAnswer_stray (s := s.setEngine l e.probed) stray]
      rfl
    have found : (s.setEngine l e.probed).slotAt l a.toNat = some n := State.slotAt_lowest has lowest
    refine ⟨fun presence => ?_, fun presence => ?_⟩
    · rw [answered fits, State.cleanAnswer_confirms found presence, State.engine_setEngine_same]
      exact congrArg (fun t => Host.Outcome.next (State.selectNew (State.refresh t l)))
        (State.setEngine_setEngine (s.setUnit n { s.unit n with presence := .seeking, confirm := 0, syncRequest := true })
          l e.probed { e.probed with run := some ⟨n, false⟩ })
    intro k again
    have restarts {t : State} (told : (again.setEngine l e.probed).laneUnitRestart k n = t) :
        exec (.sweepGap l) s = .next (State.selectNew (State.refresh t l)) := by
      rw [answered fits, State.cleanAnswer_restarts found presence]
      exact congrArg (fun t => Host.Outcome.next (State.selectNew (State.refresh t l)))
        ((State.restartDetected_eq (s := s.setEngine l e.probed) has.1).trans told)
    refine ⟨fun unused => ?_, fun used undecided => ?_, fun closing => ?_⟩
    · exact restarts (State.laneUnitRestart_unused unused)
    · exact restarts (State.laneUnitRestart_used used undecided)
    · have waives := State.laneUnitRestart_closing (s := again.setEngine l e.probed) (n := n) closing
      exact ⟨fun waits => restarts (waives.trans (State.confirmMove_waits closing waits)),
        fun last none fits => restarts (waives.trans (State.confirmMove_closes closing last none fits))⟩
  · rw [exec_sweepGap alone probes, if_neg fun both => other both.1]
    rfl

end Sys2Proof.Proofs
end

section
/-! SUPPORT. What an act of the part does to the slots' runtime records and to the serial numbers (R103 to R109, R113; log
entry 19): the directive sets, one runtime record replaced by another, and the named operations over the state. -/

namespace Sys2Proof.Machine

/-! ### Directive sets (R113) -/

theorem Directives.ok_iff (ds : Directives) :
    ds.Ok ↔
      (ds.eject = none ∨ ds.keep = none) ∧ (ds.rest = none ∨ (ds.wake = none ∧ ds.standby = none)) ∧
        ∀ d, ∀ p ∈ ds.get d, p.attempts < Config.maxAttempts := by
  refine and_congr_right fun _ => and_congr_right fun _ => ⟨fun few d p held => few p ?_, fun few p held => ?_⟩
  · cases d <;> simp_all [Directives.get]
  · simp only [List.mem_append, Option.mem_toList] at held
    obtain (((held | held) | held) | held) | held := held
    · exact few .eject p held
    · exact few .keep p held
    · exact few .standby p held
    · exact few .rest p held
    · exact few .wake p held

/-- A directive present after one is set is the new entry or was there before. -/
theorem Directives.mem_join {ds : Directives} {d e : Directive} {x p : Pending} (held : p ∈ (ds.join d x).get e) :
    p = x ∨ p ∈ ds.get e := by
  unfold Directives.join at held
  split at held
  · exact .inr held
  · cases d
    case standby =>
      dsimp only at held
      split at held
      · exact .inr held
      · cases e <;> simp_all [Directives.get]
    all_goals cases e <;> simp_all [Directives.get]

/-- A directive present after one is replaced is the new entry or was there before. -/
theorem Directives.mem_put {ds : Directives} {d e : Directive} {x : Option Pending} {p : Pending}
    (held : p ∈ (ds.put d x).get e) : (e = d ∧ p ∈ x) ∨ p ∈ ds.get e := by
  by_cases same : e = d
  · subst same
    rw [Directives.get_put_same] at held
    exact .inl ⟨rfl, held⟩
  · rw [Directives.get_put_other _ _ same] at held
    exact .inr held

/-- Setting a directive clears those it excludes (the table of R113). -/
theorem Directives.join_ok {ds : Directives} (ok : ds.Ok) (d : Directive) {x : Pending}
    (fresh : x.attempts < Config.maxAttempts) : (ds.join d x).Ok := by
  obtain ⟨cards, rests, few⟩ := ds.ok_iff.mp ok
  refine (Directives.ok_iff _).mpr ⟨?_, ?_, fun e p held => ?_⟩
  · unfold Directives.join
    split
    · exact cards
    · cases d with
      | eject => exact .inr rfl
      | keep => exact .inl rfl
      | standby => dsimp only; split <;> exact cards
      | rest | wake => exact cards
  · unfold Directives.join
    split
    · exact rests
    · cases d with
      | eject | keep => exact rests
      | standby =>
        dsimp only
        split
        · exact rests
        · next absent => exact .inl (by simpa using absent)
      | rest => exact .inr ⟨rfl, rfl⟩
      | wake => exact .inl rfl
  · rcases Directives.mem_join held with rfl | before
    · exact fresh
    · exact few e p before

/-- A directive that leaves a set, or one present whose entry is replaced, breaks no exclusion. -/
theorem Directives.put_ok {ds : Directives} (ok : ds.Ok) {d : Directive} {x : Option Pending}
    (present : ds.get d = none → x = none) (few : ∀ p ∈ x, p.attempts < Config.maxAttempts) : (ds.put d x).Ok := by
  obtain ⟨cards, rests, before⟩ := ds.ok_iff.mp ok
  refine (Directives.ok_iff _).mpr ⟨?_, ?_, fun e p held => ?_⟩
  · cases d with
    | eject => exact cards.imp_left present
    | keep => exact cards.imp_right present
    | standby | rest | wake => exact cards
  · cases d with
    | eject | keep => exact rests
    | standby => exact rests.imp_right fun ⟨wake, standby⟩ => ⟨wake, present standby⟩
    | rest => exact rests.imp_left present
    | wake => exact rests.imp_right fun ⟨wake, standby⟩ => ⟨present wake, standby⟩
  · rcases Directives.mem_put held with ⟨_, new⟩ | old
    · exact few p new
    · exact before e p old

/-! ### One runtime record after another -/

/-- `v` may follow `u` as a slot's runtime record: it agrees with its presence where `u` does, is DISABLED exactly where `u`
is, and holds directives of `u` and others numbered below `next`. -/
structure UnitRun.Follows (u v : UnitRun) (next : Nat) : Prop where
  ok : u.Ok → v.Ok
  disabled : v.presence = .disabled ↔ u.presence = .disabled
  numbered : ∀ d, ∀ p ∈ v.directives.get d, p.serial < next ∨ ∃ q ∈ u.directives.get d, p.serial = q.serial

namespace UnitRun.Follows

variable {u v : UnitRun} {next : Nat}

theorem of_same (ok : u.Ok → v.Ok := by exact id) (disabled : v.presence = .disabled ↔ u.presence = .disabled := by rfl)
    (directives : v.directives = u.directives := by rfl) : u.Follows v next :=
  ⟨ok, disabled, fun _ p held => .inr ⟨p, directives ▸ held, rfl⟩⟩

theorem refl : u.Follows u next := of_same

/-- A directive is set, with no attempt counted (R113). -/
theorem join (u : UnitRun) (d : Directive) (serial : Nat) :
    u.Follows { u with directives := u.directives.join d ⟨0, serial⟩ } (serial + 1) where
  ok := fun ⟨fail, confirm, lost, returning, head, directives⟩ =>
    ⟨fail, confirm, lost, returning, head, Directives.join_ok directives d (Nat.zero_lt_succ 7)⟩
  disabled := .rfl
  numbered _ p held := (Directives.mem_join held).imp (fun new => by simp [new]) fun old => ⟨p, old, rfl⟩

/-- A directive leaves the set, or one more attempt is counted for it (R80, R81). -/
theorem put (u : UnitRun) {d : Directive} {x : Option Pending}
    (counted : ∀ p ∈ x, p.attempts < Config.maxAttempts ∧ ∃ q ∈ u.directives.get d, p.serial = q.serial) :
    u.Follows { u with directives := u.directives.put d x } next where
  ok := fun ⟨fail, confirm, lost, returning, head, directives⟩ =>
    ⟨fail, confirm, lost, returning, head, Directives.put_ok directives
      (fun absent => Option.eq_none_iff_forall_not_mem.mpr fun p new => by
        obtain ⟨_, q, held, _⟩ := counted p new
        simp [absent] at held)
      fun p new => (counted p new).1⟩
  disabled := .rfl
  numbered e p held := by
    rcases Directives.mem_put held with ⟨rfl, new⟩ | old
    · exact .inr (counted p new).2
    · exact .inr ⟨p, old, rfl⟩

end UnitRun.Follows

/-! ### What an act keeps -/

/-- `t` comes of `s` by acts under which every runtime record stays in agreement with its presence, and every directive and
queued record numbered before the next serial number. -/
def State.KeepsSlots (s t : State) : Prop := (s.UnitsOk → t.UnitsOk) ∧ (s.SerialsOk → t.SerialsOk)

namespace State.KeepsSlots

variable {s t : State}

theorem refl : s.KeepsSlots s := ⟨id, id⟩

/-- An act that leaves runtime records, current unit records, outbound queues and the next serial number alone. -/
theorem same (h : s.KeepsSlots t) {u : State} (units : u.units = t.units := by rfl)
    (record : u.record = t.record := by rfl) (outbound : u.outbound = t.outbound := by rfl)
    (serial : u.serial = t.serial := by rfl) : s.KeepsSlots u := by
  have unit : u.unit = t.unit := funext fun n => by rw [State.unit, units]; rfl
  have queue : u.outQueue = t.outQueue := funext fun k => by rw [State.outQueue, outbound]; rfl
  refine ⟨fun ok => ?_, fun ok => ?_⟩
  · rw [State.UnitsOk, unit, record]
    exact h.1 ok
  · rw [State.SerialsOk, unit, queue, serial]
    exact h.2 ok

/-- Runtime records replaced by ones that may follow them. -/
theorem setUnits (h : s.KeepsSlots t) {units : Vector UnitRun 16} {serial : Nat} (later : t.serial ≤ serial)
    (follows : ∀ n : SlotNo, (t.unit n).Follows units[n] serial) :
    s.KeepsSlots { t with units := units, serial := serial } := by
  refine ⟨fun ok n => ?_, fun ok => ?_⟩
  · obtain ⟨own, disabled⟩ := h.1 ok n
    exact ⟨(follows n).ok own, (follows n).disabled.trans disabled⟩
  · obtain ⟨directives, records⟩ := h.2 ok
    refine ⟨fun n d p held => ?_, fun k r queued => (records k r queued).trans_le later⟩
    rcases (follows n).numbered d p (Option.mem_toList.mp held) with new | ⟨q, old, number⟩
    · exact new
    · exact number ▸ (directives n d q (Option.mem_toList.mpr old)).trans_le later

theorem setUnit (h : s.KeepsSlots t) {n : SlotNo} {u : UnitRun} (follows : (t.unit n).Follows u t.serial) :
    s.KeepsSlots (t.setUnit n u) := by
  refine h.setUnits (units := t.units.set n u) le_rfl fun m => ?_
  show (t.unit m).Follows ((t.setUnit n u).unit m) t.serial
  by_cases same : m = n
  · subst same
    rwa [State.unit_setUnit_same]
  · rw [State.unit_setUnit_other _ _ same]
    exact .refl

/-- A runtime record replaced by one with the same directives. -/
theorem sameUnit (h : s.KeepsSlots t) {n : SlotNo} {u : UnitRun} (ok : (t.unit n).Ok → u.Ok := by exact id)
    (disabled : u.presence = .disabled ↔ (t.unit n).presence = .disabled := by rfl)
    (directives : u.directives = (t.unit n).directives := by rfl) : s.KeepsSlots (t.setUnit n u) :=
  h.setUnit (.of_same ok disabled directives)

/-- Acts made one after another for the members of a list. -/
theorem foldl {α : Type} {f : State → α → State} (step : ∀ t x, s.KeepsSlots t → s.KeepsSlots (f t x)) (xs : List α)
    (h : s.KeepsSlots t) : s.KeepsSlots (xs.foldl f t) := by
  induction xs generalizing t with
  | nil => exact h
  | cons x rest ih => exact ih (step t x h)

/-! ### Named operations (Ops) -/

@[simp] theorem setLane (h : s.KeepsSlots t) (k : LaneNo) (r : LaneRecord) : s.KeepsSlots (t.setLane k r) := h.same
@[simp] theorem setEngine (h : s.KeepsSlots t) (l : Line) (e : Engine) : s.KeepsSlots (t.setEngine l e) := h.same
@[simp] theorem setLink (h : s.KeepsSlots t) (p : LinkPort) : s.KeepsSlots (t.setLink p) := h.same
@[simp] theorem storeIn (h : s.KeepsSlots t) (k : LaneNo) (r : List Byte) : s.KeepsSlots (t.storeIn k r) := h.same

@[simp] theorem raiseAlert (h : s.KeepsSlots t) (k : LaneNo) (kind : AlertKind) (d1 d2 : Byte) :
    s.KeepsSlots (t.raiseAlert k kind d1 d2) := h.same

@[simp] theorem raiseNotice (h : s.KeepsSlots t) (kind : NoticeKind) (d1 d2 : Byte) :
    s.KeepsSlots (t.raiseNotice kind d1 d2) := h.same

@[simp] theorem setDirective (h : s.KeepsSlots t) (n : SlotNo) (d : Directive) : s.KeepsSlots (t.setDirective n d) := by
  rcases t.setDirective_eq n d with e | ⟨_, e⟩ <;> rw [e]
  · exact h
  · refine h.setUnits (Nat.le_succ _) fun m => ?_
    show (t.unit m).Follows ((t.setUnit n _).unit m) (t.serial + 1)
    by_cases same : m = n
    · subst same
      rw [State.unit_setUnit_same]
      exact .join _ d _
    · rw [State.unit_setUnit_other _ _ same]
      exact .refl

@[simp] theorem setDirectiveFor (h : s.KeepsSlots t) (n : Option SlotNo) (d : Directive) :
    s.KeepsSlots (t.setDirectiveFor n d) := by
  cases n with
  | none => exact h
  | some n => exact h.setDirective n d

theorem setDirectives (h : s.KeepsSlots t) (ns : List SlotNo) (d : Directive) :
    s.KeepsSlots (ns.foldl (fun t n => t.setDirective n d) t) := foldl (fun _ n h => h.setDirective n d) ns h

/-- An outbound queue that loses records. -/
theorem dropOut (h : s.KeepsSlots t) {k : LaneNo} {q : List OutRecord} (less : q.Sublist (t.outQueue k)) :
    s.KeepsSlots (t.setOutQueue k q) := by
  refine ⟨h.1, fun ok => ?_⟩
  obtain ⟨directives, records⟩ := h.2 ok
  refine ⟨directives, fun j r queued => records j r ?_⟩
  by_cases same : j = k
  · subst same
    rw [State.outQueue_setOutQueue_same] at queued
    exact less.mem queued
  · rwa [State.outQueue_setOutQueue_other _ _ same] at queued

/-- A stored record takes the next serial number, and the counter goes on (log entry 19). -/
@[simp] theorem storeOut (h : s.KeepsSlots t) (k : LaneNo) (r : List Byte) : s.KeepsSlots (t.storeOut k r) := by
  refine ⟨h.1, fun ok => ?_⟩
  obtain ⟨directives, records⟩ := h.2 ok
  refine ⟨fun n d p held => Nat.lt_succ_of_lt (directives n d p held), fun j x queued => ?_⟩
  change x ∈ (t.setOutQueue k (t.outQueue k ++ [⟨t.serial, r⟩])).outQueue j at queued
  show x.serial < t.serial + 1
  by_cases same : j = k
  · subst same
    rw [State.outQueue_setOutQueue_same, List.mem_append, List.mem_singleton] at queued
    rcases queued with old | rfl
    · exact Nat.lt_succ_of_lt (records j x old)
    · exact Nat.lt_succ_self _
  · rw [State.outQueue_setOutQueue_other _ _ same] at queued
    exact Nat.lt_succ_of_lt (records j x queued)

@[simp] theorem clearHeadAttempts (h : s.KeepsSlots t) (k : LaneNo) : s.KeepsSlots (t.clearHeadAttempts k) :=
  foldl (fun _ _ h => h.sameUnit fun ⟨fail, confirm, lost, returning, _, directives⟩ =>
    ⟨fail, confirm, lost, returning, Nat.zero_lt_succ 7, directives⟩) _ h

@[simp] theorem flushOut (h : s.KeepsSlots t) (k : LaneNo) : s.KeepsSlots (t.flushOut k) :=
  (h.dropOut (List.nil_sublist _)).clearHeadAttempts k

@[simp] theorem dropHead (h : s.KeepsSlots t) (k : LaneNo) : s.KeepsSlots (t.dropHead k) :=
  (h.dropOut (List.tail_sublist _)).clearHeadAttempts k

@[simp] theorem countIgnored (h : s.KeepsSlots t) (n : SlotNo) (count : Nat) : s.KeepsSlots (t.countIgnored n count) :=
  h.sameUnit

/-! ### Selections (Arbiter) -/

theorem select (h : s.KeepsSlots t) (src : Source) : s.KeepsSlots (t.select src) := by
  obtain ⟨tables, _, outbound, units, _, serial, _⟩ := t.select_frame src
  exact h.same units (funext fun n => by rw [State.record, tables]; rfl) outbound serial

@[simp] theorem selectNew (h : s.KeepsSlots t) : s.KeepsSlots t.selectNew := by
  rcases t.selectNew_cases with ⟨_, e⟩ | ⟨_, src, _, e⟩ | ⟨_, _, e⟩ <;> rw [e]
  · exact h
  · exact h.select src
  · exact (h.select _).same

@[simp] theorem atOnce (h : s.KeepsSlots t) (before : State) : s.KeepsSlots (before.atOnce t) := by
  unfold State.atOnce
  split
  · exact h.selectNew
  · exact h

@[simp] theorem selectByRank (h : s.KeepsSlots t) : s.KeepsSlots t.selectByRank := by
  have won : s.KeepsSlots t.selectWinner := by
    unfold State.selectWinner
    split
    · exact h.setLink _
    · exact h.select _
  unfold State.selectByRank
  split
  · exact h
  · exact won
  · exact won

end State.KeepsSlots

end Sys2Proof.Machine
end

section
/-! SUPPORT. Runtime records and serial numbers under what happens at the lanes: unit records applied, lanes opened, closed
and faulted, lane commands, and command items delivered to units. -/

namespace Sys2Proof.Machine

/-! ### Unit records applied (R28, R117) -/

theorem UnitRun.resetFor_ok (u : UnitRun) {presence : Presence} (back : presence = .seeking ∨ presence = .disabled)
    (moved : Bool) : (u.resetFor presence moved).Ok := by
  rcases back with rfl | rfl <;> simp [UnitRun.resetFor, UnitRun.Ok, Directives.Ok, Config.maxAttempts]

/-- A record that enables, disables, moves or retunes the slot resets it to SEEKING or DISABLED; any other leaves its
presence as it is (R28). -/
theorem UnitRun.afterRecord_ok {u : UnitRun} {old new : UnitRecord} (ok : u.Ok)
    (agrees : u.presence = .disabled ↔ old.enabled = false) (busy : Bool) :
    (u.afterRecord old new busy).Ok ∧ ((u.afterRecord old new busy).presence = .disabled ↔ new.enabled = false) := by
  by_cases resets : old.Resets new
  · refine ⟨?_, ?_⟩
    · simp only [UnitRun.afterRecord, recordEffect_resets resets]
      exact UnitRun.resetFor_ok _ (by split <;> simp) _
    · rw [(u.afterRecord_resets busy resets).1]
      cases new.enabled <;> simp
  · have enabled : new.enabled = old.enabled := by
      by_contra changed
      exact resets (.inl (Ne.symm changed))
    obtain ⟨fail, confirm, lost, returning, head, directives⟩ := ok
    have few : (if old.lane = new.lane then u.headAttempts else 0) < Config.maxAttempts := by
      split
      · exact head
      · exact Nat.zero_lt_succ 7
    rw [enabled, UnitRun.afterRecord, recordEffect_keeps resets]
    by_cases off : old.enabled = false ∧ old.moved new = true
    · rw [agrees.mpr off.1] at fail confirm lost returning
      simp only [if_pos off]
      exact ⟨⟨fail, confirm, lost, returning, few, directives⟩, iff_of_true trivial off.1⟩
    · simp only [if_neg off]
      exact ⟨⟨fail, confirm, lost, returning, few, directives⟩, agrees⟩

/-- Applying a record keeps the slot's directives or clears them (R28). -/
theorem UnitRun.afterRecord_directives (u : UnitRun) (old new : UnitRecord) (busy : Bool) :
    (u.afterRecord old new busy).directives = u.directives ∨ (u.afterRecord old new busy).directives = {} := by
  unfold UnitRun.afterRecord
  cases recordEffect old new with
  | keep | clearCounters => exact .inl rfl
  | resetTo presence => exact .inr rfl

namespace State.KeepsSlots

variable {s t : State}

theorem applyRecord (h : s.KeepsSlots t) (n : SlotNo) (new : UnitRecord) : s.KeepsSlots (t.applyRecord n new) := by
  refine ⟨fun ok m => ?_, fun ok => ?_⟩
  · show ((t.setUnit n _).unit m).Ok ∧ (((t.setUnit n _).unit m).presence = .disabled ↔ _)
    by_cases same : m = n
    · subst same
      obtain ⟨own, disabled⟩ := h.1 ok m
      rw [State.unit_setUnit_same, State.applyRecord, State.record_setEntry_same]
      exact UnitRun.afterRecord_ok own disabled _
    · rw [State.unit_setUnit_other _ _ same, State.applyRecord, State.record_setEntry_other _ _ same]
      exact h.1 ok m
  · obtain ⟨directives, records⟩ := h.2 ok
    refine ⟨fun m d p held => ?_, records⟩
    change p ∈ (((t.setUnit n _).unit m).directives.get d).toList at held
    by_cases same : m = n
    · subst same
      rw [State.unit_setUnit_same] at held
      rcases (t.unit m).afterRecord_directives (t.record m) new (t.exchangeWith m) with kept | cleared
      · exact directives m d p (kept ▸ held)
      · rw [cleared] at held
        cases d <;> simp [Directives.get] at held
    · rw [State.unit_setUnit_other _ _ same] at held
      exact directives m d p held

@[simp] theorem applyAllStaged (h : s.KeepsSlots t) : s.KeepsSlots t.applyAllStaged := by
  refine foldl (fun t n h => ?_) _ h
  unfold State.applyStaged
  split
  · exact h
  · split
    · exact h.applyRecord n _
    · exact h

/-! ### Lanes -/

@[simp] theorem faultDecision (h : s.KeepsSlots t) (k : LaneNo) : s.KeepsSlots (t.faultDecision k) := by
  unfold State.faultDecision State.dropDecision
  split
  · exact h
  · split
    · exact h.setLane k _
    · split <;> simp [h]

@[simp] theorem faultLane (h : s.KeepsSlots t) (k : LaneNo) (reason : FaultReason) :
    s.KeepsSlots (t.faultLane k reason) := ((h.setLane k _).faultDecision k).raiseAlert k _ _ _

@[simp] theorem overrun (h : s.KeepsSlots t) (k : LaneNo) : s.KeepsSlots (t.overrun k) := by
  rcases t.overrun_cases k with ⟨_, e⟩ | ⟨_, e⟩ <;> simp [e, h]

@[simp] theorem overrunIf (h : s.KeepsSlots t) (k : LaneNo) (lost : Bool) : s.KeepsSlots (t.overrunIf k lost) := by
  cases lost <;> simp [h]

@[simp] theorem writeInternal (h : s.KeepsSlots t) (k : LaneNo) (kind : EventKind) (content : List Byte) :
    s.KeepsSlots (t.writeInternal k kind content).1 := by
  rcases t.writeInternal_cases k kind content with ⟨_, e⟩ | ⟨_, e⟩ <;> simp [e, h]

@[simp] theorem written {w : State × Bool} (h : s.KeepsSlots w.1) (before : State) (k : LaneNo) :
    s.KeepsSlots (before.written k w) := by
  unfold State.written
  split <;> simp [h]

@[simp] theorem report (h : s.KeepsSlots t) (k : LaneNo) (kind : EventKind) (content : List Byte) :
    s.KeepsSlots (t.report k kind content) := (h.writeInternal k kind content).written t k

@[simp] theorem checkClosing (h : s.KeepsSlots t) (k : LaneNo) : s.KeepsSlots (t.checkClosing k) := by
  unfold State.checkClosing
  split
  · exact (((h.setLane k _).writeInternal k _ _).setLane k _).applyAllStaged
  · exact h

@[simp] theorem confirmMove (h : s.KeepsSlots t) (k : LaneNo) (n : SlotNo) (f : Confirmation → Confirmation) :
    s.KeepsSlots (t.confirmMove k n f) := by
  unfold State.confirmMove
  split <;> simp [h]

@[simp] theorem dropWindow (h : s.KeepsSlots t) (k : LaneNo) : s.KeepsSlots (t.dropWindow k) := h.setLane k _

@[simp] theorem cancelWindow (h : s.KeepsSlots t) (k : LaneNo) (reason : CancelReason) :
    s.KeepsSlots (t.cancelWindow k reason).1 := by
  by_cases live : (t.lane k).windowLive
  · simp [State.cancelWindow_live live, h]
  · simp [State.cancelWindow_quiet live, h]

@[simp] theorem returnCard (h : s.KeepsSlots t) (k : LaneNo) : s.KeepsSlots (t.returnCard k) := by
  unfold State.returnCard State.dropDecision
  split <;> simp [h]

@[simp] theorem enterClosing (h : s.KeepsSlots t) (k : LaneNo) : s.KeepsSlots (t.enterClosing k) := by
  have begun : s.KeepsSlots (t.beginClosing k).1 := by
    refine foldl (fun t n h => ?_) _
      ((((((h.setLane k _).flushOut k).cancelWindow k .closed).setLane k _).returnCard k).setLane k _)
    split <;> simp [h]
  exact (begun.checkClosing k).overrunIf k _

@[simp] theorem checkOpening (h : s.KeepsSlots t) (k : LaneNo) : s.KeepsSlots (t.checkOpening k) := by
  unfold State.checkOpening
  split <;> simp [h]

@[simp] theorem wakeTaken (h : s.KeepsSlots t) (k : LaneNo) (n : SlotNo) : s.KeepsSlots (t.wakeTaken k n) := by
  unfold State.wakeTaken
  split <;> simp [h]

@[simp] theorem beginOpening (h : s.KeepsSlots t) (k : LaneNo) (tag : Word16) : s.KeepsSlots (t.beginOpening k tag) :=
  ((h.setLane k _).setDirectives _ .wake).checkOpening k

@[simp] theorem laneUnitLost (h : s.KeepsSlots t) (k : LaneNo) (n : SlotNo) : s.KeepsSlots (t.laneUnitLost k n) := by
  have told := (h.raiseAlert k .unitLost (t.record n).kind.role 0).atOnce t
  unfold State.laneUnitLost
  dsimp only
  split
  · exact told.faultLane k _
  · exact told.faultLane k _
  · exact told.confirmMove k n _
  · exact told
  · exact told

@[simp] theorem restartDetected (h : s.KeepsSlots t) (n : SlotNo) : s.KeepsSlots (t.restartDetected n) := by
  have again : s.KeepsSlots (t.setUnit n { t.unit n with syncRequest := true, baseline := none, pendingFlags := none }) :=
    h.sameUnit
  unfold State.restartDetected
  dsimp only
  split
  · exact again
  · unfold State.laneUnitRestart
    split <;> simp [again]

@[simp] theorem standbyLane (h : s.KeepsSlots t) (k : LaneNo) : s.KeepsSlots (t.standbyLane k) := by
  unfold State.standbyLane
  split
  · exact ((((h.setLane k _).cancelWindow k .link).returnCard k).setDirectives _ .standby).overrunIf k _
  · exact h

@[simp] theorem resolveDecision (h : s.KeepsSlots t) (k : LaneNo) (d : CardDecision) (keep : Bool) (cause : Byte) :
    s.KeepsSlots (t.resolveDecision k d keep cause) := ((h.setLane k _).setDirective d.slot _).report k _ _

@[simp] theorem decisionExpires (h : s.KeepsSlots t) (k : LaneNo) : s.KeepsSlots (t.decisionExpires k) := by
  unfold State.decisionExpires
  split <;> simp [h]

/-! ### Lane commands -/

@[simp] theorem badCommand (h : s.KeepsSlots t) (k : LaneNo) (reason : BadReason) (position : Nat) :
    s.KeepsSlots (t.badCommand k reason position) := h.raiseAlert k _ _ _

@[simp] theorem lostCommand (h : s.KeepsSlots t) (k : LaneNo) (position : Nat) :
    s.KeepsSlots (t.lostCommand k position) := h.raiseAlert k _ _ _

@[simp] theorem queueCommand (h : s.KeepsSlots t) (k : LaneNo) (position : Nat) (cmd : LaneCmd) :
    s.KeepsSlots (t.queueCommand k position cmd).after := by
  unfold State.queueCommand
  split
  · exact h
  · unfold State.queueRecord
    split <;> simp [h]

@[simp] theorem actClear (h : s.KeepsSlots t) (k : LaneNo) : s.KeepsSlots (t.actClear k) := by
  have flushed : s.KeepsSlots (((t.setLane k { t.lane k with overflow := false }).flushOut k).flushIn k) :=
    ((h.setLane k _).flushOut k).same
  unfold State.actClear
  dsimp only
  split <;> simp [flushed]

@[simp] theorem act (h : s.KeepsSlots t) (k : LaneNo) (position : Nat) (cmd : LaneCmd) :
    s.KeepsSlots (t.act k position cmd).after := by
  cases cmd with
  | openLane tag =>
    show s.KeepsSlots (t.actOpen k tag position)
    unfold State.actOpen
    split <;> simp [h]
  | decideCard choice =>
    show s.KeepsSlots (t.actDecide k choice)
    unfold State.actDecide
    split <;> simp [h]
  | close | clear | showText | tone | reader | entry | pin | unlock => simp [State.act, h]

@[simp] theorem perform (h : s.KeepsSlots t) (k : LaneNo) (position : Nat) (lost : Bool) (cmd : LaneCmd) :
    s.KeepsSlots (t.perform k position lost cmd).after := by
  have checked : s.KeepsSlots (t.checked k position cmd).after := by
    unfold State.checked
    split
    · exact h.badCommand k _ _
    · split
      · exact h.badCommand k _ _
      · split <;> simp [h]
  unfold State.perform
  split <;> split <;> simp [h, checked]

theorem parseBody (h : s.KeepsSlots t) (k : LaneNo) (fuel position : Nat) (lost : Bool) (body : List Byte) :
    s.KeepsSlots (t.parseBody k fuel position lost body) := by
  induction fuel generalizing t position lost body with
  | zero => exact h
  | succ fuel ih =>
    rw [State.parseBody]
    split
    · exact h
    · split
      · exact h.badCommand k _ _
      · exact ih (h.perform k _ _ _) _ _ _

/-! ### Delivery -/

theorem dropDirective (h : s.KeepsSlots t) (n : SlotNo) (d : Directive) : s.KeepsSlots (t.dropDirective n d) :=
  h.setUnit (.put (t.unit n) (x := none) nofun)

theorem keypadTook (h : s.KeepsSlots t) (n : SlotNo) : s.KeepsSlots (t.keypadTook n) := by
  unfold State.keypadTook
  split
  · exact h
  · split <;> simp [h]

@[simp] theorem beginTaken (h : s.KeepsSlots t) (k : LaneNo) (n : SlotNo) (r : List Byte) :
    s.KeepsSlots (t.beginTaken k n r) := by
  have replaced := (h.cancelWindow k .replaced).written t k
  unfold State.beginTaken
  dsimp only
  split
  · split
    · exact (h.setLane k _).report k _ _
    · split <;> simp [replaced]
  · exact h

@[simp] theorem unlockTaken (h : s.KeepsSlots t) (k : LaneNo) : s.KeepsSlots (t.unlockTaken k) := by
  unfold State.unlockTaken
  split
  · exact h
  · split <;> simp [h]

theorem recordTaken (h : s.KeepsSlots t) (k : LaneNo) (n : SlotNo) (r : List Byte) (attempts : Nat) :
    s.KeepsSlots (t.recordTaken k n r attempts) := by
  have effect : s.KeepsSlots (t.windowEffect k n r) := by
    unfold State.windowEffect
    split <;> simp [h]
  unfold State.recordTaken
  dsimp only
  split <;> simp [effect]

theorem directiveTaken (h : s.KeepsSlots t) (n : SlotNo) (d : Directive) : s.KeepsSlots (t.directiveTaken n d) := by
  unfold State.directiveTaken
  split <;> simp [h]

@[simp] theorem settleTaken (h : s.KeepsSlots t) (n : SlotNo) (it : Item) : s.KeepsSlots (t.settleTaken n it) := by
  have flipped : s.KeepsSlots (t.setUnit n { t.unit n with c := !(t.unit n).c }) := h.sameUnit
  unfold State.settleTaken
  dsimp only
  split
  · cases it with
    | directive d serial => exact ((flipped.dropDirective n d).keypadTook n).directiveTaken n d
    | record k serial =>
      unfold State.takeItem
      dsimp only
      split
      · exact flipped
      · exact ((flipped.dropHead k).keypadTook n).recordTaken k n _ _
  · exact flipped

@[simp] theorem undelivered (h : s.KeepsSlots t) (n : SlotNo) (code : Byte) : s.KeepsSlots (t.undelivered n code) := by
  unfold State.undelivered
  split <;> simp [h]

theorem directiveGivenUp (h : s.KeepsSlots t) (n : SlotNo) (d : Directive) : s.KeepsSlots (t.directiveGivenUp n d) := by
  unfold State.directiveGivenUp
  split
  · split <;> simp [h]
  all_goals simp [h]

theorem giveUp (h : s.KeepsSlots t) (n : SlotNo) (it : Item) : s.KeepsSlots (t.giveUp n it) := by
  cases it with
  | directive d serial => exact (((h.dropDirective n d).undelivered n d.code).atOnce t).directiveGivenUp n d
  | record k serial =>
    unfold State.giveUp
    dsimp only
    split
    · exact h
    · exact (h.dropHead k).undelivered n _

/-- One more attempt, which is not the eighth, is counted for an item that is still there (R81). -/
theorem raiseAttempts (h : s.KeepsSlots t) {n : SlotNo} {it : Item} (present : t.itemPending n it = true)
    (few : (t.unit n).attempts it + 1 < Config.maxAttempts) :
    s.KeepsSlots (t.setUnit n ((t.unit n).raiseAttempts it)) := by
  cases it with
  | directive d serial =>
    refine h.setUnit (.put (t.unit n) fun p new => ?_)
    cases Option.mem_some_iff.mp new
    simp only [State.itemPending] at present
    split at present
    · cases present
    · next q held => exact ⟨few, q, held, (by simpa using present : q.serial = serial).symm⟩
  | record k serial =>
    exact h.sameUnit fun ⟨fail, confirm, lost, returning, _, directives⟩ =>
      ⟨fail, confirm, lost, returning, few, directives⟩

@[simp] theorem countAttempt (h : s.KeepsSlots t) (n : SlotNo) (it : Item) : s.KeepsSlots (t.countAttempt n it) := by
  unfold State.countAttempt
  split
  · next present =>
    split
    · next few => exact h.raiseAttempts present few
    · exact h.giveUp n it
  · exact h

@[simp] theorem setDoubt (h : s.KeepsSlots t) (n : SlotNo) (d : Option Item) : s.KeepsSlots (t.setDoubt n d) := h.sameUnit

theorem commandEnds (h : s.KeepsSlots t) (n : SlotNo) (it : Item) (o : ExchangeOutcome) :
    s.KeepsSlots (t.commandEnds n it o) := by
  unfold State.commandEnds
  split
  · split <;> simp [h]
  · simp [h]

theorem settleDoubt (h : s.KeepsSlots t) (n : SlotNo) (r : Reply) : s.KeepsSlots (t.settleDoubt n r) := by
  unfold State.settleDoubt
  split
  · exact h
  · split <;> simp [h]

theorem settleItems (h : s.KeepsSlots t) (x : Exchange) (o : ExchangeOutcome) (trusted : Bool) :
    s.KeepsSlots (t.settleItems x o trusted) := by
  unfold State.settleItems
  split
  · exact h.commandEnds _ _ _
  case h_3 | h_4 =>
    split
    · exact h.settleDoubt _ _
    · exact h
  all_goals exact h

end State.KeepsSlots

end Sys2Proof.Machine
end

section
/-! SUPPORT. Runtime records and serial numbers under replies taken by the lanes, and under the outcomes of exchanges. -/

namespace Sys2Proof.Machine

/-! The proofs are elaborated one after another, so that the check stays within its memory limit. -/

set_option Elab.async false

namespace State.KeepsSlots

variable {s t : State}

/-! ### Replies -/

/-- A reply is held with nothing changed, or its changes are made and its record stored (R124). -/
theorem acceptWith (h : s.KeepsSlots t) (k : LaneNo) {record : Option (List Byte)} {changed : State → State}
    (hc : s.KeepsSlots (changed t)) : s.KeepsSlots (t.acceptWith k record changed).after := by
  rcases t.acceptWith_cases k record changed with ⟨_, e⟩ | ⟨r, _, _, e⟩ | ⟨r, _, _, e⟩ <;> rw [e]
  · exact hc
  · exact hc.storeIn k r
  · exact h

@[simp] theorem discardKeys (h : s.KeepsSlots t) (n : SlotNo) (count : Nat) :
    s.KeepsSlots (t.discardKeys n count).after := h.countIgnored n count

theorem openKeys (h : s.KeepsSlots t) (k : LaneNo) (n : SlotNo) (keys : List LogicalKey) :
    s.KeepsSlots (t.openKeys k n keys).after := by
  unfold State.openKeys
  split
  · exact h
  · split
    · split
      · exact h.discardKeys n _
      · exact h.acceptWith k h
    · split
      · unfold State.collectKeys
        split <;> exact h.acceptWith k ((h.setLane k _).countIgnored n _)
      all_goals exact h.discardKeys n _

theorem laneCall (h : s.KeepsSlots t) (k : LaneNo) (cause : Byte) : s.KeepsSlots (t.laneCall k cause).after := by
  unfold State.laneCall
  split
  · exact h
  · exact h.acceptWith k (h.setLane k _)

theorem takeKeys (h : s.KeepsSlots t) (k : LaneNo) (n : SlotNo) (marked : Bool) (raws : List Byte) :
    s.KeepsSlots (t.takeKeys k n marked raws).after := by
  unfold State.takeKeys
  split
  · exact h.laneCall k 1
  · exact h.discardKeys n _
  · split
    · split
      · exact h.discardKeys n _
      · exact h.openKeys k n _
    · exact h.discardKeys n _
  · exact h
  · exact h

theorem takeFragment (h : s.KeepsSlots t) (k : LaneNo) (n : SlotNo) (flags : Byte) (chars : List Byte) :
    s.KeepsSlots (t.takeFragment k n flags chars).after := by
  unfold State.takeFragment
  split
  · exact h.countIgnored n _
  · exact (h.setLane k _).countIgnored n _
  · exact h.acceptWith k ((h.setLane k _).countIgnored n _)

theorem takeCard (h : s.KeepsSlots t) (k : LaneNo) (n : SlotNo) (payload : List Byte) :
    s.KeepsSlots (t.takeCard k n payload).after := by
  unfold State.takeCard
  split
  · exact h.laneCall k 2
  · split <;> simp [h]
  · split
    · exact h
    · split
      · exact h
      · split
        · exact h.takeFragment k n _ _
        · exact h.countIgnored n _
  · exact h
  · exact h

theorem takeStatus (h : s.KeepsSlots t) (k : LaneNo) (n : SlotNo) (b : Byte) :
    s.KeepsSlots (t.takeStatus k n b).after := by
  have applied (e : StatusEffect) : s.KeepsSlots (t.applyStatus n e) := by
    cases e with
    | restart => exact h.restartDetected n
    | baseline | unchanged | adopted | noted => exact h.sameUnit
  unfold State.takeStatus
  dsimp only
  split
  · exact applied _
  · exact h.acceptWith k (applied _)

theorem takeBlock (h : s.KeepsSlots t) (k : LaneNo) (n : SlotNo) (block : List Byte) :
    s.KeepsSlots (t.takeBlock k n block).after := by
  have refused : s.KeepsSlots (t.refuseBlock n).after := h.countIgnored n 1
  unfold State.takeBlock
  split
  · exact refused
  · exact refused
  · unfold State.openBlock
    split
    · exact refused
    · split
      · split
        · exact h.acceptWith k (h.setLane k _)
        · exact refused
      · exact refused
  · exact h
  · exact h

theorem takeData (h : s.KeepsSlots t) (k : LaneNo) (n : SlotNo) (r : Reply) : s.KeepsSlots (t.takeData k n r).after := by
  have unmarked : s.KeepsSlots (t.unmarked k n) := by
    rw [State.unmarked_eq]
    exact h.setLane k _
  obtain ⟨kind, seq, taken, busy, payload⟩ := r
  cases kind with
  | idle => exact unmarked
  | keys => exact unmarked.takeKeys k n _ payload
  | card => exact unmarked.takeCard k n payload
  | status => exact unmarked.takeStatus k n _
  | pinBlock => exact unmarked.takeBlock k n payload

theorem handleKind (h : s.KeepsSlots t) (k : LaneNo) (n : SlotNo) (r : Reply) : s.KeepsSlots (t.handleKind k n r) := by
  unfold State.handleKind
  split
  · exact h.sameUnit.confirmMove k n _
  · split
    · exact (h.takeData k n r).sameUnit.confirmMove k n _
    · exact h.sameUnit

theorem handleReply (h : s.KeepsSlots t) (n : SlotNo) (kind : TelegramKind) (r : Reply) :
    s.KeepsSlots (t.handleReply n kind r) := by
  have shut (k : LaneNo) : s.KeepsSlots (t.shutDone k) := by
    unfold State.shutDone
    split
    · exact h
    · split
      · split <;> exact h.same
      · exact h
  unfold State.handleReply
  split
  · exact h
  · next k _ =>
    split
    · exact (shut k).handleKind k n r
    · exact h.handleKind k n r

end State.KeepsSlots

/-! ### Presence (R105 to R109) -/

/-- What each presence asks of the fail count, the confirm count and the returning flag. -/
def UnitRun.CountsOk (u : UnitRun) : Prop :=
  match u.presence with
  | .disabled => u.fail = 0 ∧ u.confirm = 0 ∧ u.returning = false
  | .seeking => u.fail = 0 ∧ u.confirm ≤ 1
  | .locked => u.fail = 0 ∧ u.confirm = 0 ∧ u.returning = false
  | .faltering => 1 ≤ u.fail ∧ u.fail ≤ 2 ∧ u.confirm = 0 ∧ u.returning = false
  | .lost => u.fail = 0 ∧ u.confirm = 0 ∧ u.returning = true

theorem UnitRun.ok_iff_counts (u : UnitRun) :
    u.Ok ↔ u.CountsOk ∧ u.headAttempts < Config.maxAttempts ∧ u.directives.Ok := by
  unfold UnitRun.CountsOk
  cases presence : u.presence <;> grind

/-- A runtime record whose counts and presence alone have moved. -/
theorem UnitRun.Ok.recounted {u v : UnitRun} (ok : u.Ok) (counts : u.CountsOk → v.CountsOk)
    (head : v.headAttempts = u.headAttempts := by rfl) (directives : v.directives = u.directives := by rfl) : v.Ok := by
  rw [UnitRun.ok_iff_counts] at ok ⊢
  exact ⟨counts ok.1, head ▸ ok.2.1, directives ▸ ok.2.2⟩

/-- What a SYNC that ends VALID does not reset (R78). -/
theorem UnitRun.afterValid_kept (u : UnitRun) (kind : TelegramKind) :
    (u.afterValid kind).presence = u.presence ∧ (u.afterValid kind).confirm = u.confirm ∧
      (u.afterValid kind).fail = u.fail ∧ (u.afterValid kind).returning = u.returning ∧
      (u.afterValid kind).headAttempts = u.headAttempts ∧ (u.afterValid kind).directives = u.directives := by
  unfold UnitRun.afterValid
  split <;> exact ⟨rfl, rfl, rfl, rfl, rfl, rfl⟩

namespace State.KeepsSlots

variable {s t : State}

@[simp] theorem countOutcome (h : s.KeepsSlots t) (n : SlotNo) (o : ExchangeOutcome) : s.KeepsSlots (t.countOutcome n o) :=
  h.sameUnit

/-- A slot becomes LOCKED on its second confirmation (R106). -/
theorem lockUnit (h : s.KeepsSlots t) {n : SlotNo} (seeking : (t.unit n).presence = .seeking) :
    s.KeepsSlots (t.lockUnit n) := by
  have locked : s.KeepsSlots (t.setUnit n (t.unit n).locked) :=
    h.sameUnit (fun ok => ok.recounted fun _ => ⟨rfl, rfl, rfl⟩) (by simp [UnitRun.locked, seeking])
  unfold State.lockUnit State.unitBack
  dsimp only
  split
  · split <;> simp [locked]
  · exact locked

theorem presenceValid (h : s.KeepsSlots t) (n : SlotNo) (kind : TelegramKind) :
    s.KeepsSlots (t.presenceValid n kind) := by
  obtain ⟨presence, confirm, fail, returning, head, directives⟩ := (t.unit n).afterValid_kept kind
  have valid : s.KeepsSlots (t.setUnit n ((t.unit n).afterValid kind)) :=
    h.sameUnit (fun ok => ok.recounted (by simp only [UnitRun.CountsOk, presence, confirm, fail, returning, imp_self])
      head directives) (by rw [presence]) directives
  unfold State.presenceValid
  dsimp only
  split
  · exact h
  · next locked =>
    exact h.sameUnit (fun ok => ok.recounted (by grind [UnitRun.CountsOk]) head directives) (by simp [*]) directives
  · next faltering =>
    exact h.sameUnit (fun ok => ok.recounted (by grind [UnitRun.CountsOk]) head directives) (by simp [*]) directives
  · next seeking =>
    split
    · next first =>
      exact h.sameUnit (fun ok => ok.recounted (by grind [UnitRun.CountsOk]) head directives) (by simp [*]) directives
    · exact valid.lockUnit (by rw [State.unit_setUnit_same, presence, seeking])
  · next lost =>
    split
    · exact h.sameUnit (fun ok => ok.recounted (by grind [UnitRun.CountsOk]) head directives) (by simp [*]) directives
    · exact h

theorem presenceFailed (h : s.KeepsSlots t) (n : SlotNo) : s.KeepsSlots (t.presenceFailed n) := by
  unfold State.presenceFailed
  split
  · exact h
  · next locked => exact h.sameUnit (fun ok => ok.recounted (by grind [UnitRun.CountsOk])) (by simp [locked])
  · next faltering =>
    split
    · next few =>
      exact h.sameUnit (fun ok => ok.recounted (by grind [UnitRun.CountsOk]))
    · have lost : s.KeepsSlots (t.setUnit n { t.unit n with presence := .lost, fail := 0, returning := true }) :=
        h.sameUnit (fun ok => ok.recounted (by grind [UnitRun.CountsOk])) (by simp [faltering])
      unfold State.loseUnit
      dsimp only
      split <;> simp [lost]
  · next seeking => exact h.sameUnit (fun ok => ok.recounted (by grind [UnitRun.CountsOk]))
  · exact h

theorem outcomePresence (h : s.KeepsSlots t) (n : SlotNo) (kind : TelegramKind) (o : ExchangeOutcome) :
    s.KeepsSlots (t.outcomePresence n kind o) := by
  unfold State.outcomePresence
  split
  · exact (h.countOutcome n o).presenceValid n kind
  · exact (h.countOutcome n o).presenceFailed n

theorem handleOutcome (h : s.KeepsSlots t) (x : Exchange) (o : ExchangeOutcome) :
    s.KeepsSlots (t.handleOutcome x o) := by
  have settled := ((((h.outcomePresence x.slot x.kind o).atOnce t).settleItems x o (t.trusted x.slot)).atOnce t)
  unfold State.handleOutcome State.outcomeReply
  split
  · split
    · exact settled.handleReply _ _ _
    · exact settled
  · exact settled

@[simp] theorem giveOutcome (h : s.KeepsSlots t) (x : Exchange) (o : ExchangeOutcome) :
    s.KeepsSlots (t.giveOutcome x o) := by
  unfold State.giveOutcome
  split
  · exact h.sameUnit
  · exact h.handleOutcome x o

end State.KeepsSlots

end Sys2Proof.Machine
end

section
/-! SUPPORT. Runtime records and serial numbers under what the drop line engines do. -/

namespace Sys2Proof.Machine.State.KeepsSlots

/-! The proofs are elaborated one after another, so that the check stays within its memory limit. -/

set_option Elab.async false

variable {s t : State}

/-! ### Passes and runs (R86 to R90, R96) -/

@[simp] theorem refresh (h : s.KeepsSlots t) (l : Line) : s.KeepsSlots (t.refresh l) := by
  rw [State.refresh_eq]
  exact h.setEngine l _

theorem startRun (h : s.KeepsSlots t) (l : Line) (n : SlotNo) (atEntry : Bool) :
    s.KeepsSlots (t.startRun l n atEntry) :=
  (h.sameUnit fun ⟨fail, _, lost, returning, head, directives⟩ =>
    ⟨fail, ⟨Nat.zero_le 1, absurd rfl⟩, lost, returning, head, directives⟩).setEngine l _

@[simp] theorem entryDue (h : s.KeepsSlots t) (l : Line) (p : Nat) (n : SlotNo) (a : EntryAction) :
    s.KeepsSlots (t.entryDue l p n a) := by
  unfold State.entryDue
  dsimp only
  split
  · exact (h.setEngine l _).startRun l n true
  · exact h.setEngine l _

@[simp] theorem sweepDue (h : s.KeepsSlots t) (l : Line) : s.KeepsSlots (t.sweepDue l) := h.setEngine l _
@[simp] theorem waitTick (h : s.KeepsSlots t) (l : Line) : s.KeepsSlots (t.waitTick l) := h.setEngine l _

@[simp] theorem beginPass (h : s.KeepsSlots t) (l : Line) : s.KeepsSlots (t.beginPass l) := by
  unfold State.beginPass
  dsimp only
  split
  · exact (h.setEngine l _).entryDue l _ _ _
  · split
    · exact (h.setEngine l _).sweepDue l
    · exact (h.setEngine l _).waitTick l

@[simp] theorem endPass (h : s.KeepsSlots t) (l : Line) : s.KeepsSlots (t.endPass l) := by
  unfold State.endPass
  split
  · exact h.sweepDue l
  · split <;> simp [h]

@[simp] theorem reachNext (h : s.KeepsSlots t) (l : Line) : s.KeepsSlots (t.reachNext l) := by
  unfold State.reachNext
  split
  · exact h.endPass l
  · split <;> simp [h]

@[simp] theorem endRun (h : s.KeepsSlots t) (l : Line) (r : ConfirmRun) : s.KeepsSlots (t.endRun l r) := by
  rw [State.endRun_eq]
  exact h.setEngine l _

@[simp] theorem nextDue (h : s.KeepsSlots t) (l : Line) : s.KeepsSlots (t.nextDue l) := by
  unfold State.nextDue
  split <;> simp [h]

@[simp] theorem advance (h : s.KeepsSlots t) (l : Line) : s.KeepsSlots (t.advance l) := by
  unfold State.advance
  split
  · exact h.nextDue l
  · split <;> simp [h]

theorem wakeEngine (h : s.KeepsSlots t) (l : Line) : s.KeepsSlots (t.wakeEngine l) := by
  unfold State.wakeEngine
  split <;> simp [h]

/-! ### Transmissions (R45, R53, R64, R91) -/

theorem adopt (h : s.KeepsSlots t) (l : Line) : s.KeepsSlots (t.adopt l) := by
  unfold State.adopt
  split <;> exact h.same

theorem recheck (h : s.KeepsSlots t) (l : Line) : s.KeepsSlots (t.recheck l) := by
  unfold State.recheck
  split
  · split <;> simp [h]
  · split
    · exact h.reachNext l
    · split <;> simp [h]
  · exact h

theorem sendTelegram (h : s.KeepsSlots t) (l : Line) : s.KeepsSlots (t.sendTelegram l) := by
  unfold State.sendTelegram State.beginTelegram
  dsimp only
  split
  · exact h.setEngine l _
  · split
    · exact h.recheck l
    · exact ((h.recheck l).adopt l).setEngine l _

theorem sendProbe (h : s.KeepsSlots t) (l : Line) : s.KeepsSlots (t.sendProbe l) := by
  unfold State.sendProbe
  split
  · exact h.setEngine l _
  · exact (h.adopt l).setEngine l _

/-! ### Exchanges and probes that end (R51, R65, R71, R93 to R95) -/

theorem endExchange (h : s.KeepsSlots t) (l : Line) (x : Exchange) (o : ExchangeOutcome) (after : XState) :
    s.KeepsSlots (t.endExchange l x o after) := by
  have given := (h.setEngine l { t.engine l with
    exchange := none, received := [], conflicts := 0, xstate := after }).giveOutcome x o
  unfold State.endExchange State.settleRun
  dsimp only
  split
  · split
    · exact given.setEngine l _
    · exact given
  · split
    · exact given.endRun l _
    · exact given

theorem cleanAnswer (h : s.KeepsSlots t) (l : Line) (address : Nat) : s.KeepsSlots (t.cleanAnswer l address) := by
  unfold State.cleanAnswer
  split
  · exact h.raiseNotice _ _ _
  · next n _ =>
    split
    · exact h.startRun l n false
    · next lost =>
      have seeking : s.KeepsSlots (t.setUnit n { t.unit n with presence := .seeking }) :=
        h.sameUnit (fun ok => ok.recounted (by grind [UnitRun.CountsOk])) (by simp [lost])
      exact seeking.startRun l n false
    · exact h.restartDetected n
    · exact h.restartDetected n
    · exact h

theorem endProbe (h : s.KeepsSlots t) (l : Line) (p : Probe) (answers : List (Byte × Bool)) :
    s.KeepsSlots (t.endProbe l p answers) := by
  have ended := h.setEngine l { t.engine l with probe := none, answers := [], conflicts := 0, xstate := .guarding }
  unfold State.endProbe State.judgeAnswer State.garble
  split
  · exact ended
  · exact ended.cleanAnswer l _
  · split <;> exact ended.setEngine l _

theorem deliver (h : s.KeepsSlots t) (l : Line) (ch : Sampled) : s.KeepsSlots (t.deliver l ch) := by
  have took (err : CharError) : s.KeepsSlots (t.takeChar l err true) := h.setEngine l _
  unfold State.deliver
  dsimp only
  split
  · exact h.setEngine l _
  · next x _ =>
    unfold State.replyChar
    dsimp only
    split
    · exact (took _).endExchange l x _ _
    · split
      · exact (took _).endExchange l x _ _
      · split
        · exact (took _).endExchange l x _ _
        · exact (took _).setEngine l _
  · next p _ =>
    unfold State.answerChar
    dsimp only
    split
    · exact (took _).endProbe l p _
    · exact (took _).setEngine l _
  · exact (took _).setEngine l _
  · split
    · exact h
    · exact took _

theorem deliverRun (h : s.KeepsSlots t) (l : Line) (chars : List Sampled) : s.KeepsSlots (t.deliverRun l chars) :=
  foldl (fun _ ch h => (h.deliver l ch).refresh l) chars h

theorem afterConflict (h : s.KeepsSlots t) (l : Line) : s.KeepsSlots (t.afterConflict l) := by
  unfold State.afterConflict
  split
  · exact h
  · split
    · exact (h.endExchange l _ _ _).advance l
    · exact (h.setEngine l _).beginPass l
    · exact h

/-! ### The line watchdog and a new ring (R57, R58, R90) -/

theorem countStuck (h : s.KeepsSlots t) (l : Line) : s.KeepsSlots (t.countStuck l) := (h.setEngine l _).raiseNotice _ _ _

theorem recover (h : s.KeepsSlots t) (l : Line) : s.KeepsSlots (t.recover l) := by
  have reset : s.KeepsSlots (t.lineReset l) := by
    unfold State.lineReset
    dsimp only
    split
    · exact h.setEngine l _
    · exact (h.setEngine l _).giveOutcome _ _
  unfold State.recover
  dsimp only
  split
  · exact reset.setEngine l _
  · exact h.setEngine l _

theorem watchdogExpires (h : s.KeepsSlots t) (l : Line) : s.KeepsSlots (t.watchdogExpires l) :=
  ((h.countStuck l).atOnce t).recover l

theorem ringLoaded (h : s.KeepsSlots t) (l : Line) : s.KeepsSlots (t.ringLoaded l) := by
  have cut := h.setEngine l { t.engine l with cut := true }
  unfold State.ringLoaded
  dsimp only
  split
  · split
    · exact (cut.setEngine l _).endPass l
    · exact cut
  · exact cut.setEngine l _
  · exact cut.setEngine l _
  · exact cut

end Sys2Proof.Machine.State.KeepsSlots
end

section
/-! SUPPORT. Runtime records and serial numbers under every command and every tick. -/

namespace Sys2Proof.Machine

/-! The proofs are elaborated one after another, so that the check stays within its memory limit. -/

set_option Elab.async false

namespace State.KeepsSlots

variable {s t : State}

/-! ### The counter link (R9, R16, R20, R21) -/

theorem goodFrame (h : s.KeepsSlots t) : s.KeepsSlots t.goodFrame := by
  unfold State.goodFrame
  dsimp only
  split
  · have woken : s.KeepsSlots (t.setLink t.link.goodFrame).clearStandby := foldl (fun _ k h => h.setLane k _) _ (h.setLink _)
    exact woken.raiseNotice _ _ _
  · exact h.setLink _

theorem requestFrame (h : s.KeepsSlots t) (body : List Byte) : s.KeepsSlots (t.requestFrame body) := by
  unfold State.requestFrame State.latchRequest
  split
  · exact h.goodFrame.setLink _
  · exact (h.goodFrame.setLink _).raiseNotice _ _ _

theorem laneFrame (h : s.KeepsSlots t) (k : LaneNo) (body : List Byte) : s.KeepsSlots (t.laneFrame k body) :=
  h.goodFrame.parseBody k _ _ _ body

theorem linkChar (h : s.KeepsSlots t) (ch : Option Byte) : s.KeepsSlots (t.linkChar ch) := by
  unfold State.linkChar State.frameEnded
  dsimp only
  split
  · exact h.setLink _
  · exact (h.setLink _).setLink _
  · next good _ =>
    cases good with
    | laneCommands k body => exact ((h.setLink _).laneFrame k body).selectByRank
    | request body => exact ((h.setLink _).requestFrame body).selectByRank

theorem goQuiet (h : s.KeepsSlots t) : s.KeepsSlots t.goQuiet := foldl (fun _ k h => h.standbyLane k) _ (h.setLink _)

theorem resetRun_ok (r : UnitRecord) : (resetRun r).Ok ∧ ((resetRun r).presence = .disabled ↔ r.enabled = false) := by
  cases enabled : r.enabled <;> simp [resetRun, enabled, UnitRun.Ok, Directives.Ok, Config.maxAttempts]

/-- A soft reset empties every directive set and every queue (R21, R103). -/
theorem softReset (s t : State) : s.KeepsSlots t.softReset := by
  rw [State.softReset_eq]
  refine ⟨fun _ n => ?_, fun _ => ⟨fun n d p held => ?_, fun k r queued => ?_⟩⟩
  · simpa [State.unit, State.record] using resetRun_ok (t.effective n)
  · simp only [State.unit, Fin.getElem_fin, Vector.getElem_ofFn] at held
    cases d <;> simp [resetRun, Directives.get] at held
  · simp [State.outQueue] at queued

theorem hardwareReset (s t : State) : s.KeepsSlots t.hardwareReset := by
  obtain ⟨_, _, _, _, units, serials, _⟩ := Proofs.resetMeetsTheInvariants
  exact ⟨fun _ => units, fun _ => serials⟩

theorem frameSent (h : s.KeepsSlots t) (f : Frame) : s.KeepsSlots (t.frameSent f) := by
  unfold State.frameSent
  cases f.brings with
  | nothing => exact (h.setLink _).selectByRank
  | linkSettings new => exact ((h.setLink _).setLink _).selectByRank
  | softReset => exact (softReset s _).selectByRank

/-! ### Requests (R22, R23) -/

/-- MGU takes a request whose execution keeps the slots in order. -/
theorem takeRequest (h : s.KeepsSlots t) (code : Byte) {execute : List Byte → State → State}
    (executed : ∀ args u, s.KeepsSlots u → s.KeepsSlots (execute args u)) : s.KeepsSlots (t.takeRequest code execute) := by
  rcases t.takeRequest_cases code execute with e | ⟨args, _, _, e⟩ <;> rw [e]
  · exact h
  · exact executed args _ (h.setLink _)

theorem takeUnknown (h : s.KeepsSlots t) : s.KeepsSlots t.takeUnknown := by
  unfold State.takeUnknown
  split
  · exact h
  · split <;> exact h.same
  · split <;> exact h.same

theorem indexed (h : s.KeepsSlots t) {code : Byte} {len bound : Nat} {args : List Byte}
    {execute : Fin bound → List Byte → State} (executed : ∀ i fields, s.KeepsSlots (execute i fields)) :
    s.KeepsSlots (t.indexed code len bound args execute) := by
  unfold State.indexed
  split
  · exact h.same
  · split
    · exact h.same
    · split
      · exact executed _ _
      · exact h.same

theorem valued (h : s.KeepsSlots t) {α : Type} {code : Byte} {check : FieldCheck α} {execute : α → State}
    (executed : ∀ x, s.KeepsSlots (execute x)) : s.KeepsSlots (t.valued code check execute) := by
  unfold State.valued
  split
  · exact h.same
  · exact executed _

theorem ofScope (h : s.KeepsSlots t) {code : Byte} {args : List Byte} {execute : Scope → State}
    (executed : ∀ scope, s.KeepsSlots (execute scope)) : s.KeepsSlots (t.scoped code args execute) := by
  unfold State.scoped
  split
  · split
    · exact h.same
    · exact executed _
  · exact h.same

theorem acceptUnit (h : s.KeepsSlots t) (n : SlotNo) (r : UnitRecord) (received : List Byte) :
    s.KeepsSlots (t.acceptUnit n r received) := by
  have staged : (t.setEntry n ⟨t.record n, some r⟩).record = t.record := funext fun m => by
    by_cases same : m = n
    · subst same
      rw [State.record_setEntry_same]
    · rw [State.record_setEntry_other _ _ same]
  unfold State.acceptUnit
  split
  · exact (h.applyRecord n r).same
  · split
    · exact (h.applyRecord n r).same
    · exact h.same rfl staged

theorem loadUnitOn (args : List Byte) (t : State) (h : s.KeepsSlots t) : s.KeepsSlots (loadUnitOn args t) := by
  refine h.indexed fun n fields => h.valued fun r => ?_
  split
  · exact h.same
  · split
    · exact h.same
    · exact h.acceptUnit n r fields

theorem loadLaneOn (args : List Byte) (t : State) (h : s.KeepsSlots t) : s.KeepsSlots (loadLaneOn args t) := by
  refine h.indexed fun k fields => h.valued fun r => ?_
  split <;> exact h.same

theorem loadRingOn (args : List Byte) (t : State) (h : s.KeepsSlots t) : s.KeepsSlots (loadRingOn args t) := by
  unfold Machine.loadRingOn
  split
  · split
    · exact h.same
    · split
      · exact h.same
      · next l _ =>
        refine h.valued fun ring => ?_
        have loaded : s.KeepsSlots (t.setRing l ring) := h.same
        split
        · exact h.same
        · exact (loaded.ringLoaded l).same
  · exact h.same

theorem loadPartitionOn (args : List Byte) (t : State) (h : s.KeepsSlots t) : s.KeepsSlots (loadPartitionOn args t) := by
  unfold Machine.loadPartitionOn
  split
  · exact h.same
  · refine h.valued fun sizes => ?_
    split <;> exact h.same

theorem setLinkOn (args : List Byte) (t : State) (h : s.KeepsSlots t) : s.KeepsSlots (setLinkOn args t) := by
  unfold Machine.setLinkOn
  split
  · exact h.same
  · exact h.valued fun _ => h.same

theorem setLineOn (args : List Byte) (t : State) (h : s.KeepsSlots t) : s.KeepsSlots (setLineOn args t) := by
  unfold Machine.setLineOn
  split
  · exact h.same
  · split
    · exact h.same
    · split
      · exact h.same
      · exact h.valued fun _ => h.same

theorem readStatusOn (args : List Byte) (t : State) (h : s.KeepsSlots t) : s.KeepsSlots (readStatusOn args t) := by
  unfold Machine.readStatusOn
  split <;> exact h.same

theorem clearCountersOn (args : List Byte) (t : State) (h : s.KeepsSlots t) : s.KeepsSlots (clearCountersOn args t) := by
  refine h.ofScope fun scope => ?_
  have cleared : s.KeepsSlots (t.clearCounters scope) := by
    cases scope with
    | link => exact h.setLink _
    | line l => exact h.setEngine l _
    | slot n => exact h.sameUnit
    | all => exact foldl (fun _ _ h => h.sameUnit) _ (((h.setLink _).setEngine .a _).setEngine .b _)
  exact cleared.same

theorem softResetOn (args : List Byte) (t : State) (h : s.KeepsSlots t) : s.KeepsSlots (softResetOn args t) := by
  unfold Machine.softResetOn
  split <;> exact h.same

/-! ### Ticks -/

theorem tickEvent (h : s.KeepsSlots t) (e : TickEvent) : s.KeepsSlots (t.tickEvent e) := by
  unfold State.tickEvent
  split
  · refine selectNew ?_
    cases e with
    | silence => exact h.goQuiet
    | decision k => exact h.decisionExpires k
    | watchdog l =>
      dsimp only
      unfold State.watchdogTick
      split
      · have told := ((h.countStuck l).countStuck (otherLine l)).atOnce t
        exact ((((told.recover l).atOnce _).recover _).refresh l).refresh _
      · exact (h.watchdogExpires l).refresh l
    | pass l => exact (h.beginPass l).refresh l
  · exact h

theorem takeEvents (h : s.KeepsSlots t) (fuel : Nat) (events : List TickEvent) :
    s.KeepsSlots (t.takeEvents fuel events) := by
  induction fuel generalizing t events with
  | zero => exact h
  | succ fuel ih =>
    rw [State.takeEvents]
    split
    · exact h
    · refine ih (tickEvent ?_ _) _
      unfold State.countChoice
      split <;> exact h.same

theorem tick (s : State) : s.KeepsSlots s.tick := by
  have counted : s.KeepsSlots s.countTick := by
    rw [State.countTick_eq]
    exact refl.same
  exact (counted.takeEvents _ _).selectNew

end State.KeepsSlots

/-! ### Commands -/

/-- A command ends in a state that comes of `s` with its slots kept in order. -/
def State.EndsKeeping (s : State) (o : Host.Outcome State Fault Refusal) : Prop := ∃ t, o = .next t ∧ s.KeepsSlots t

namespace State.EndsKeeping

variable {s t : State} {l : Line}

theorem finish (h : s.KeepsSlots t) : s.EndsKeeping (finish t) := ⟨_, rfl, h.selectNew⟩

theorem finishFrame (h : s.KeepsSlots t) : s.EndsKeeping (finishFrame t) := ⟨_, rfl, h.selectByRank⟩

theorem finishLine (h : s.KeepsSlots t) : s.EndsKeeping (finishLine l t) := finish (h.refresh l)

/-- A line command that acts only in its moment. -/
theorem lineIf {p : Prop} [Decidable p] (h : s.KeepsSlots t) :
    s.EndsKeeping (if p then Machine.finishLine l t else Machine.finish s) := by
  split
  · exact finishLine h
  · exact finish .refl

end State.EndsKeeping

/-- A command at a drop line. -/
theorem exec_atLine_keepsSlots {l : Line} {c : Instr} (at_line : c.atLine = some l) (s : State) :
    s.EndsKeeping (exec c s) := by
  have still : s.KeepsSlots s := .refl
  cases c <;> try cases at_line
  case telegram => exact .lineIf ((still.wakeEngine l).sendTelegram l)
  case sweep => exact .lineIf ((still.wakeEngine l).sendProbe l)
  case transmissionComplete => exact .lineIf (still.setEngine l _)
  case echoConflict index readBack => exact .lineIf ((still.setEngine l _).afterConflict l)
  case replyCharacter ch => exact .lineIf (still.deliver l ch)
  case guardRunsOut => exact .lineIf ((still.setEngine l _).advance l)
  case sweepAnswerCharacter ch => exact .lineIf (still.deliver l ch)
  case strayCharacter ch => exact .lineIf (still.deliver l ch)
  case chatterIntervalEnds => exact .lineIf (still.setEngine l _)
  case breakEnds => exact .lineIf (still.setEngine l _)
  case lineWatchdog => exact .lineIf (still.watchdogExpires l)
  case startEdge accepted =>
    refine .lineIf ?_
    unfold State.startEdge
    dsimp only
    split
    · exact still.setEngine l _
    · split <;> exact still.same
  case noReply =>
    show s.EndsKeeping (execNoReply l s)
    unfold execNoReply
    split
    · exact .finishLine (still.endExchange l _ _ _)
    · exact .finish still
  case reply chars =>
    show s.EndsKeeping (execReply l chars s)
    unfold execReply
    split
    · exact .finish (still.deliverRun l chars)
    · exact .finish still
  case truncated =>
    show s.EndsKeeping (execTruncated l s)
    unfold execTruncated
    split
    · split
      · exact .finish still
      · exact .finishLine (still.endExchange l _ _ _)
    · exact .finish still
  case passBegins =>
    show s.EndsKeeping (execPassBegins l s)
    unfold execPassBegins
    split
    · exact .finishLine (still.beginPass l)
    · exact .lineIf (still.beginPass l)
  case sweepReplyWindow =>
    show s.EndsKeeping (execSweepReplyWindow l s)
    unfold execSweepReplyWindow
    split
    · exact .finishLine (still.endProbe l _ _)
    · exact .finish still
  case sweepGap =>
    show s.EndsKeeping (execSweepGap l s)
    unfold execSweepGap
    split
    · split
      · exact .finish still
      · exact .finishLine (still.endProbe l _ _)
    · exact .finish still

/-- Every command keeps the slots in order. -/
theorem exec_keepsSlots (c : Instr) (s : State) : s.EndsKeeping (exec c s) := by
  have still : s.KeepsSlots s := .refl
  have row (k : LaneNo) (cmd : LaneCmd) (rest : List Byte) : s.EndsKeeping (laneCommand k cmd rest s) :=
    .finishFrame (((still.setLink _).goodFrame.perform k _ _ _).parseBody k _ _ _ _)
  cases c with
  | hardwareReset => exact .finishFrame (.hardwareReset s s)
  | linkCharacter data stop => exact .finish (by split; exacts [still, still.linkChar _])
  | request body => exact .finishFrame ((still.setLink _).requestFrame body)
  | laneCommands k body => exact .finishFrame ((still.setLink _).laneFrame k body)
  | openLane k tag rest => exact row k (.openLane tag) rest
  | closeLane k rest => exact row k .close rest
  | clearLane k rest => exact row k .clear rest
  | showText k place report text rest => exact row k (.showText place report text) rest
  | tone k pattern report rest => exact row k (.tone pattern report) rest
  | reader k onOff report rest => exact row k (.reader onOff report) rest
  | entry k count dot echo chain report rest => exact row k (.entry count dot echo chain report) rest
  | pin k min max chain report rest => exact row k (.pin min max chain report) rest
  | unlock k report rest => exact row k (.unlock report) rest
  | decideCard k choice rest => exact row k (.decideCard choice) rest
  | loadUnit => exact .finish (still.takeRequest 1 State.KeepsSlots.loadUnitOn)
  | readUnit => exact .finish (still.takeRequest 2 fun _ _ h => h.indexed fun _ _ => h.same)
  | loadLane => exact .finish (still.takeRequest 3 State.KeepsSlots.loadLaneOn)
  | readLane => exact .finish (still.takeRequest 4 fun _ _ h => h.indexed fun _ _ => h.same)
  | loadKeymap => exact .finish (still.takeRequest 5 fun _ _ h => h.indexed fun _ _ => h.same)
  | loadPolicy => exact .finish (still.takeRequest 6 fun _ _ h => h.indexed fun _ _ => h.valued fun _ => h.same)
  | loadRing => exact .finish (still.takeRequest 7 State.KeepsSlots.loadRingOn)
  | loadPrompt => exact .finish (still.takeRequest 8 fun _ _ h => h.indexed fun _ _ => h.same)
  | loadPartition => exact .finish (still.takeRequest 9 State.KeepsSlots.loadPartitionOn)
  | setLink => exact .finish (still.takeRequest 10 State.KeepsSlots.setLinkOn)
  | setLine => exact .finish (still.takeRequest 11 State.KeepsSlots.setLineOn)
  | readStatus => exact .finish (still.takeRequest 12 State.KeepsSlots.readStatusOn)
  | readCounters => exact .finish (still.takeRequest 13 fun _ _ h => h.ofScope fun _ => h.same)
  | clearCounters => exact .finish (still.takeRequest 14 State.KeepsSlots.clearCountersOn)
  | softReset => exact .finish (still.takeRequest 15 State.KeepsSlots.softResetOn)
  | unknownRequest => exact .finish still.takeUnknown
  | closingDelimiter =>
    show s.EndsKeeping (execClosingDelimiter s)
    unfold execClosingDelimiter
    split
    · exact .finish still
    · exact .finish still
    · exact .finish (still.frameSent _)
  | silenceTimerExpiry => exact .finish (by split; exacts [still.goQuiet, still])
  | decisionTimerExpiry k => exact .finish (still.decisionExpires k)
  | linkStartEdge accepted =>
    refine .finish ?_
    split
    · split <;> exact still.setLink _
    · exact still
  | lrxdAtMark => exact .finish (by split; exacts [still.setLink _, still])
  | telegram l | sweep l | transmissionComplete l | echoConflict l _ _ | noReply l | replyCharacter l _ | reply l _
  | truncated l | guardRunsOut l | passBegins l | sweepReplyWindow l | sweepAnswerCharacter l _ | sweepGap l
  | strayCharacter l _ | chatterIntervalEnds l | breakEnds l | lineWatchdog l | startEdge l _ =>
    exact exec_atLine_keepsSlots (l := l) rfl s

end Sys2Proof.Machine

namespace Sys2Proof.Proofs

open Sys2Proof.Machine

/-- Settles O7: every command and every tick is made of acts that replace a slot's runtime record by one that may follow it,
and that number what joins a set or a queue with the next serial number. -/
theorem slotsAgreeWithTheirPresence : Obligations.SlotsAgreeWithTheirPresence := by
  intro s t next
  suffices kept : s.KeepsSlots t from kept
  cases waiting : s.pending with
  | nil =>
    rw [step, waiting] at next
    cases next
    exact .tick s
  | cons c rest =>
    rw [step, waiting] at next
    obtain ⟨u, ends, kept⟩ := exec_keepsSlots c { s with pending := rest }
    cases ends.symm.trans next
    exact kept

end Sys2Proof.Proofs
end

section
/-! SUPPORT. STATUS replies: what a flag byte is examined as, what is done about it, and the record it gives (R110 to R112,
R150). -/

namespace Sys2Proof.Machine

section

variable {s : State} {k : LaneNo} {n : SlotNo} {b : Byte}

/-! ### What is examined (R110 to R112) -/

theorem statusEffect_first (pending : Option StatusFlags) (b : Byte) :
    statusEffect none pending b = .baseline (StatusFlags.ofByte b) := rfl

theorem statusEffect_fresh {old : StatusFlags} (pending : Option StatusFlags) (fresh : b.getLsbD 3 = true) :
    statusEffect (some old) pending b = .restart := if_pos fresh

theorem statusEffect_stale {old : StatusFlags} (pending : Option StatusFlags) (stale : b.getLsbD 3 = false) :
    statusEffect (some old) pending b =
      if StatusFlags.ofByte b = old then .unchanged
      else if pending = some (StatusFlags.ofByte b) then .adopted old (StatusFlags.ofByte b)
      else .noted (StatusFlags.ofByte b) := if_neg (ne_true_of_eq_false stale)

theorem statusEffect_unchanged {old : StatusFlags} (pending : Option StatusFlags) (stale : b.getLsbD 3 = false)
    (same : StatusFlags.ofByte b = old) : statusEffect (some old) pending b = .unchanged := by
  rw [statusEffect_stale _ stale, if_pos same]

theorem statusEffect_adopted {old : StatusFlags} {pending : Option StatusFlags} (stale : b.getLsbD 3 = false)
    (other : StatusFlags.ofByte b ≠ old) (sure : pending = some (StatusFlags.ofByte b)) :
    statusEffect (some old) pending b = .adopted old (StatusFlags.ofByte b) := by
  rw [statusEffect_stale _ stale, if_neg other, if_pos sure]

theorem statusEffect_noted {old : StatusFlags} {pending : Option StatusFlags} (stale : b.getLsbD 3 = false)
    (other : StatusFlags.ofByte b ≠ old) (unsure : pending ≠ some (StatusFlags.ofByte b)) :
    statusEffect (some old) pending b = .noted (StatusFlags.ofByte b) := by
  rw [statusEffect_stale _ stale, if_neg other, if_neg unsure]

/-! ### What is done about it (R111, R148, R150) -/

/-- A reader's reply, and any reply while the lane's window carries no mark, is taken by the lane as it stands (R159). -/
theorem State.unmarked_of_status (free : (s.record n).kind = .reader ∨
    ∀ w, (s.lane k).window = some w → w.carryOver = none) : s.unmarked k n = s := by
  rcases free with reader | mark
  · have same : (s.lane k).unmarked (s.record n).kind = s.lane k := by simp [LaneRecord.unmarked, reader]
    rw [State.unmarked_eq, same, State.setLane_self]
  · exact (State.unmarked_of mark n).1

/-- Only an adopted change gives a record, and none in CLOSING and FAULTED (R150). -/
theorem State.statusRecord_eq_none {e : StatusEffect}
    (silent : (∀ old new, e ≠ .adopted old new) ∨ (s.lane k).phase = .closing ∨ (s.lane k).phase = .faulted) :
    s.statusRecord k n e = none := by
  cases e with
  | adopted old new =>
    rcases silent with other | closing | faulted
    · exact absurd rfl (other old new)
    · simp [State.statusRecord, closing]
    · simp [State.statusRecord, faulted]
  | baseline | restart | unchanged | noted => simp [State.statusRecord]

theorem State.statusRecord_adopted {old new : StatusFlags} (closing : (s.lane k).phase ≠ .closing)
    (faulted : (s.lane k).phase ≠ .faulted) :
    s.statusRecord k n (.adopted old new) =
      some (eventRecord .statusChange (s.lane k).tag [old.toByte, new.toByte, (s.record n).kind.role]) := by
  unfold State.statusRecord
  split <;> simp_all

/-- A reply without a record: refused in FAULTED, accepted elsewhere, and examined either way. -/
theorem State.takeStatus_silent {e : StatusEffect} (examined : statusEffect (s.unit n).baseline (s.unit n).pendingFlags b = e)
    (silent : s.statusRecord k n e = none) :
    s.takeStatus k n b = ⟨if (s.lane k).phase = .faulted then .refuse else .accept, s.applyStatus n e⟩ := by
  rw [State.takeStatus, examined, silent]
  split <;> rfl

/-- A reply with a record, in a lane that is not FAULTED: accepted where it fits, held elsewhere (R124). -/
theorem State.takeStatus_recorded {e : StatusEffect} {r : List Byte}
    (examined : statusEffect (s.unit n).baseline (s.unit n).pendingFlags b = e) (record : s.statusRecord k n e = some r)
    (faulted : (s.lane k).phase ≠ .faulted) :
    s.takeStatus k n b =
      if s.inFits k r.length then ⟨.accept, (s.applyStatus n e).storeIn k r⟩ else ⟨.hold, s⟩ := by
  simp only [State.takeStatus, examined, record, if_neg faulted]
  rfl

/-- A restart is followed to the slot's lane (R112). -/
theorem State.applyStatus_restart (lane : s.currentLane n = some k) :
    s.applyStatus n .restart = (s.setUnit n (s.unit n).again).laneUnitRestart k n := by
  have current : (s.setUnit n (s.unit n).again).currentLane n = some k := lane
  simp only [State.applyStatus, State.restartDetected]
  split
  · next none => exact absurd (current.symm.trans none) nofun
  · next j some =>
    cases current.symm.trans some
    rfl

end

end Sys2Proof.Machine

namespace Sys2Proof.Proofs

open Sys2Proof.Machine

/-- Settles O58: the flag byte decides what the reply is examined as, and the lane's phase whether it gives a record. -/
theorem statusChangesAreAdopted : Obligations.StatusChangesAreAdopted := by
  unfold Obligations.StatusChangesAreAdopted
  intro s k n seq taken busy b lane u took verdict now reported role byte free
  have takes : took = s.takeStatus k n b := congrArg (State.takeStatus · k n b) (State.unmarked_of_status free)
  have silent {e : StatusEffect} (examined : statusEffect u.baseline u.pendingFlags b = e)
      (quiet : (∀ old new, e ≠ .adopted old new) ∨ lane.phase = .closing ∨ lane.phase = .faulted) :
      took = ⟨verdict, s.applyStatus n e⟩ :=
    takes.trans (State.takeStatus_silent examined (State.statusRecord_eq_none quiet))
  have accepts (other : lane.phase ≠ .faulted) : verdict = .accept := if_neg other
  refine ⟨fun first => ?_, fun old known => ⟨fun fresh => ?_, fun stale => ⟨fun same => ?_, fun other unsure => ?_,
    fun other sure => ?_⟩⟩⟩
  · exact silent (first ▸ statusEffect_first _ b) (.inl fun _ _ => StatusEffect.noConfusion)
  · intro again restarted current
    have restarts {t : State} (told : restarted.laneUnitRestart k n = t) : took = ⟨verdict, t⟩ := by
      rw [silent (known ▸ statusEffect_fresh _ fresh) (.inl fun _ _ => StatusEffect.noConfusion), State.applyStatus_restart current]
      exact congrArg (Taking.mk verdict) told
    refine ⟨fun unused => restarts (State.laneUnitRestart_unused unused), fun used undecided => ?_, fun closing => ?_⟩
    · rw [← accepts (by rcases used with phase | phase <;> simp [phase])]
      exact restarts (State.laneUnitRestart_used used undecided)
    · have waives := State.laneUnitRestart_closing (s := restarted) (n := n) closing
      rw [← accepts (by simp [closing])]
      exact ⟨fun waits => restarts (waives.trans (State.confirmMove_waits closing waits)),
        fun last none fits => restarts (waives.trans (State.confirmMove_closes closing last none fits))⟩
  · exact silent (known ▸ statusEffect_unchanged _ stale same) (.inl fun _ _ => StatusEffect.noConfusion)
  · exact silent (known ▸ statusEffect_noted stale other unsure) (.inl fun _ _ => StatusEffect.noConfusion)
  · intro adopted
    have examined : statusEffect u.baseline u.pendingFlags b = .adopted old reported :=
      known ▸ statusEffect_adopted stale other sure
    refine ⟨fun quiet => silent examined (.inr quiet), fun served => ?_⟩
    have closing : lane.phase ≠ .closing := by rcases served with phase | phase | phase <;> simp [phase]
    have faulted : lane.phase ≠ .faulted := by rcases served with phase | phase | phase <;> simp [phase]
    have record : s.statusRecord k n (.adopted old reported) =
        some [7, 0x0D, hiByte lane.tag, loByte lane.tag, byte old, byte reported, role] := by
      have coded : (s.record n).kind.role = role := by
        simp only [role]
        cases (s.record n).kind <;> rfl
      rw [State.statusRecord_adopted closing faulted, coded]
      rfl
    have recorded := takes.trans (State.takeStatus_recorded examined record faulted)
    exact ⟨fun fits => recorded.trans (if_pos fits), fun full => recorded.trans (if_neg (by simp [full]))⟩

end Sys2Proof.Proofs
end
